-- ==== Sys2Proof/Word.lean ====
section
/-! DEFINITION. The plainest units of the host link: one byte of a frame (R175). -/

namespace Sys2Proof

/-- One byte of the host link or of a printer line (R175, R196). -/
abbrev Byte := BitVec 8

end Sys2Proof
end

