-- ==== Sys2Proof/Syntax.lean ====
section
/-! DEFINITION. The commands of the Noflar 620, one constructor for each row of spec/opcode_table.json.

A row that is a host request carries the tag and the payload bytes of its frame (R175); the payload is read by
the readers of Machine/Operands.lean (R177). A row that is an event of the plant, of a link or of a timer
carries what the event brings. -/

namespace Sys2Proof

/-- The two photo eyes of the planer line (R110). -/
inductive Eye where
  | infeed | outfeed
deriving DecidableEq, Repr

/-- The two analogue converters (R105): A serves METER_IN, B serves TEMP_IN. -/
inductive Converter where
  | a | b
deriving DecidableEq, Repr

/-- The two ways a field bus transfer attempt fails (section 5.4). -/
inductive BusFailure where
  | nack | unexpectedStop
deriving DecidableEq, Repr

/-- What the plant and the non-volatile array show the part while a start is taken: the electrical level of each
terminal pin (bit n for Tn, R98, R108), the first conversion of each analogue converter (R108), the
locations whose stored check value fails (bit n for slot or species n, R14), and whether the host receive line stands at its
idle level when the start is taken (R193). -/
structure StartInputs where
  pins : BitVec 16
  meterCount : BitVec 12
  tempCount : BitVec 12
  failedSlots : BitVec 16
  failedSpecies : BitVec 8
  lineIdle : Bool
deriving DecidableEq, Repr

/-- The commands. -/
inductive Instr where
  -- settings store
  | scheduleStore (tag : Byte) (payload : List Byte)
  | scheduleRead (tag : Byte) (payload : List Byte)
  | scheduleErase (tag : Byte) (payload : List Byte)
  | speciesStore (tag : Byte) (payload : List Byte)
  | speciesRead (tag : Byte) (payload : List Byte)
  | speciesErase (tag : Byte) (payload : List Byte)
  | storeQuery (tag : Byte) (payload : List Byte)
  | storeWriteComplete (verifyGood : Bool)
  -- charge table
  | chargeCreate (tag : Byte) (payload : List Byte)
  | chargeClose (tag : Byte) (payload : List Byte)
  | chargeQuery (tag : Byte) (payload : List Byte)
  | chargeList (tag : Byte) (payload : List Byte)
  | feed (tag : Byte) (payload : List Byte)
  | feedEnd (tag : Byte) (payload : List Byte)
  -- kiln unit
  | kilnConfig (tag : Byte) (payload : List Byte)
  | kilnLoad (tag : Byte) (payload : List Byte)
  | sampleDefine (tag : Byte) (payload : List Byte)
  | sampleExclude (tag : Byte) (payload : List Byte)
  | sampleInclude (tag : Byte) (payload : List Byte)
  | kilnStart (tag : Byte) (payload : List Byte)
  | kilnAdvance (tag : Byte) (payload : List Byte)
  | kilnHold (tag : Byte) (payload : List Byte)
  | kilnPark (tag : Byte) (payload : List Byte)
  | kilnResume (tag : Byte) (payload : List Byte)
  | kilnUnload (tag : Byte) (payload : List Byte)
  | kilnQuery (tag : Byte) (payload : List Byte)
  | secondTick
  | kilnMinuteTick
  -- field bus controller
  | climatePollDue (kiln : Fin 6)
  | scanDue (kiln : Fin 6)
  /-- The fields a module returns (R89). Chapter 5 gives the two temperatures no width: DESIGN CHOICE, 16 bits, signed (log entry
  27). -/
  | climateExchangeDone (dryBulb wetBulb : BitVec 16) (status : Byte)
  /-- The weight a module returns (R90). Chapter 5 gives it no width: DESIGN CHOICE, 16 bits, so no weight above 65535 is returned
  (log entry 27). -/
  | weighDone (weight : BitVec 16)
  | transferAttemptFailed (failure : BusFailure)
  | busQuery (tag : Byte) (payload : List Byte)
  -- line terminal block
  | terminalAssign (tag : Byte) (payload : List Byte)
  | terminalSet (tag : Byte) (payload : List Byte)
  | terminalRead (tag : Byte) (payload : List Byte)
  | generalInPinChange (terminal : Fin 16) (high : Bool)
  | generalInFilterExpiry (terminal : Fin 16)
  | meterFaultInputChange (high : Bool)
  | conversionComplete (converter : Converter) (count : BitVec 12)
  -- board tracker
  | eyeChange (eye : Eye) (high : Bool)
  | encoderPulse
  | lineConfig (tag : Byte) (payload : List Byte)
  | lineStart (tag : Byte) (payload : List Byte)
  | lineStop (tag : Byte) (payload : List Byte)
  | knifeReset (tag : Byte) (payload : List Byte)
  | lineQuery (tag : Byte) (payload : List Byte)
  -- pack builder
  | packClose (tag : Byte) (payload : List Byte)
  | packTarget (tag : Byte) (payload : List Byte)
  | bayCleared (tag : Byte) (payload : List Byte)
  | packQuery (tag : Byte) (payload : List Byte)
  | stackerQuery (tag : Byte) (payload : List Byte)
  -- label unit
  | labelEndSent
  | ackReceived
  | nakReceived
  | busyReceived
  | printerLineOther (line : List Byte)
  | answerTimeout
  | retryTimerExpiry
  | reprint (tag : Byte) (payload : List Byte)
  | labelQuery (tag : Byte) (payload : List Byte)
  -- fault unit
  | faultConfig (tag : Byte) (payload : List Byte)
  | faultActions (tag : Byte) (payload : List Byte)
  | faultLogClear (tag : Byte) (payload : List Byte)
  | faultCountClear (tag : Byte) (payload : List Byte)
  | faultQuery (tag : Byte) (payload : List Byte)
  | faultConfigQuery (tag : Byte) (payload : List Byte)
  -- message port
  | frameReceived (kind tag : Byte) (payload : List Byte) (check : BitVec 16)
  | frameGapTimeout
  | unknownRequest (kind tag : Byte) (payload : List Byte)
  | transmitComplete
  | reportsDropped
  | subscribe (tag : Byte) (payload : List Byte)
  | superviseArm (tag : Byte) (payload : List Byte)
  | superviseRefresh (tag : Byte) (payload : List Byte)
  | supervisionExpiry
  | setClock (tag : Byte) (payload : List Byte)
  | clearStartCauses (tag : Byte) (payload : List Byte)
  | statusQuery (tag : Byte) (payload : List Byte)
  | restart (tag : Byte) (payload : List Byte)
  | restartWarmStart (inputs : StartInputs)
  | breakWarmStart (inputs : StartInputs)
  | powerColdStart (inputs : StartInputs)
  | pinColdStart (inputs : StartInputs)
  | hostByteReceived (byte : Byte)
  | byteWithoutStopBit
  | receiveLineIdle
  | encoderFallingEdge
deriving DecidableEq, Repr

end Sys2Proof
end

