-- ==== Sys2Proof/Decode.lean ====
section
/-! DEFINITION. The table of commands gives no row any bits, so a word spells no command. What the part does decode, the
frame of the host link and the fields of its payload, stands in Machine/Port.lean (R178, R180) and Machine/Operands.lean
(R177). -/

namespace Sys2Proof

/-- The command a word spells by the table's bits: none, since no row of spec/opcode_table.json gives bits. -/
def decodeTableWord (_nbits _w : Nat) : Option Instr := none

end Sys2Proof
end

