-- ==== Sys2Proof/Config.lean ====
section
/-! DEFINITION. The values the spec leaves open: each is a constant with no body, so that nothing can be proved
of it beyond its type, and every claim that meets one holds whatever the value is. -/

namespace Sys2Proof.Config

/-- The count the first conversion of an analogue terminal gives inside a TERMINAL-ASSIGN event (R101, R105): the
voltage at the pin is the plant's, and no command carries it. The argument is the use's own number
(`State.freeCount`). Log entry 8. -/
opaque firstConversion : Nat → BitVec 12

/-- The electrical level found at a pin that an output or analogue function leaves and a digital input takes over
(R101 step 4): the plant drives it, and no command has told it. The argument is the use's own number
(`State.freeCount`). Log entry 8. -/
opaque releasedPinHigh : Nat → Bool

/-- What a planer count or the statistics count of a charge becomes when it stands at 4 294 967 295 and is raised
(R35 gives the range, no rule gives the value). The argument is the charge number. Log entry 9. -/
opaque planerCountPastTop : Nat → BitVec 32

/-- What the sum of board means of a charge becomes when a mean would take it past 48 bits (R35 gives the width, no rule
the value). The argument is the charge number. Log entry 9. -/
opaque meanSumPastTop : Nat → BitVec 48

/-- What total elapsed of a kiln becomes when it stands at 4 294 967 295 minutes and is raised (R53 gives the
range, R62 the rise, no rule the value). The argument is the kiln. Log entry 9. -/
opaque totalElapsedPastTop : Nat → BitVec 32

end Sys2Proof.Config
end

