-- ==== Sys2Proof/Machine/Types.lean ====
section
/-! DEFINITION. The records of every block, as the chapters table them. Plain data; counts, numbers, moisture figures and
lengths are natural numbers in the manual's units, temperatures are integers in tenths of a degree. -/

namespace Sys2Proof.Machine

/-- A plant clock reading in whole seconds with its not-set mark (R35, R194). -/
structure Time where
  reading : Nat
  notSet : Bool
deriving DecidableEq, Repr

/-! ## Settings store (chapter 1) -/

/-- How a schedule step is left (section 1.2): an MC threshold, or a length in minutes. -/
inductive Leave where
  | mc (threshold : Nat)
  | time (minutes : Nat)
deriving DecidableEq, Repr

/-- One step entry of a schedule record (section 1.2). -/
structure ScheduleStep where
  target : Int
  depression : Int
  leave : Leave
  maxDuration : Option Nat
deriving DecidableEq, Repr

/-- A schedule record (section 1.2). A schedule has at least one step, so step 0 stands by itself. -/
structure Schedule where
  name : List Byte
  species : Nat
  thicknessClass : Nat
  firstStep : ScheduleStep
  laterSteps : List ScheduleStep
  rampRate : Nat
  finalTarget : Nat
  equaliseDepression : Int
  equaliseTolerance : Nat
  conditionDepression : Int
  conditionDuration : Nat
deriving DecidableEq, Repr

/-- The steps in order, step 0 first. -/
abbrev Schedule.steps (r : Schedule) : List ScheduleStep := r.firstStep :: r.laterSteps

/-- One calibration point: a raw count and the moisture it stands for (section 1.3). -/
structure CalibrationPoint where
  raw : Nat
  mc : Nat
deriving DecidableEq, Repr

/-- A species entry (section 1.3). It has at least two points; the first stands by itself. -/
structure SpeciesEntry where
  name : List Byte
  firstPoint : CalibrationPoint
  laterPoints : List CalibrationPoint
  coefficient : Nat
  dryLimit : Nat
  wetLimit : Nat
  spotLimit : Nat
deriving DecidableEq, Repr

/-- A schedule slot and what it lends (section 1.2, R7). -/
inductive Slot where
  | empty
  | valid (r : Schedule)
  | writing
  | invalid
deriving DecidableEq, Repr

/-- A species entry's place and what it lends (section 1.3, R10). While WRITING it keeps the content it had if it was
PRESENT immediately before the store was accepted (R8). -/
inductive SpeciesPlace where
  | absent
  | present (e : SpeciesEntry)
  | writing (former : Option SpeciesEntry)
  | invalid
deriving DecidableEq, Repr

/-- A location of the non-volatile array (R4). -/
inductive Location where
  | schedule (slot : Fin 16)
  | species (n : Fin 8)
deriving DecidableEq, Repr

/-- An accepted write that has not completed (section 1.1). -/
inductive Write where
  | schedule (slot : Fin 16) (r : Schedule)
  | species (n : Fin 8) (e : SpeciesEntry)
deriving DecidableEq, Repr

/-- The settings store (R1). -/
structure Store where
  slots : Vector Slot 16
  species : Vector SpeciesPlace 8
  writes : List Write
  nextCharge : Nat
  nextPack : Nat
deriving DecidableEq, Repr

/-! ## Charge table (chapter 3) -/

inductive ChargeState where
  | created | inKiln | drying | dried | released | planing | closed
deriving DecidableEq, Repr

/-- Final moisture of a charge (R24). -/
structure FinalMC where
  mean : Nat
  wettest : Nat
  driest : Nat
deriving DecidableEq, Repr

/-- The redry part of a redry charge (R35). -/
structure RedryPart where
  count : Nat
  species : Fin 8
deriving DecidableEq, Repr

/-- The six planer counts of a charge (R35). -/
structure PlanerCounts where
  entered : Nat
  accepted : Nat
  redry : Nat
  rejected : Nat
  unmeasured : Nat
  untracked : Nat
deriving DecidableEq, Repr

/-- Lowest and highest board mean, present while the statistics count is above 0 (R35). -/
structure MeanRange where
  lowest : Nat
  highest : Nat
deriving DecidableEq, Repr

/-- A charge record (R35). -/
structure ChargeRecord where
  number : Nat
  state : ChargeState
  species : Fin 8
  thickness : Nat
  width : Nat
  declared : Nat
  slot : Fin 16
  redryPart : Option RedryPart
  kiln : Option (Fin 6)
  dryingKiln : Option (Fin 6)
  created : Time
  started : Option Time
  dried : Option Time
  finalMC : Option FinalMC
  incomplete : Bool
  counts : PlanerCounts
  meanSum : Nat
  meanCount : Nat
  meanRange : Option MeanRange
  inFlight : Nat
  packRefs : Nat
  redryHigh : Bool
deriving DecidableEq, Repr

/-- The charge table: twelve positions and the redry tally (R35, section 3.5). -/
structure ChargeTable where
  records : Vector (Option ChargeRecord) 12
  tally : Vector Nat 8
deriving DecidableEq, Repr

/-! ## Kiln unit (chapter 4) -/

inductive KilnState where
  | idle | loaded | run | equalise | condition | hold | park | done
deriving DecidableEq, Repr

/-- The running phases, the values of the resume phase (R53). -/
inductive Phase where
  | run | equalise | condition
deriving DecidableEq, Repr

/-- Standing of a sample that is not EMPTY (section 4.2). -/
inductive Standing where
  | defined | excluded | failed
deriving DecidableEq, Repr

/-- A sample record that is not EMPTY (section 4.2). -/
structure Sample where
  standing : Standing
  greenWeight : Nat
  greenMC : Nat
  odWeight : Nat
  weight : Option Nat
  mc : Option Nat
  saturated : Bool
  implausible : Nat
deriving DecidableEq, Repr

/-- The configuration of a kiln (R55). -/
structure KilnConfig where
  address : Nat
  pollPeriod : Nat
  sampleInterval : Nat
  deviationBand : Nat
  deviationLimit : Nat
deriving DecidableEq, Repr

/-- What a kiln holds from KILN-START until unload (R53). -/
structure DryingRun where
  schedule : Schedule
  stepIndex : Nat
  stepElapsed : Nat
  totalElapsed : Nat
  overtimeReported : Bool
  stepTarget : Int
  setpoint : Int
  depression : Int
deriving DecidableEq, Repr

/-- The climate last measured in the chamber (R53, R76, R77). -/
structure Measured where
  dryBulb : Int
  wetBulb : Int
  status : Byte
  age : Nat
  stale : Bool
deriving DecidableEq, Repr

/-- Controlling MC, wettest and driest (R22). -/
structure KilnFigures where
  controlling : Option Nat
  wettest : Option Nat
  driest : Option Nat
deriving DecidableEq, Repr

/-- A kiln context (R53). A sample position that is EMPTY is `none`. -/
structure Kiln where
  state : KilnState
  resume : Option Phase
  level : Nat
  charge : Option Nat
  drying : Option DryingRun
  conditionRemaining : Option Nat
  deviation : Nat
  measured : Option Measured
  samples : Vector (Option Sample) 8
  figures : KilnFigures
  samplesLost : Bool
  config : KilnConfig
deriving DecidableEq, Repr

/-- Why a kiln changed (R80). -/
inductive KilnCause where
  | request | schedule | fault | supervision
deriving DecidableEq, Repr

/-- Why a step was left (R65). -/
inductive StepCause where
  | mc | time | operator
deriving DecidableEq, Repr

/-- The kinds of hold and park causes (R71). -/
inductive HoldKind where
  | hold | park
deriving DecidableEq, Repr

/-! ## Field bus controller (chapter 5) -/

inductive PollKind where
  | climate | scan
deriving DecidableEq, Repr

/-- A poll entry (R84). -/
structure PollEntry where
  kiln : Fin 6
  kind : PollKind
  mark : Nat
deriving DecidableEq, Repr

/-- The mode sent to a module (R75, R89). -/
inductive ModuleMode where
  | off | run | hold | park
deriving DecidableEq, Repr

/-- The module command formed at the beginning of a climate poll (R75, R88). -/
structure ModuleCommand where
  mode : ModuleMode
  setpoint : Int
  depression : Int
deriving DecidableEq, Repr

/-- What the poll in service transfers: the command of a climate poll, or the position list of a scan and the index of
the position being weighed (R84, R89, R92). -/
inductive PollWork where
  | climate (command : ModuleCommand)
  | scan (positions : List (Fin 8)) (index : Nat)
deriving DecidableEq, Repr

/-- The poll in service (R84). -/
structure CurrentPoll where
  entry : PollEntry
  attempt : Nat
  address : Nat
  work : PollWork
deriving DecidableEq, Repr

inductive LinkState where
  | unknown | up | lost
deriving DecidableEq, Repr

/-- The controller's items of one kiln and its module (R84). -/
structure KilnLink where
  climateTimer : Nat
  scanTimer : Option Nat
  mark : Nat
  link : LinkState
  failures : Nat
  goodPolls : Nat
  failedAttempts : Nat
deriving DecidableEq, Repr

/-- The field bus controller (R84). -/
structure Bus where
  pendingPolls : List PollEntry
  current : Option CurrentPoll
  links : Vector KilnLink 6
deriving DecidableEq, Repr

/-! ## Line terminals (chapter 6) -/

/-- The functions of a terminal (section 6.1). -/
inductive TermFn where
  | generalIn | generalOut | infeedEye | outfeedEye | encoder | meterFault | meterIn | tempIn
  | redryGate | rejectGate | lineStop
deriving DecidableEq, Repr

inductive Polarity where
  | activeHigh | activeLow
deriving DecidableEq, Repr

inductive EdgeSelect where
  | none | rising | falling | both
deriving DecidableEq, Repr

/-- A terminal record (R98), with its pin (R99) and the level waiting in the 5 ms filter of a GENERAL_IN terminal (R103).
`pinHigh` is the electrical level the plant holds at the pin while the block does not drive it; `drive` is the electrical
level at which the block drives the pin, absent while the pin is undriven. -/
structure Terminal where
  fn : TermFn
  polarity : Polarity
  edges : EdgeSelect
  stored : Bool
  input : Bool
  edgeCount : Nat
  conversion : Option Nat
  pinHigh : Bool
  drive : Option Bool
  waiting : Option Bool
deriving DecidableEq, Repr

/-! ## Board tracker (chapter 7) -/

inductive LineState where
  | stopped | running | draining | blocked | tripped
deriving DecidableEq, Repr

/-- The state a BLOCKED line returns to (R110). -/
inductive ReturnState where
  | running | draining
deriving DecidableEq, Repr

/-- Why the line changed (R111). -/
inductive LineCause where
  | request | drained | bay | fault | supervision
deriving DecidableEq, Repr

/-- The line configuration (R109). -/
structure LineConfig where
  resolution : Nat
  eyeFilter : Nat
  meterPosition : Nat
  redryGate : Nat
  rejectGate : Nat
  outfeed : Nat
  spacing : Nat
  b1 : Nat
  b2 : Nat
  b3 : Nat
  redryLimit : Nat
  knifeThreshold : Nat
deriving DecidableEq, Repr

/-- The filter of one eye: its taken level, and the position at which a waiting change began (R120). -/
structure EyeFilter where
  taken : Bool
  waiting : Option Nat
deriving DecidableEq, Repr

/-- What stands under the infeed eye (R110). -/
inductive InfeedCondition where
  | clear | tracked | untracked
deriving DecidableEq, Repr

inductive RejectReason where
  | short | overdry | late | noCharge
deriving DecidableEq, Repr

/-- The sort result of a board (R30, R31, section 7.7). -/
inductive Decision where
  | pending
  | accept (cls : Fin 4)
  | redry
  | reject (reason : RejectReason)
  | unmeasured
deriving DecidableEq, Repr

/-- A sample pair (R25). -/
structure SamplePair where
  meter : Nat
  temp : Option Nat
deriving DecidableEq, Repr

/-- Mean, max and flags of a board (R29). -/
structure BoardMoisture where
  mean : Nat
  max : Nat
  underFlag : Bool
  overFlag : Bool
deriving DecidableEq, Repr

/-- The board figures: the sample count, and the moisture when it is formed (R29). -/
structure BoardFigures where
  count : Nat
  moisture : Option BoardMoisture
deriving DecidableEq, Repr

/-- The marks of the four gate points (R119). -/
structure GateMarks where
  redryLeading : Bool
  redryTrailing : Bool
  rejectLeading : Bool
  rejectTrailing : Bool
deriving DecidableEq, Repr

/-- A board record (section 7.7). -/
structure Board where
  number : Nat
  charge : Option Nat
  entry : Nat
  trailing : Option Nat
  length : Option Nat
  pairs : List SamplePair
  nextSample : Nat
  meterFault : Bool
  decision : Decision
  figures : Option BoardFigures
  pastMeter : Bool
  marks : GateMarks
  spansRedry : Bool
  spansReject : Bool
deriving DecidableEq, Repr

/-- The board tracker (R110). -/
structure Line where
  state : LineState
  returnTo : Option ReturnState
  config : LineConfig
  position : Nat
  infeed : EyeFilter
  outfeed : EyeFilter
  infeedCondition : InfeedCondition
  queue : List Board
  nextBoard : Nat
  planedLength : Nat
  knifeFlag : Bool
  uncharged : Nat
  redryDemand : Bool
  rejectDemand : Bool
  stopDemand : Bool
deriving DecidableEq, Repr

/-! ## Pack builder (chapter 8) -/

inductive CloseReason where
  | count | request
deriving DecidableEq, Repr

inductive LabelState where
  | waitingSlot | queued | printed
deriving DecidableEq, Repr

inductive PackState where
  | opened | closed | labelled
deriving DecidableEq, Repr

/-- One lineage entry (section 8.1). -/
structure LineageEntry where
  charge : Nat
  pieces : Nat
deriving DecidableEq, Repr

/-- The exception flags of a pack (R136). -/
structure ExceptionFlags where
  incomplete : Bool
  redryHigh : Bool
  redryStock : Bool
deriving DecidableEq, Repr

/-- The fields of a pack record present from closing (section 8.1). -/
structure Closing where
  flags : ExceptionFlags
  reason : CloseReason
  time : Time
  label : LabelState
  reprints : Nat
deriving DecidableEq, Repr

/-- A pack record (section 8.1). -/
structure Pack where
  number : Nat
  cls : Fin 4
  state : PackState
  target : Nat
  pieces : Nat
  lengthSum : Nat
  volume : Nat
  meanSum : Nat
  highestMax : Nat
  firstBoard : Time
  lastBoard : Time
  lineage : List LineageEntry
  mixed : Bool
  unlisted : Nat
  closing : Option Closing
deriving DecidableEq, Repr

/-- A held board of the stacker hold list (section 8.1), the figures the pack builder needs of any board it takes. -/
structure HeldBoard where
  number : Nat
  charge : Nat
  cls : Fin 4
  length : Nat
  mean : Nat
  max : Nat
deriving DecidableEq, Repr

/-- The pack builder (R132). Bay n is 0A, 0B, 1A, ... for n = 0, 1, 2, ...; a FREE bay is `none`. -/
structure PackBuilder where
  bays : Vector (Option Pack) 8
  held : List HeldBoard
  targets : Vector Nat 4
  overflow : Nat
deriving DecidableEq, Repr

/-! ## Label unit (chapter 9) -/

inductive PrinterLink where
  | idle | sending | answerWait | retryWait
deriving DecidableEq, Repr

/-- An entry of the label queue (R147), with the bay its pack stands in: two packs may carry one number (R12; log entry 17). -/
structure LabelEntry where
  bay : Fin 8
  pack : Nat
  reprint : Bool
  transmissions : Nat
  nakResendUsed : Bool
  timeoutReported : Bool
deriving DecidableEq, Repr

/-- A pack of the waiting list (R147), with the bay it stands in. -/
structure WaitingPack where
  bay : Fin 8
  pack : Nat
deriving DecidableEq, Repr

/-- One CHARGE line of a label (R151), as R150, R151 and R196 list it: R24's "printed in the lineage of the packs" adds no
field to it (log entry 25). -/
structure ChargeLine where
  charge : Nat
  species : Fin 8
  kiln : Option (Fin 6)
  dried : Option Time
  pieces : Nat
deriving DecidableEq, Repr

/-- The composed label record (R150). The species name is absent when the species is (R151); the thickness class is
absent when the slot is not VALID (R151); `mixed` and `reprint` are present only when their lines are printed. -/
structure LabelRecord where
  pack : Nat
  cls : Fin 4
  speciesNumber : Fin 8
  speciesName : Option (List Byte)
  thicknessClass : Option Nat
  pieces : Nat
  lengthTenths : Nat
  volumeDm3 : Nat
  mcMean : Nat
  mcMax : Nat
  charges : List ChargeLine
  mixed : Option Nat
  flags : ExceptionFlags
  closeReason : CloseReason
  closeTime : Time
  time : Time
  reprint : Option Nat
deriving DecidableEq, Repr

/-- The label unit (R147). The timers hold seconds since the event that started them. -/
structure LabelUnit where
  queue : List LabelEntry
  waiting : List WaitingPack
  head : Option LabelRecord
  link : PrinterLink
  answerTimer : Option Nat
  retryTimer : Option Nat
deriving DecidableEq, Repr

/-! ## Fault unit (chapter 10) -/

/-- The 24 fault kinds, in the order of the table of R159. -/
inductive FaultKind where
  | overtemp | climateDeviation | sampleImplausible | sampleFailed | samplesLost | stepOvertime | moduleLost
  | trackOverflow | trackMismatch | meterFault | lateDecision | knifeService | redryHigh
  | bayBlock | labelQueueFull | printerNak | printerTimeout
  | busNack | busStop | frameCheck | rxOverrun | reportsDropped
  | storeWriteFail | supervisionExpired
deriving DecidableEq, Repr

inductive Severity where
  | advisory | degrade | critical
deriving DecidableEq, Repr

/-- The configuration of a fault kind (R159). -/
structure KindConfig where
  severity : Severity
  masked : Bool
  counted : Bool
deriving DecidableEq, Repr

/-- An action set (R161). -/
structure ActionSet where
  report : Bool
  holdKiln : Bool
  parkKiln : Bool
  stopLine : Bool
deriving DecidableEq, Repr

/-- The fault domains (R159). -/
inductive Domain where
  | kiln (k : Fin 6)
  | line | packing | links | system
deriving DecidableEq, Repr

/-- The context of a fault record, its form set by the domain (R163). -/
inductive FaultContext where
  | kiln (charge : Option Nat) (state : KilnState) (step : Option Nat) (setpoint dryBulb : Option Int)
      (controlling : Option Nat)
  | line (board charge : Option Nat) (position : Nat)
  | packing (pack : Option Nat) (depth : Nat)
  | links (address : Option Nat) (message : Option Byte)
  | system (location : Option Location)
deriving DecidableEq, Repr

/-- A fault record (R163). -/
structure FaultRecord where
  kind : FaultKind
  severity : Severity
  time : Time
  context : FaultContext
deriving DecidableEq, Repr

/-- Where a raise was logged (R164). -/
inductive Placement where
  | first | next | none
deriving DecidableEq, Repr

/-- A domain log (R164, R165). -/
structure DomainLog where
  first : Option FaultRecord
  next : Option FaultRecord
  counter : Nat
  overflow : Bool
deriving DecidableEq, Repr

/-- The fault unit (section 10 opening, R159, R161, R164, R165). Kind configurations stand in the order of `FaultKind`,
action sets in severity order, logs in domain order. -/
structure FaultUnit where
  kinds : Vector KindConfig 24
  actions : Vector ActionSet 3
  logs : Vector DomainLog 10
deriving DecidableEq, Repr

/-! ## Message port (chapter 11) -/

/-- A request or a reply: a frame without its start byte, length and check (R175). -/
structure Frame where
  kind : Byte
  tag : Byte
  payload : List Byte
deriving DecidableEq, Repr

/-- The receiver (R178): the four phases with the bytes taken so far, HUNT after a gap (the byte that arrives after
it is discarded), and the receiver that ignores the line until it is idle after a warm start (R192, R193). -/
inductive Receiver where
  | hunt
  | huntAfterGap
  | length
  | body (length : Byte) (taken : List Byte)
  | check (length : Byte) (taken : List Byte) (low : Option Byte)
  | ignoring
deriving DecidableEq, Repr

/-- The report kinds, in kind order from 0xC0 (R176). -/
inductive ReportKind where
  | start | storeDone | chargeState | kilnState | kilnStep | sampleUpdate | moduleRestored | terminalEdge | lineState
  | boardDecided | packClosed | labelDone | fault | supervision
deriving DecidableEq, Repr

inductive StartCause where
  | power | pin | restart | lineBreak
deriving DecidableEq, Repr

/-- The four start-cause flags (R191). -/
structure StartCauses where
  power : Bool
  pin : Bool
  restart : Bool
  lineBreak : Bool
deriving DecidableEq, Repr

inductive SuperviseMode where
  | holdAll | notify
deriving DecidableEq, Repr

inductive SupervisionEvent where
  | expired | cleared
deriving DecidableEq, Repr

/-- One position of a SAMPLE-UPDATE report (R59): the sample state (`none` for EMPTY) with the figures it carries. -/
structure SampleView where
  standing : Option Standing
  mc : Option Nat
  saturated : Bool
  implausible : Nat
deriving DecidableEq, Repr

/-- The reports with what they carry. -/
inductive Report where
  /-- START (R191) -/
  | start (warm : Bool) (cause : StartCause) (flags : StartCauses) (clock : Nat) (clockSet : Bool)
  /-- STORE-DONE (R4) -/
  | storeDone (location : Location) (ok : Bool)
  /-- CHARGE-STATE (R50); the state is absent for the freed mark -/
  | chargeState (charge : Nat) (state : Option ChargeState) (kiln : Option (Fin 6)) (incomplete redryHigh : Bool)
      (counts : PlanerCounts) (inFlight packRefs : Nat)
  /-- KILN-STATE (R80) -/
  | kilnState (kiln : Fin 6) (state : KilnState) (resume : Option Phase) (level : Nat) (charge : Option Nat)
      (step : Option Nat) (setpoint depression : Option Int) (controlling : Option Nat) (cause : KilnCause)
  /-- KILN-STEP (R65); the step is absent for the mark EQUALISE -/
  | kilnStep (kiln : Fin 6) (charge : Option Nat) (step : Option Nat) (cause : StepCause) (controlling : Option Nat)
      (totalElapsed : Nat)
  /-- SAMPLE-UPDATE (R59) -/
  | sampleUpdate (kiln : Fin 6) (charge : Option Nat) (samples : Vector SampleView 8) (figures : KilnFigures)
  /-- MODULE-RESTORED (R93) -/
  | moduleRestored (kiln : Fin 6) (address : Nat) (poll : PollKind)
  /-- TERMINAL-EDGE (R103) -/
  | terminalEdge (terminal : Fin 16) (level : Bool) (count : Nat) (time : Time)
  /-- LINE-STATE (R111) -/
  | lineState (state : LineState) (returnTo : Option ReturnState) (feed : Option Nat) (cause : LineCause) (boards : Nat)
  /-- BOARD-DECIDED (R124) -/
  | boardDecided (board : Nat) (charge length : Option Nat) (decision : Decision) (samples : Nat)
      (moisture : Option BoardMoisture) (meterFault : Bool) (travel : Nat)
  /-- PACK-CLOSED (R136) -/
  | packClosed (bay : Fin 8) (pack : Pack)
  /-- LABEL-DONE (R153) -/
  | labelDone (bay : Fin 8) (pack : Nat) (reprint : Bool) (reprints transmissions : Nat)
  /-- FAULT (R168) -/
  | fault (domain : Domain) (record : FaultRecord) (placement : Placement) (counter : Nat) (overflow : Bool)
      (actions : ActionSet)
  /-- SUPERVISION (R189, R190) -/
  | supervision (event : SupervisionEvent) (mode : SuperviseMode) (unit count : Nat)
deriving DecidableEq, Repr

/-- The kind of a report (R176). -/
def Report.kind : Report → ReportKind
  | .start .. => .start
  | .storeDone .. => .storeDone
  | .chargeState .. => .chargeState
  | .kilnState .. => .kilnState
  | .kilnStep .. => .kilnStep
  | .sampleUpdate .. => .sampleUpdate
  | .moduleRestored .. => .moduleRestored
  | .terminalEdge .. => .terminalEdge
  | .lineState .. => .lineState
  | .boardDecided .. => .boardDecided
  | .packClosed .. => .packClosed
  | .labelDone .. => .labelDone
  | .fault .. => .fault
  | .supervision .. => .supervision

/-- An entry of the report queue with the priority its kind had when it was queued (section 11.5). -/
structure ReportEntry where
  report : Report
  high : Bool
deriving DecidableEq, Repr

/-- What the transmitter is sending: a reply, or a report with its GAP bit (R182, R185). -/
inductive Sending where
  | reply (frame : Frame)
  | report (report : Report) (gap : Bool)
deriving DecidableEq, Repr

/-- Where a RESTART stands: none taken; taken and its reply not sent; its reply sent and the warm start due (R192). -/
inductive RestartPhase where
  | none | awaitingReply | due
deriving DecidableEq, Repr

/-- The armed supervision timer (section 11.6). -/
structure Supervision where
  unit : Nat
  count : Nat
  mode : SuperviseMode
  standbyPause : Bool
  remaining : Nat
deriving DecidableEq, Repr

/-- The message port (section 11). `dropOwed` is the REPORTS_DROPPED raise that R184 leaves to be taken after the event
that opened the gap, with the kind of the dropped report. The READY output is `Port.ready`. -/
structure Port where
  receiver : Receiver
  requests : List Frame
  replies : List Frame
  reports : List ReportEntry
  sending : Option Sending
  restart : RestartPhase
  gap : Bool
  dropOwed : Option ReportKind
  subscribed : BitVec 16
  highKinds : BitVec 16
  supervision : Option Supervision
  latch : Bool
  expiredSinceCold : Bool
  causes : StartCauses
  clock : Nat
  clockSet : Bool
  divider : Nat
deriving DecidableEq, Repr

end Sys2Proof.Machine
end

