-- ==== Sys2Proof/Machine/Arithmetic.lean ====
section
/-! DEFINITION. The moisture arithmetic unit (chapter 2): every computation, formed exactly. -/

namespace Sys2Proof.Machine

/-! ## Rounding (R16, "Rounding" of the introduction) -/

/-- Round half up: half the divisor, its remainder dropped, is added before the integer division (R16). -/
def roundHalfUp (num den : Nat) : Nat := (num + den / 2) / den

/-- Round half away from zero: the magnitude is rounded half up and the sign restored (R16). -/
def roundHalfAway (num : Int) (den : Nat) : Int :=
  if num < 0 then -(roundHalfUp num.natAbs den : Int) else (roundHalfUp num.natAbs den : Int)

/-- Clamp to a range ("Rounding" of the introduction). -/
def clamp (low high x : Int) : Int := if x < low then low else if high < x then high else x

/-! ## Sample boards (section 2.2) -/

/-- Oven-dry weight (R17). -/
def odWeight (wg mg : Nat) : Nat := roundHalfUp (wg * 1000) (1000 + mg)

/-- The plausibility test of a reading (R18). -/
def plausible (w wg od : Nat) : Bool :=
  !(decide (w = 0) || decide (wg * 102 < w * 100) || decide (w * 100 < od * 95))

/-- Current MC of a plausible reading, with the saturated flag (R20). -/
def sampleMC (w od : Nat) : Nat × Bool :=
  if w ≤ od then (0, false)
  else
    let mc := roundHalfUp ((w - od) * 1000) od
    if 2000 < mc then (2000, true) else (mc, false)

/-- A reading of zero leaves the current weight as it was; any other is stored (R19, R21). -/
def weightAfter (w : Nat) (old : Option Nat) : Option Nat := if w = 0 then old else some w

/-- What a reading makes of a sample record; the second part says whether SAMPLE_IMPLAUSIBLE is raised, the third whether
SAMPLE_FAILED is raised after it (R18 to R21). -/
def Sample.read (w : Nat) (p : Sample) : Sample × Bool × Bool :=
  if plausible w p.greenWeight p.odWeight then
    let m := sampleMC w p.odWeight
    ({ p with
        weight := some w
        mc := some m.1
        saturated := m.2
        implausible := if p.standing = .defined then 0 else p.implausible }, false, false)
  else if p.standing = .defined then
    let n := p.implausible + 1
    ({ p with
        weight := weightAfter w p.weight
        implausible := n
        standing := if 3 ≤ n then .failed else .defined }, true, decide (3 ≤ n))
  else ({ p with weight := weightAfter w p.weight }, false, false)

/-! ## The controlling MC (section 2.3) -/

/-- Put a figure into a list that falls from the head on. -/
def insertFalling (x : Nat) : List Nat → List Nat
  | [] => [x]
  | y :: rest => if y ≤ x then x :: y :: rest else y :: insertFalling x rest

/-- The figures in falling order. -/
def falling (l : List Nat) : List Nat := l.foldr insertFalling []

/-- The current MC of a sample that is active: DEFINED and holding one (R22). -/
def Sample.activeMC (p : Sample) : Option Nat := if p.standing = .defined then p.mc else none

/-- The current MCs of the active samples of a kiln, in position order (R22). -/
def activeMCs (samples : Vector (Option Sample) 8) : List Nat :=
  samples.toList.filterMap fun o => o.bind Sample.activeMC

/-- Controlling MC, wettest and driest (R22): the mean of the wettest half, rounded up in number, of two or more active
samples. -/
def kilnFigures (active : List Nat) : KilnFigures where
  controlling :=
    if active.length < 2 then none
    else
      let k := (active.length + 1) / 2
      some (roundHalfUp ((falling active).take k).sum k)
  wettest := (falling active).head?
  driest := (falling active).getLast?

/-- Final MC of a charge from the active samples (R24). -/
def finalMC (active : List Nat) : Option FinalMC :=
  match (falling active).head?, (falling active).getLast? with
  | some w, some d => some ⟨roundHalfUp active.sum active.length, w, d⟩
  | _, _ => none

/-! ## Meter readings (section 2.4) -/

/-- The meter MC of one raw count with its flags UNDER and OVER (R26). -/
structure MeterReading where
  mc : Nat
  underFlag : Bool
  overFlag : Bool
deriving DecidableEq, Repr

/-- Conversion of a raw count that is at or above point `p`, through the points that follow it (R26). -/
def meterAbove (r : Nat) (p : CalibrationPoint) : List CalibrationPoint → MeterReading
  | [] => ⟨p.mc, false, true⟩
  | q :: rest =>
    if r < q.raw then ⟨p.mc + roundHalfUp ((r - p.raw) * (q.mc - p.mc)) (q.raw - p.raw), false, false⟩
    else meterAbove r q rest

/-- Conversion of a raw meter count (R26). -/
def meterMC (e : SpeciesEntry) (r : Nat) : MeterReading :=
  if r ≤ e.firstPoint.raw then ⟨e.firstPoint.mc, true, false⟩ else meterAbove r e.firstPoint e.laterPoints

/-- Board temperature of a sample pair (R27). -/
def boardTemperature : Option Nat → Int
  | some rT => (roundHalfUp (rT * 1000) 4095 : Int) - 200
  | none => 200

/-- Temperature correction (R28). -/
def correction (t : Int) (c : Nat) : Int := roundHalfAway ((200 - t) * c) 1000

/-- Corrected MC of one sample pair (R26 to R28). -/
def correctedMC (e : SpeciesEntry) (p : SamplePair) : Nat :=
  (clamp 0 400 ((meterMC e p.meter).mc + correction (boardTemperature p.temp) e.coefficient)).toNat

/-- Board figures from the sample pairs and the entry in force, absent when the species is (R29). -/
def boardFigures (entry : Option SpeciesEntry) (pairs : List SamplePair) : BoardFigures where
  count := pairs.length
  moisture :=
    match entry with
    | some e =>
      if pairs.isEmpty then none
      else
        let mcs := pairs.map (correctedMC e)
        some
          { mean := roundHalfUp mcs.sum pairs.length
            max := mcs.foldl max 0
            underFlag := pairs.any fun p => (meterMC e p.meter).underFlag
            overFlag := pairs.any fun p => (meterMC e p.meter).overFlag }
    | none => none

/-- Length class of an accepted board (R31). -/
def lengthClass (c : LineConfig) (length : Nat) : Fin 4 :=
  if length < c.b1 then 0 else if length < c.b2 then 1 else if length < c.b3 then 2 else 3

/-- The decision order (R30). -/
def decideBoard (c : LineConfig) (length : Nat) (entry : Option SpeciesEntry) (figures : BoardFigures) : Decision :=
  if length < 600 then .reject .short
  else
    match entry, figures.moisture with
    | some e, some m =>
      if e.wetLimit < m.mean ∨ e.spotLimit < m.max then .redry
      else if m.mean < e.dryLimit then .reject .overdry
      else .accept (lengthClass c length)
    | _, _ => .unmeasured

/-- The redry rate test (R32). -/
def redryExceeds (limit : Nat) (c : PlanerCounts) : Bool :=
  let measured := c.accepted + c.redry + c.rejected
  decide (20 ≤ measured) && decide (limit * measured < c.redry * 1000)

/-- Volume of one board in cubic millimetres (R33). -/
def boardVolume (length width thickness : Nat) : Nat := length * width * thickness

/-- Printed volume in cubic decimetres (R34). -/
def volumeDm3 (accumulator : Nat) : Nat := roundHalfUp accumulator 1000000

end Sys2Proof.Machine
end

