-- ==== Sys2Proof/Machine/Operands.lean ====
section
/-! DEFINITION. The operand forms: how the payload bytes of a request are read as its fields (R177), with the ranges its
rule states. A reader answers `none` when the payload is too short or too long for the fields, or when a field lies outside
its range: the owning rules refuse both with BAD_ARG at one stage (R180). -/

namespace Sys2Proof.Machine

/-- A little-endian integer of the given number of bytes, and the bytes after it (R177). -/
def readLE : Nat → List Byte → Option (Nat × List Byte)
  | 0, bs => some (0, bs)
  | _ + 1, [] => none
  | n + 1, b :: bs => (readLE n bs).map fun x => (b.toNat + 256 * x.1, x.2)

/-- Integers of the given widths, and the bytes after them. -/
def readSome : List Nat → List Byte → Option (List Nat × List Byte)
  | [], bs => some ([], bs)
  | w :: ws, bs =>
    match readLE w bs with
    | some (v, rest) => (readSome ws rest).map fun x => (v :: x.1, x.2)
    | none => none

/-- Integers of the given widths that make up the whole payload. -/
def readFields (ws : List Nat) (bs : List Byte) : Option (List Nat) :=
  match readSome ws bs with
  | some (vs, []) => some vs
  | _ => none

/-- A 16-bit signed value (R177). -/
def signed16 (n : Nat) : Int := if n < 32768 then n else (n : Int) - 65536

/-- A number below n. -/
def fin? (n k : Nat) : Option (Fin n) := if h : k < n then some ⟨k, h⟩ else none

/-- A value when a test holds. -/
def ensure {α : Type} (test : Bool) (a : α) : Option α := if test then some a else none

/-- `low ≤ x ≤ high`. -/
def within (low x high : Nat) : Bool := decide (low ≤ x) && decide (x ≤ high)

/-- `low ≤ x ≤ high` for a temperature. -/
def withinInt (low x high : Int) : Bool := decide (low ≤ x) && decide (x ≤ high)

/-- A flag: 0 or 1 (R177). -/
def flag? : Nat → Option Bool
  | 0 => some false
  | 1 => some true
  | _ => none

/-- A name of 1 to `most` characters 0x20..0x7E behind its count byte (R177, section 1.2, section 1.3). -/
def readName (most : Nat) : List Byte → Option (List Byte × List Byte)
  | [] => none
  | n :: bs =>
    let k := n.toNat
    if within 1 k most && decide (k ≤ bs.length) && (bs.take k).all (fun b => within 0x20 b.toNat 0x7E) then
      some (bs.take k, bs.drop k)
    else none

/-! ## Settings store -/

/-- One step entry: target, depression, leave kind, leave value, max duration as an optional field (section 1.2). -/
def stepOf (target depression kind value present max : Nat) : Option ScheduleStep :=
  let t := signed16 target
  let d := signed16 depression
  if withinInt 200 t 1200 && withinInt 0 d 300 then
    match kind, flag? present with
    | 0, some p =>
      if within 0 value 2000 && (!p || within 1 max 65535) then some ⟨t, d, .mc value, if p then some max else none⟩
      else none
    | 1, some p =>
      if within 1 value 65535 && (!p || within 1 max 65535) then some ⟨t, d, .time value, if p then some max else none⟩
      else none
    | _, _ => none
  else none

/-- The given number of step entries. -/
def readSteps : Nat → List Byte → Option (List ScheduleStep × List Byte)
  | 0, bs => some ([], bs)
  | n + 1, bs =>
    match readSome [2, 2, 1, 2, 1, 2] bs with
    | some ([t, d, k, v, p, m], rest) =>
      match stepOf t d k v p m with
      | some st => (readSteps n rest).map fun x => (st :: x.1, x.2)
      | none => none
    | _ => none

/-- The thresholds of the MC steps, in order. -/
def mcThresholds (steps : List ScheduleStep) : List Nat :=
  steps.filterMap fun st =>
    match st.leave with
    | .mc t => some t
    | .time _ => none

/-- No figure is above the one before it. -/
def nonIncreasing : List Nat → Bool
  | a :: b :: rest => decide (b ≤ a) && nonIncreasing (b :: rest)
  | _ => true

/-- The order of the moisture figures of a schedule (R3). -/
def scheduleOrdered (steps : List ScheduleStep) (finalTarget : Nat) : Bool :=
  let ts := mcThresholds steps
  nonIncreasing ts && ts.all fun t => decide (finalTarget ≤ t)

/-- A schedule record that passes validation (R2 stage 3, R3). -/
def readSchedule (bs : List Byte) : Option Schedule :=
  match readName 12 bs with
  | none => none
  | some (name, bs) =>
    match readSome [1, 1, 1] bs with
    | some ([species, cls, n], bs) =>
      match readSteps n bs with
      | some (first :: later, bs) =>
        match readFields [1, 2, 2, 2, 2, 2] bs with
        | some [ramp, final, eqDep, eqTol, condDep, condDur] =>
          if decide (species < 8) && decide (cls < 10) && decide (n ≤ 16) && within 1 ramp 50 && within 40 final 300 &&
              withinInt 0 (signed16 eqDep) 300 && within 0 eqTol 50 && withinInt 0 (signed16 condDep) 300 &&
              within 0 condDur 1440 && scheduleOrdered (first :: later) final then
            some ⟨name, species, cls, first, later, ramp, final, signed16 eqDep, eqTol, signed16 condDep, condDur⟩
          else none
        | _ => none
      | _ => none
    | _ => none

/-- The given number of calibration points. -/
def readPoints : Nat → List Byte → Option (List CalibrationPoint × List Byte)
  | 0, bs => some ([], bs)
  | n + 1, bs =>
    match readSome [2, 2] bs with
    | some ([raw, mc], rest) => (readPoints n rest).map fun x => (⟨raw, mc⟩ :: x.1, x.2)
    | _ => none

/-- Raw counts strictly ascending, MC values not falling (R8 stage 3). -/
def pointsOrdered : List CalibrationPoint → Bool
  | a :: b :: rest => decide (a.raw < b.raw) && decide (a.mc ≤ b.mc) && pointsOrdered (b :: rest)
  | _ => true

/-- A species entry that passes validation (R8 stage 3). -/
def readSpecies (bs : List Byte) : Option SpeciesEntry :=
  match readName 10 bs with
  | none => none
  | some (name, bs) =>
    match readSome [1] bs with
    | some ([n], bs) =>
      match readPoints n bs with
      | some (first :: later, bs) =>
        match readFields [1, 2, 2, 2] bs with
        | some [c, dry, wet, spot] =>
          if within 2 n 8 && (first :: later).all (fun p => within 0 p.raw 4095 && within 0 p.mc 400) &&
              pointsOrdered (first :: later) && within 0 dry 400 && within 0 wet 400 && within 0 spot 400 &&
              decide (dry < wet) && decide (wet ≤ spot) then
            some ⟨name, first, later, c, dry, wet, spot⟩
          else none
        | _ => none
      | _ => none
    | _ => none

/-- The slot a payload names in its first byte (R2 stage 1). -/
def readSlotFirst : List Byte → Option (Fin 16)
  | b :: _ => fin? 16 b.toNat
  | [] => none

/-- The species a payload names in its first byte (R8 stage 1). -/
def readSpeciesFirst : List Byte → Option (Fin 8)
  | b :: _ => fin? 8 b.toNat
  | [] => none

/-- A payload that is one number below n: a slot, a species, a kiln, a bay, a class, a domain. -/
def readNumber (n : Nat) (bs : List Byte) : Option (Fin n) :=
  match readFields [1] bs with
  | some [k] => fin? n k
  | _ => none

/-! ## Charge table -/

/-- The fields of CHARGE-CREATE in their ranges, the claim no greater than the declared count (R36 stage 1). -/
structure NewCharge where
  species : Fin 8
  thickness : Nat
  width : Nat
  declared : Nat
  slot : Fin 16
  redryPart : Option RedryPart
deriving DecidableEq, Repr

def readNewCharge (bs : List Byte) : Option NewCharge :=
  match readFields [1, 1, 2, 2, 1, 1, 2, 1] bs with
  | some [sp, th, w, n, sl, present, claim, claimSp] =>
    match fin? 8 sp, fin? 16 sl, flag? present, fin? 8 claimSp with
    | some species, some slot, some p, cs =>
      if within 10 th 150 && within 50 w 400 && within 1 n 9999 then
        match p, cs with
        | false, _ => some ⟨species, th, w, n, slot, none⟩
        | true, some c => if within 1 claim n then some ⟨species, th, w, n, slot, some ⟨claim, c⟩⟩ else none
        | true, none => none
      else none
    | _, _, _, _ => none
  | _ => none

/-- A payload that is one 16-bit number: a charge number (R41, R42, R49). -/
def readCharge (bs : List Byte) : Option Nat :=
  match readFields [2] bs with
  | some [n] => some n
  | _ => none

/-! ## Kiln unit -/

def readKilnConfig (bs : List Byte) : Option (Fin 6 × KilnConfig) :=
  match readFields [1, 1, 2, 1, 2, 2] bs with
  | some [k, address, period, interval, band, limit] =>
    match fin? 6 k with
    | some k =>
      ensure (within 0x10 address 0x6F && within 10 period 600 && within 5 interval 240 && within 10 band 200 &&
        within 5 limit 600) (k, ⟨address, period, interval, band, limit⟩)
    | none => none
  | _ => none

/-- A kiln number and a charge number (R56). -/
def readLoad (bs : List Byte) : Option (Fin 6 × Nat) :=
  match readFields [1, 2] bs with
  | some [k, n] => (fin? 6 k).map fun k => (k, n)
  | _ => none

/-- A new sample: kiln, position, green weight, green MC (R17, R57). -/
structure NewSample where
  kiln : Fin 6
  position : Fin 8
  greenWeight : Nat
  greenMC : Nat
deriving DecidableEq, Repr

def readNewSample (bs : List Byte) : Option NewSample :=
  match readFields [1, 1, 2, 2] bs with
  | some [k, p, wg, mg] =>
    match fin? 6 k, fin? 8 p with
    | some k, some p => ensure (within 100 wg 60000 && within 100 mg 2000) ⟨k, p, wg, mg⟩
    | _, _ => none
  | _ => none

/-- A kiln number and a position (R58). -/
def readPosition (bs : List Byte) : Option (Fin 6 × Fin 8) :=
  match readFields [1, 1] bs with
  | some [k, p] =>
    match fin? 6 k, fin? 8 p with
    | some k, some p => some (k, p)
    | _, _ => none
  | _ => none

/-- A kiln number and a clearance (R74). -/
def readResume (bs : List Byte) : Option (Fin 6 × Nat) :=
  match readFields [1, 1] bs with
  | some [k, c] =>
    match fin? 6 k with
    | some k => ensure (within 1 c 3) (k, c)
    | none => none
  | _ => none

/-! ## Line terminals -/

/-- The function of a number, in the order of section 6.1 (R177). -/
def termFn? : Nat → Option TermFn
  | 0 => some .generalIn
  | 1 => some .generalOut
  | 2 => some .infeedEye
  | 3 => some .outfeedEye
  | 4 => some .encoder
  | 5 => some .meterFault
  | 6 => some .meterIn
  | 7 => some .tempIn
  | 8 => some .redryGate
  | 9 => some .rejectGate
  | 10 => some .lineStop
  | _ => none

def polarity? : Nat → Option Polarity
  | 0 => some .activeHigh
  | 1 => some .activeLow
  | _ => none

def edgeSelect? : Nat → Option EdgeSelect
  | 0 => some .none
  | 1 => some .rising
  | 2 => some .falling
  | 3 => some .both
  | _ => none

/-- The fields of TERMINAL-ASSIGN; an edge selection other than NONE goes with GENERAL_IN alone (R100 stage 1). -/
structure Assignment where
  terminal : Fin 16
  fn : TermFn
  polarity : Polarity
  edges : EdgeSelect
deriving DecidableEq, Repr

def readAssignment (bs : List Byte) : Option Assignment :=
  match readFields [1, 1, 1, 1] bs with
  | some [t, f, p, e] =>
    match fin? 16 t, termFn? f, polarity? p, edgeSelect? e with
    | some t, some f, some p, some e => ensure (decide (e = .none) || decide (f = .generalIn)) ⟨t, f, p, e⟩
    | _, _, _, _ => none
  | _ => none

/-- A terminal and a level (R102). -/
def readLevel (bs : List Byte) : Option (Fin 16 × Bool) :=
  match readFields [1, 1] bs with
  | some [t, l] =>
    match fin? 16 t, flag? l with
    | some t, some l => some (t, l)
    | _, _ => none
  | _ => none

/-! ## Board tracker -/

/-- The line configuration in its ranges (R109 check 1). -/
def readLineConfig (bs : List Byte) : Option LineConfig :=
  match readFields [2, 1, 2, 2, 2, 2, 2, 2, 2, 2, 2, 2] bs with
  | some [res, filter, meter, redry, reject, out, spacing, b1, b2, b3, limit, knife] =>
    ensure (within 10 res 5000 && within 0 filter 200 && within 500 meter 20000 && within (meter + 6100) redry 65535 &&
        within (redry + 1) reject 65535 && within (reject + 1) out 65535 && within 100 spacing 2000 &&
        within 600 b1 6100 && within 600 b2 6100 && within 600 b3 6100 && decide (b1 < b2) && decide (b2 < b3) &&
        within 1 limit 1000 && within 1 knife 500)
      ⟨res, filter, meter, redry, reject, out, spacing, b1, b2, b3, limit, knife⟩
  | _ => none

/-- The option CLEAR_TRACKING (R112), carried as a flag. -/
def readClearTracking (bs : List Byte) : Option Bool :=
  match readFields [1] bs with
  | some [o] => flag? o
  | _ => none

/-! ## Pack builder and label unit -/

/-- A class and a target (R138). -/
def readTarget (bs : List Byte) : Option (Fin 4 × Nat) :=
  match readFields [1, 2] bs with
  | some [c, t] =>
    match fin? 4 c with
    | some c => ensure (within 1 t 999) (c, t)
    | none => none
  | _ => none

/-- A pack number (R156). -/
def readPack (bs : List Byte) : Option Nat :=
  match readFields [4] bs with
  | some [n] => some n
  | _ => none

/-! ## Fault unit -/

/-- The kinds in the order of the table of R159. -/
def allFaultKinds : List FaultKind :=
  [.overtemp, .climateDeviation, .sampleImplausible, .sampleFailed, .samplesLost, .stepOvertime, .moduleLost,
   .trackOverflow, .trackMismatch, .meterFault, .lateDecision, .knifeService, .redryHigh,
   .bayBlock, .labelQueueFull, .printerNak, .printerTimeout,
   .busNack, .busStop, .frameCheck, .rxOverrun, .reportsDropped, .storeWriteFail, .supervisionExpired]

def severity? : Nat → Option Severity
  | 0 => some .advisory
  | 1 => some .degrade
  | 2 => some .critical
  | _ => none

/-- The fields of FAULT-CONFIG (R160). -/
def readKindConfig (bs : List Byte) : Option (FaultKind × KindConfig) :=
  match readFields [1, 1, 1, 1] bs with
  | some [k, v, m, c] =>
    match allFaultKinds[k]?, severity? v, flag? m, flag? c with
    | some k, some v, some m, some c => some (k, ⟨v, m, c⟩)
    | _, _, _, _ => none
  | _ => none

/-- A severity and an action set, bit 0 REPORT, then HOLD_KILN, PARK_KILN, STOP_LINE (R161, R177). -/
def readActions (bs : List Byte) : Option (Severity × ActionSet) :=
  match readFields [1, 1] bs with
  | some [v, a] =>
    match severity? v with
    | some v => ensure (decide (a < 16)) (v, ⟨a.testBit 0, a.testBit 1, a.testBit 2, a.testBit 3⟩)
    | none => none
  | _ => none

/-! ## Message port -/

/-- The fields of SUBSCRIBE: REPLACE or ADD, the kinds, the HIGH kinds; bits 14 and 15 stand for no kind (R186). -/
structure Subscription where
  replace : Bool
  kinds : BitVec 16
  high : BitVec 16
deriving DecidableEq, Repr

def readSubscription (bs : List Byte) : Option Subscription :=
  match readFields [1, 2, 2] bs with
  | some [m, k, h] =>
    match flag? m with
    | some m => ensure (decide (k < 0x4000) && decide (h < 0x4000)) ⟨m, BitVec.ofNat 16 k, BitVec.ofNat 16 h⟩
    | none => none
  | _ => none

/-- The fields of SUPERVISE-ARM, with remaining at count × unit (R187). -/
def readSupervision (bs : List Byte) : Option Supervision :=
  match readFields [1, 1, 1, 1] bs with
  | some [u, c, m, p] =>
    match flag? m, flag? p with
    | some m, some p =>
      ensure ((decide (u = 1) || decide (u = 10) || decide (u = 60)) && within 1 c 255)
        ⟨u, c, if m then .notify else .holdAll, p, c * u⟩
    | _, _ => none
  | _ => none

/-- A plant clock reading (R194). -/
def readClock (bs : List Byte) : Option Nat :=
  match readFields [4] bs with
  | some [n] => some n
  | _ => none

/-- The answers of the printer (section 9.4). -/
inductive PrinterAnswer where
  | ack | nak | busy
deriving DecidableEq, Repr

/-- The bytes of a printer line without a 0x0D before its 0x0A (R196). -/
def withoutReturn : List Byte → List Byte
  | [] => []
  | [b] => if b = 0x0D#8 then [] else [b]
  | b :: rest => b :: withoutReturn rest

/-- What a line from the printer, given without its 0x0A, reads as: an answer when it is exactly ACK, NAK or BUSY;
nothing when it is any other line or longer than 16 bytes (R196). -/
def printerAnswer (line : List Byte) : Option PrinterAnswer :=
  if 16 < line.length then none
  else
    let l := withoutReturn line
    if l = [0x41#8, 0x43#8, 0x4B#8] then some .ack
    else if l = [0x4E#8, 0x41#8, 0x4B#8] then some .nak
    else if l = [0x42#8, 0x55#8, 0x53#8, 0x59#8] then some .busy
    else none

end Sys2Proof.Machine
end

