-- ==== Sys2Proof/Machine/Cold.lean ====
section
/-! DEFINITION. What each block holds after a cold start, as its chapter tables it, and the settings store as it leaves
the factory (R1). -/

namespace Sys2Proof.Machine

/-- The settings store on leaving the factory (R1). -/
def factoryStore : Store where
  slots := Vector.replicate 16 .empty
  species := Vector.replicate 8 .absent
  writes := []
  nextCharge := 1
  nextPack := 1

/-- The charge table after a cold start (R35, R51). -/
def coldCharges : ChargeTable where
  records := Vector.replicate 12 none
  tally := Vector.replicate 8 0

/-- The default configuration of kiln k (R55). -/
def defaultKilnConfig (k : Fin 6) : KilnConfig where
  address := 0x20 + k.val
  pollPeriod := 30
  sampleInterval := 30
  deviationBand := 50
  deviationLimit := 30

/-- No figures: fewer than one active sample (R22). -/
def noFigures : KilnFigures := ⟨none, none, none⟩

/-- The context of kiln k after a cold start (R53, R82). -/
def coldKiln (k : Fin 6) : Kiln where
  state := .idle
  resume := none
  level := 0
  charge := none
  drying := none
  conditionRemaining := none
  deviation := 0
  measured := none
  samples := Vector.replicate 8 none
  figures := noFigures
  samplesLost := false
  config := defaultKilnConfig k

def coldKilns : Vector Kiln 6 := #v[coldKiln 0, coldKiln 1, coldKiln 2, coldKiln 3, coldKiln 4, coldKiln 5]

/-- The controller's items of a kiln after either kind of start, its scan timer aside (R84, R97). -/
def startedLink (scanTimer : Option Nat) : KilnLink where
  climateTimer := 0
  scanTimer := scanTimer
  mark := 0
  link := .unknown
  failures := 0
  goodPolls := 0
  failedAttempts := 0

/-- The field bus controller after a cold start (R84, R97). -/
def coldBus : Bus where
  pendingPolls := []
  current := none
  links := Vector.replicate 6 (startedLink none)

/-- A terminal record after a cold start that finds the pin at the given level (R98). -/
def coldTerminal (pinHigh : Bool) : Terminal where
  fn := .generalIn
  polarity := .activeHigh
  edges := .none
  stored := false
  input := pinHigh
  edgeCount := 0
  conversion := none
  pinHigh := pinHigh
  drive := none
  waiting := none

/-- The sixteen records after a cold start; bit n of `pins` is the level found at Tn (R98). -/
def coldTerminals (pins : BitVec 16) : Vector Terminal 16 :=
  #v[coldTerminal (pins.getLsbD 0), coldTerminal (pins.getLsbD 1), coldTerminal (pins.getLsbD 2),
     coldTerminal (pins.getLsbD 3), coldTerminal (pins.getLsbD 4), coldTerminal (pins.getLsbD 5),
     coldTerminal (pins.getLsbD 6), coldTerminal (pins.getLsbD 7), coldTerminal (pins.getLsbD 8),
     coldTerminal (pins.getLsbD 9), coldTerminal (pins.getLsbD 10), coldTerminal (pins.getLsbD 11),
     coldTerminal (pins.getLsbD 12), coldTerminal (pins.getLsbD 13), coldTerminal (pins.getLsbD 14),
     coldTerminal (pins.getLsbD 15)]

/-- The default line configuration (R109). -/
def defaultLineConfig : LineConfig where
  resolution := 100
  eyeFilter := 20
  meterPosition := 2000
  redryGate := 8500
  rejectGate := 10000
  outfeed := 14000
  spacing := 500
  b1 := 1800
  b2 := 2700
  b3 := 3600
  redryLimit := 80
  knifeThreshold := 100

/-- The board tracker after a cold start; no terminal holds an eye then, so every view reads 0 (R110, R130). -/
def coldLine : Line where
  state := .stopped
  returnTo := none
  config := defaultLineConfig
  position := 0
  infeed := ⟨false, none⟩
  outfeed := ⟨false, none⟩
  infeedCondition := .clear
  queue := []
  nextBoard := 1
  planedLength := 0
  knifeFlag := false
  uncharged := 0
  redryDemand := false
  rejectDemand := false
  stopDemand := true

/-- The pack builder after a cold start (R132, R145). -/
def coldPacks : PackBuilder where
  bays := Vector.replicate 8 none
  held := []
  targets := Vector.replicate 4 60
  overflow := 0

/-- The label unit after a cold start (R147, R158). -/
def coldLabels : LabelUnit where
  queue := []
  waiting := []
  head := none
  link := .idle
  answerTimer := none
  retryTimer := none

/-- Place of a severity in its order, which is also the kiln cause level less one (R161). -/
def Severity.index : Severity → Fin 3
  | .advisory => 0
  | .degrade => 1
  | .critical => 2

/-- Place of a kind in the table of R159. -/
def FaultKind.index : FaultKind → Fin 24
  | .overtemp => 0
  | .climateDeviation => 1
  | .sampleImplausible => 2
  | .sampleFailed => 3
  | .samplesLost => 4
  | .stepOvertime => 5
  | .moduleLost => 6
  | .trackOverflow => 7
  | .trackMismatch => 8
  | .meterFault => 9
  | .lateDecision => 10
  | .knifeService => 11
  | .redryHigh => 12
  | .bayBlock => 13
  | .labelQueueFull => 14
  | .printerNak => 15
  | .printerTimeout => 16
  | .busNack => 17
  | .busStop => 18
  | .frameCheck => 19
  | .rxOverrun => 20
  | .reportsDropped => 21
  | .storeWriteFail => 22
  | .supervisionExpired => 23

/-- The four fixed kinds (R159). -/
def FaultKind.fixed : FaultKind → Bool
  | .overtemp | .trackOverflow | .trackMismatch | .supervisionExpired => true
  | _ => false

/-- Place of a domain in the order KILN0..KILN5, LINE, PACKING, LINKS, SYSTEM (R159, R177). -/
def Domain.index : Domain → Fin 10
  | .kiln k => ⟨k.val, by omega⟩
  | .line => 6
  | .packing => 7
  | .links => 8
  | .system => 9

/-- A kind's configuration after a cold start at the given severity: mask clear, count selection set (R159). -/
def defaultKind (severity : Severity) : KindConfig := ⟨severity, false, true⟩

/-- The default configuration of the 24 kinds, in the order of the table of R159. -/
def defaultKinds : Vector KindConfig 24 :=
  #v[defaultKind .critical, defaultKind .degrade, defaultKind .advisory, defaultKind .advisory,
     defaultKind .degrade, defaultKind .advisory, defaultKind .critical,
     defaultKind .critical, defaultKind .critical, defaultKind .advisory, defaultKind .advisory,
     defaultKind .advisory, defaultKind .advisory,
     defaultKind .advisory, defaultKind .degrade, defaultKind .advisory, defaultKind .degrade,
     defaultKind .advisory, defaultKind .advisory, defaultKind .advisory, defaultKind .advisory,
     defaultKind .advisory, defaultKind .degrade, defaultKind .critical]

/-- The action sets after a cold start (R161). -/
def defaultActions : Vector ActionSet 3 :=
  #v[⟨true, false, false, false⟩, ⟨true, true, false, false⟩, ⟨true, false, true, true⟩]

/-- The fault unit after a cold start (R173). -/
def coldFaults : FaultUnit where
  kinds := defaultKinds
  actions := defaultActions
  logs := Vector.replicate 10 ⟨none, none, 0, false⟩

/-- Number of a report kind above 0xC0, and its bit in a report set (R176). -/
def ReportKind.index : ReportKind → Nat
  | .start => 0
  | .storeDone => 1
  | .chargeState => 2
  | .kilnState => 3
  | .kilnStep => 4
  | .sampleUpdate => 5
  | .moduleRestored => 6
  | .terminalEdge => 7
  | .lineState => 8
  | .boardDecided => 9
  | .packClosed => 10
  | .labelDone => 11
  | .fault => 12
  | .supervision => 13

/-- START, STORE-DONE, FAULT and SUPERVISION: the subscription set after a cold start (R186, R193). -/
def coldSubscribed : BitVec 16 := 0x3003#16

/-- FAULT and SUPERVISION: the HIGH set after a cold start (R186, R193). -/
def coldHighKinds : BitVec 16 := 0x3000#16

/-- The start-cause flags after a start of the given cause: POWER clears all and sets its own, each other sets its own
and keeps the rest (R191). -/
def causesAfter (cause : StartCause) (c : StartCauses) : StartCauses :=
  match cause with
  | .power => ⟨true, false, false, false⟩
  | .pin => { c with pin := true }
  | .restart => { c with restart := true }
  | .lineBreak => { c with lineBreak := true }

/-- The port's own state after a cold start that leaves the given start-cause flags, before START is queued (R193). -/
def coldPort (causes : StartCauses) : Port where
  receiver := .hunt
  requests := []
  replies := []
  reports := []
  sending := none
  restart := .none
  gap := false
  dropOwed := none
  subscribed := coldSubscribed
  highKinds := coldHighKinds
  supervision := none
  latch := false
  expiredSinceCold := false
  causes := causes
  clock := 0
  clockSet := false
  divider := 0

/-- The flags after a POWER start (R191). -/
def powerCauses : StartCauses := ⟨true, false, false, false⟩

/-- The port right after a POWER start: the START report was queued and, the transmitter being free, its sending has
begun, with GAP clear (R182, R191, R193). -/
def resetPort : Port :=
  { coldPort powerCauses with sending := some (.report (.start false .power powerCauses 0 false) false) }

end Sys2Proof.Machine
end

