-- ==== Sys2Proof/Machine/State.lean ====
section
/-! DEFINITION. The state of the Noflar 620, every block whole, and the queue of commands that wait. -/

namespace Sys2Proof.Machine

/-- The machine. `pending` is the queue of commands, first in first out. `freeCount` is the model's own: the number of
values taken so far from `Config.firstConversion` and `Config.releasedPinHigh` (log entry 8). Every other field is a
block of the manual (section "Block Diagram" of the introduction). -/
structure State where
  pending : List Instr
  store : Store
  charges : ChargeTable
  kilns : Vector Kiln 6
  bus : Bus
  terminals : Vector Terminal 16
  line : Line
  packs : PackBuilder
  labels : LabelUnit
  faults : FaultUnit
  port : Port
  freeCount : Nat
deriving DecidableEq, Repr

/-- The reasons a step can stop with a fault: none. Every row of the table has its effect in every state (log entry 2),
so no meaning raises one; the type is empty. -/
inductive Fault where
deriving DecidableEq, Repr

/-- The reasons a step can be refused. -/
inductive Refusal where
  /-- Raised by an arm of `exec` whose row has no meaning yet; safe, since nothing can be proved of such a step. No arm
  raises it now. -/
  | notModelled (mnemonic : String)
deriving DecidableEq, Repr

/-- The machine right after the first POWER start of a part that left the factory: the store at its factory contents
(R1), every block at its cold start values, every pin found low (log entry 6), and the START report begun (R191). -/
def State.reset : State where
  pending := []
  store := factoryStore
  charges := coldCharges
  kilns := coldKilns
  bus := coldBus
  terminals := coldTerminals 0
  line := coldLine
  packs := coldPacks
  labels := coldLabels
  faults := coldFaults
  port := resetPort
  freeCount := 0

end Sys2Proof.Machine
end

