-- ==== Sys2Proof/Machine/Flags.lean ====
section
/-! DEFINITION. Flags and classes the rules read off the state: which phases run, which states scan, what stops the line,
when the port takes a request, and the like. None of them is state of its own. -/

namespace Sys2Proof.Machine

/-- The running phase a kiln state is, if it is one (section 4.4). -/
def KilnState.phase? : KilnState → Option Phase
  | .run => some .run
  | .equalise => some .equalise
  | .condition => some .condition
  | _ => none

/-- RUN, EQUALISE or CONDITION (section 4.4). -/
def KilnState.running (st : KilnState) : Bool := st.phase?.isSome

/-- HOLD or PARK (section 4.4). -/
def KilnState.held : KilnState → Bool
  | .hold | .park => true
  | _ => false

/-- The scanning states (R86). -/
def KilnState.scanning (st : KilnState) : Bool := st.running || st.held

/-- The state a resume phase names (R74). -/
def Phase.state : Phase → KilnState
  | .run => .run
  | .equalise => .equalise
  | .condition => .condition

/-- The mode a kiln state sends (R75). -/
def KilnState.mode : KilnState → ModuleMode
  | .run | .equalise | .condition => .run
  | .hold => .hold
  | .park => .park
  | .idle | .loaded | .done => .off

/-- Whether the LINE_STOP demand is asserted in a line state (R106, R111). -/
def LineState.stops : LineState → Bool
  | .stopped | .blocked | .tripped => true
  | .running | .draining => false

/-- The line state a return state names (R118). -/
def ReturnState.state : ReturnState → LineState
  | .running => .running
  | .draining => .draining

/-- Whether the line is STOPPED or TRIPPED, the states that admit configuration (R100, R109, R188). -/
def LineState.atRest : LineState → Bool
  | .stopped | .tripped => true
  | _ => false

/-- The logical level of a pin level, and equally the pin level of a logical level (R99). -/
def Polarity.through (p : Polarity) (level : Bool) : Bool :=
  match p with
  | .activeHigh => level
  | .activeLow => !level

/-- The record of a terminal whose pin is driven at a logical level: through its polarity at the pin, and as it is in the
input level field (R99). -/
def Terminal.driven (level : Bool) (t : Terminal) : Terminal :=
  { t with input := level, drive := some (t.polarity.through level) }

/-- Every function but GENERAL_IN and GENERAL_OUT (section 6.1). -/
def TermFn.isLine : TermFn → Bool
  | .generalIn | .generalOut => false
  | _ => true

/-- METER_IN and TEMP_IN (section 6.1). -/
def TermFn.analogue : TermFn → Bool
  | .meterIn | .tempIn => true
  | _ => false

/-- The functions whose pin level is taken in (R99). -/
def TermFn.digitalInput : TermFn → Bool
  | .generalIn | .infeedEye | .outfeedEye | .encoder | .meterFault => true
  | _ => false

/-- An edge to the given logical level matches the selection (R103). -/
def EdgeSelect.selects (e : EdgeSelect) (level : Bool) : Bool :=
  match e with
  | .none => false
  | .rising => level
  | .falling => !level
  | .both => true

/-- Severity's kiln cause level (R161). -/
def Severity.level (v : Severity) : Nat := v.index.val + 1

/-- The READY output: asserted while the request buffer holds fewer than four frames (R179). -/
def Port.ready (p : Port) : Bool := decide (p.requests.length < 4)

/-- Room in the reply queue, and no RESTART taken: the part of R180's condition that does not concern the buffer. -/
def Port.canTake (p : Port) : Bool := decide (p.replies.length < 4) && decide (p.restart = .none)

/-- The supervision latch is set and its mode is HOLD_ALL (R60, R74, R112, R113). -/
def Port.latchHolds (p : Port) : Bool :=
  p.latch && (match p.supervision with | some v => decide (v.mode = .holdAll) | none => false)

/-- The plant clock reading with its not-set mark (R194). -/
def State.now (s : State) : Time := ⟨s.port.clock, !s.port.clockSet⟩

/-- The condition that freezes a timer with standby-pause (R188). -/
def State.standby (s : State) : Bool :=
  s.line.state.atRest &&
    s.kilns.toList.all fun k =>
      match k.state with
      | .idle | .loaded | .done | .park => true
      | _ => false

/-- Whether the timer is frozen now (R188). -/
def State.frozen (s : State) : Bool :=
  match s.port.supervision with
  | some v => v.standbyPause && s.standby
  | none => false

/-- The feed charge: the record in state PLANING (R41). -/
def State.feedCharge (s : State) : Option ChargeRecord :=
  s.charges.records.toList.findSome? fun r =>
    match r with
    | some c => if c.state = .planing then some c else none
    | none => none

/-- The record that holds a charge number (R35). -/
def State.charge? (s : State) (number : Nat) : Option ChargeRecord :=
  s.charges.records.toList.findSome? fun r =>
    match r with
    | some c => if c.number = number then some c else none
    | none => none

/-- The first terminal that holds a function, with its number (section 6.1). -/
def State.holder (s : State) (f : TermFn) : Option (Fin 16) :=
  ([0, 1, 2, 3, 4, 5, 6, 7, 8, 9, 10, 11, 12, 13, 14, 15] : List (Fin 16)).find? fun t => decide (s.terminals[t].fn = f)

/-- The two bays of a class, the A bay first (R132). -/
def classBays (c : Fin 4) : Fin 8 × Fin 8 := (⟨2 * c.val, by omega⟩, ⟨2 * c.val + 1, by omega⟩)

/-- The class a bay serves (R132). -/
def bayClass (b : Fin 8) : Fin 4 := ⟨b.val / 2, by omega⟩

/-- The bay of a class that holds an OPEN pack (R133 case 1). -/
def PackBuilder.openBay (p : PackBuilder) (c : Fin 4) : Option (Fin 8) :=
  [(classBays c).1, (classBays c).2].find? fun b =>
    match p.bays[b] with
    | some k => decide (k.state = .opened)
    | none => false

/-- The FREE bay of a class that is taken first (R133 case 2). -/
def PackBuilder.freeBay (p : PackBuilder) (c : Fin 4) : Option (Fin 8) :=
  [(classBays c).1, (classBays c).2].find? fun b => (p.bays[b]).isNone

/-- Whether a class has a place: an OPEN pack or a FREE bay (R132). -/
def PackBuilder.hasPlace (p : PackBuilder) (c : Fin 4) : Bool := (p.openBay c).isSome || (p.freeBay c).isSome

/-- LABELLED with label state PRINTED, the condition of BAY-CLEARED and of REPRINT (R141, R156). -/
def Pack.printed (p : Pack) : Bool :=
  decide (p.state = .labelled) &&
    (match p.closing with
      | some c => decide (c.label = .printed)
      | none => false)

/-- The bay whose pack a REPRINT of a number takes: the first that holds a printed pack of that number (R156; log entry 17). -/
def PackBuilder.printedBay (p : PackBuilder) (number : Nat) : Option (Fin 8) :=
  ([0, 1, 2, 3, 4, 5, 6, 7] : List (Fin 8)).find? fun b =>
    match p.bays[b] with
    | some k => decide (k.number = number) && k.printed
    | none => false

end Sys2Proof.Machine
end

