-- ==== Sys2Proof/Machine/Ops.lean ====
section
/-! DEFINITION. The operations every block's rules share: queueing a report, changing the line state, a hold or park
cause, a poll that falls due, raising a fault, the transmitter, and the shape of an event and of a taken request. -/

namespace Sys2Proof.Machine

/-! ## Plain updates -/

/-- Apply a change to one entry. -/
def vmod {α : Type} {n : Nat} (v : Vector α n) (i : Fin n) (f : α → α) : Vector α n := v.set i (f v[i])

/-- Apply a change to every entry. -/
def vmap {α β : Type} {n : Nat} (f : α → β) (v : Vector α n) : Vector β n := ⟨⟨v.toArray.toList.map f⟩, by simp⟩

def State.modKiln (k : Fin 6) (f : Kiln → Kiln) (s : State) : State := { s with kilns := vmod s.kilns k f }

def State.modLink (k : Fin 6) (f : KilnLink → KilnLink) (s : State) : State :=
  { s with bus := { s.bus with links := vmod s.bus.links k f } }

def State.modTerminal (t : Fin 16) (f : Terminal → Terminal) (s : State) : State :=
  { s with terminals := vmod s.terminals t f }

def State.modPort (f : Port → Port) (s : State) : State := { s with port := f s.port }

def State.modLine (f : Line → Line) (s : State) : State := { s with line := f s.line }

def State.modLabels (f : LabelUnit → LabelUnit) (s : State) : State := { s with labels := f s.labels }

def State.modStore (f : Store → Store) (s : State) : State := { s with store := f s.store }

/-- Change the record that holds a charge number; no record holds a number twice (R35). -/
def State.modCharge (number : Nat) (f : ChargeRecord → ChargeRecord) (s : State) : State :=
  { s with charges := { s.charges with
      records := vmap (Option.map fun c => if c.number = number then f c else c) s.charges.records } }

/-- Put a pack record, or FREE, into a bay. -/
def State.setBay (b : Fin 8) (p : Option Pack) (s : State) : State :=
  { s with packs := { s.packs with bays := s.packs.bays.set b p } }

/-- Change the pack of a bay, where one stands. -/
def State.modBay (b : Fin 8) (f : Pack → Pack) (s : State) : State :=
  { s with packs := { s.packs with bays := vmod s.packs.bays b (Option.map f) } }

/-! ## Reports (section 11.5) -/

/-- A drop sets the gap flag; the drop that sets it leaves a REPORTS_DROPPED raise owed (R184). -/
def Port.noteDrop (kind : ReportKind) (p : Port) : Port :=
  if p.gap then p else { p with gap := true, dropOwed := some kind }

/-- The oldest entry that a test selects, and the entries without it. -/
def takeFirst {α : Type} (test : α → Bool) : List α → Option (α × List α)
  | [] => none
  | a :: rest => if test a then some (a, rest) else (takeFirst test rest).map fun x => (x.1, a :: x.2)

/-- Queueing a report (R183, R184). -/
def Port.queue (r : Report) (p : Port) : Port :=
  if p.subscribed.getLsbD r.kind.index = false then p
  else
    let high := p.highKinds.getLsbD r.kind.index
    if p.reports.length < 32 then { p with reports := p.reports ++ [⟨r, high⟩] }
    else if high then
      match takeFirst (fun e => !e.high) p.reports with
      | some (old, rest) => Port.noteDrop old.report.kind { p with reports := rest ++ [⟨r, true⟩] }
      | none => p.noteDrop r.kind
    else p.noteDrop r.kind

def queueReport (r : Report) (s : State) : State := s.modPort (Port.queue r)

/-! ## Polls that fall due (R87) -/

/-- A poll of a kiln falls due: it joins the tail with the kiln's present mark, unless the list already holds an entry of
the same kiln and kind (R87). -/
def pollDue (k : Fin 6) (kind : PollKind) (s : State) : State :=
  if s.bus.pendingPolls.any fun e => decide (e.kiln = k) && decide (e.kind = kind) then s
  else { s with bus := { s.bus with
      pendingPolls := s.bus.pendingPolls ++ [⟨k, kind, s.bus.links[k].mark⟩] } }

/-! ## The line state (R111, R115) -/

/-- The terminal that holds an output function drives a demand at its pin; its input level follows (R106). -/
def driveOutput (f : TermFn) (demand : Bool) (s : State) : State :=
  { s with terminals := vmap (fun t => if t.fn = f then t.driven demand else t) s.terminals }

/-- LINE-STATE (R111). -/
def reportLine (cause : LineCause) (s : State) : State :=
  queueReport
    (.lineState s.line.state s.line.returnTo (s.feedCharge.map ChargeRecord.number) cause s.line.queue.length) s

/-- The line enters a state: the LINE_STOP demand follows it, and LINE-STATE is queued (R111). -/
def enterLine (st : LineState) (ret : Option ReturnState) (cause : LineCause) (s : State) : State :=
  reportLine cause
    (driveOutput .lineStop st.stops
      (s.modLine fun l => { l with state := st, returnTo := ret, stopDemand := st.stops }))

/-- A trip (R115). -/
def trip (cause : LineCause) (s : State) : State :=
  if s.line.state = .tripped then s else enterLine .tripped none cause s

/-! ## Holds and parks (R71, R80) -/

/-- KILN-STATE (R80). -/
def reportKiln (k : Fin 6) (cause : KilnCause) (s : State) : State :=
  let c := s.kilns[k]
  queueReport
    (.kilnState k c.state c.resume c.level c.charge (c.drying.map (·.stepIndex)) (c.drying.map (·.setpoint))
      (c.drying.map (·.depression)) c.figures.controlling cause) s

/-- What a hold or park cause of a level makes of a kiln context (R71). -/
def Kiln.caused (kind : HoldKind) (level : Nat) (c : Kiln) : Kiln :=
  let stop : KilnState := match kind with | .hold => .hold | .park => .park
  match c.state with
  | .run | .equalise | .condition => { c with state := stop, resume := c.state.phase?, level := level }
  | .hold => { c with state := stop, level := max c.level level }
  | .park => { c with level := max c.level level }
  | .idle | .loaded | .done => c

/-- A cause reaches a kiln: a change of state or level queues KILN-STATE, and a change of state changes the module mode,
so a climate poll falls due (R71, R75). -/
def applyCause (k : Fin 6) (kind : HoldKind) (level : Nat) (cause : KilnCause) (s : State) : State :=
  let old := s.kilns[k]
  let new := old.caused kind level
  if new.state = old.state ∧ new.level = old.level then s
  else
    let s := reportKiln k cause (s.modKiln k fun _ => new)
    if new.state = old.state then s else pollDue k .climate s

/-- The six kilns in order. -/
def allKilns : List (Fin 6) := [0, 1, 2, 3, 4, 5]

/-- A cause for each kiln of a list, in order (R166, R190). -/
def applyCauses (kind : HoldKind) (level : Nat) (cause : KilnCause) (ks : List (Fin 6)) (s : State) : State :=
  ks.foldl (fun s k => applyCause k kind level cause s) s

/-! ## Raising a fault (section 10.2) -/

/-- What a raise makes of a domain log and counter, and where the record was placed (R164, R165). -/
def DomainLog.raised (r : FaultRecord) (counted : Bool) (l : DomainLog) : DomainLog × Placement :=
  let logged : DomainLog × Placement :=
    if l.first.isNone then ({ l with first := some r }, .first)
    else if l.next.isNone then ({ l with next := some r }, .next)
    else (l, .none)
  if counted = false then logged
  else if l.counter < 127 then ({ logged.1 with counter := l.counter + 1 }, logged.2)
  else ({ logged.1 with overflow := true }, logged.2)

/-- The kilns a domain's kiln actions reach (R166). -/
def Domain.kilns : Domain → List (Fin 6)
  | .kiln k => [k]
  | .system => allKilns
  | .line | .packing | .links => []

/-- The kiln cause of an action set: park when it holds PARK_KILN, else hold when it holds HOLD_KILN (R71, R166). -/
def ActionSet.kilnCause (a : ActionSet) : Option HoldKind :=
  if a.parkKiln then some .park else if a.holdKiln then some .hold else none

/-- The actions of a raise: the FAULT report first, then the kilns, then the line (R166 to R168). -/
def applyActions (d : Domain) (r : FaultRecord) (log : DomainLog × Placement) (a : ActionSet) (s : State) : State :=
  let s := if a.report then queueReport (.fault d r log.2 log.1.counter log.1.overflow a) s else s
  let s := match a.kilnCause with
    | some kind => applyCauses kind r.severity.level .fault d.kilns s
    | none => s
  if a.stopLine then trip .fault s else s

/-- A raise, handled whole: ignored when masked, else recorded, logged, counted and acted on (R162 to R169). -/
def raise (kind : FaultKind) (d : Domain) (context : FaultContext) (s : State) : State :=
  let cfg := s.faults.kinds[kind.index]
  if cfg.masked then s
  else
    let r : FaultRecord := ⟨kind, cfg.severity, s.now, context⟩
    let log := s.faults.logs[d.index].raised r cfg.counted
    let s := { s with faults := { s.faults with logs := s.faults.logs.set d.index log.1 } }
    if kind = .supervisionExpired then s
    else applyActions d r log s.faults.actions[cfg.severity.index] s

/-- A raise of a kiln kind, with the context the kiln holds at the raise (R163). -/
def raiseKiln (kind : FaultKind) (k : Fin 6) (s : State) : State :=
  let c := s.kilns[k]
  raise kind (.kiln k)
    (.kiln c.charge c.state (c.drying.map (·.stepIndex)) (c.drying.map (·.setpoint)) (c.measured.map (·.dryBulb))
      c.figures.controlling) s

/-- A raise in the LINE domain (R163). -/
def raiseLine (kind : FaultKind) (board charge : Option Nat) (position : Nat) (s : State) : State :=
  raise kind .line (.line board charge position) s

/-- A raise in the PACKING domain, with the label queue depth at the raise (R163). -/
def raisePacking (kind : FaultKind) (pack : Option Nat) (s : State) : State :=
  raise kind .packing (.packing pack s.labels.queue.length) s

/-- Number of a report kind on the link (R176). -/
def ReportKind.byte (k : ReportKind) : Byte := BitVec.ofNat 8 (0xC0 + k.index)

/-- The REPORTS_DROPPED raise that an event left owed (R168, R184). -/
def takeOwed (s : State) : State :=
  match s.port.dropOwed with
  | none => s
  | some kind =>
    raise .reportsDropped .links (.links none (some kind.byte)) (s.modPort fun p => { p with dropOwed := none })

/-! ## The transmitter (section 11.4) -/

/-- A free transmitter begins the head reply, or else, unless a RESTART is under way, the report of R185: the oldest HIGH
entry, or the oldest LOW one when there is none. The frame leaves its queue now (R182, R185, R192). -/
def Port.begin (p : Port) : Port :=
  if p.sending.isSome then p
  else
    match p.replies with
    | f :: rest => { p with sending := some (.reply f), replies := rest }
    | [] =>
      if p.restart ≠ .none then p
      else
        match takeFirst (fun e => e.high) p.reports, p.reports with
        | some (e, rest), _ => { p with sending := some (.report e.report p.gap), reports := rest, gap := false }
        | none, e :: rest => { p with sending := some (.report e.report p.gap), reports := rest, gap := false }
        | none, [] => p

def beginTransmit (s : State) : State := s.modPort Port.begin

/-! ## Events and requests -/

/-- One event: a raise owed by the event before is taken first, then the event's own effect, and a transmitter left free
begins the next frame (R182, R184; log entries 3 and 4). -/
def event (f : State → State) (s : State) : State := beginTransmit (f (takeOwed s))

/-- A reply joins the tail of the reply queue (R180). -/
def pushReply (f : Frame) (s : State) : State := s.modPort fun p => { p with replies := p.replies ++ [f] }

/-- A request is acted on by its owner, and the reply, whose kind is the request's plus 0x80, is formed in the same event
(R180). -/
def answer (kind tag : Byte) (act : State → State × List Byte) (s : State) : State :=
  pushReply ⟨kind + 0x80#8, tag, (act s).2⟩ (act s).1

/-- Step 3 of R179: a frame joins the request buffer, or is discarded with RX_OVERRUN when the buffer holds four. -/
def joinRequests (f : Frame) (s : State) : State :=
  if s.port.requests.length < 4 then s.modPort fun p => { p with requests := p.requests ++ [f] }
  else raise .rxOverrun .links (.links none (some f.kind)) s

/-- A request reaches the port. When the port can take it at once it does; otherwise its frame waits in the buffer, or is
lost there when the buffer is full (R179, R180; log entry 3). -/
def request (kind tag : Byte) (payload : List Byte) (act : State → State × List Byte) (s : State) : State :=
  event (fun s =>
    if s.port.canTake && s.port.requests.isEmpty then answer kind tag act s
    else joinRequests ⟨kind, tag, payload⟩ s) s

end Sys2Proof.Machine
end

