-- ==== Sys2Proof/Machine/Wire.lean ====
section
/-! DEFINITION. The wire layouts of chapter 11: the check value and the frame (R175), the payload conventions (R177), the
fields of every report and of every reply that carries a record, and the printer's lines (R150, R196). Where R177 leaves a
width or a grouping open, log entry 7 says what is taken. -/

namespace Sys2Proof.Machine

/-! ## Check value and frame (R175) -/

/-- One bit of the CRC-16 with polynomial 0x1021. -/
def crcBit (crc : BitVec 16) : BitVec 16 := if crc.msb then (crc <<< 1) ^^^ 0x1021#16 else crc <<< 1

/-- One byte of the CRC-16, most significant bit first. -/
def crcByte (crc : BitVec 16) (b : Byte) : BitVec 16 :=
  crcBit (crcBit (crcBit (crcBit (crcBit (crcBit (crcBit (crcBit (crc ^^^ (b.zeroExtend 16 <<< 8)))))))))

/-- The CRC-16 of a byte sequence, initial value 0xFFFF, result not inverted (R175). -/
def crc16 (bs : List Byte) : BitVec 16 := bs.foldl crcByte 0xFFFF#16

/-- Length, kind, tag and payload: the bytes the check covers (R175). -/
def Frame.covered (f : Frame) : List Byte := BitVec.ofNat 8 f.payload.length :: f.kind :: f.tag :: f.payload

/-- The check value of a frame (R175). -/
def Frame.crc (f : Frame) : BitVec 16 := crc16 f.covered

/-- The bytes of a frame on the link: start byte, the covered bytes, the check low byte first (R175). -/
def Frame.bytes (f : Frame) : List Byte :=
  0xA5#8 :: f.covered ++ [f.crc.setWidth 8, (f.crc >>> 8).setWidth 8]

/-! ## Payload conventions (R177) -/

/-- A little-endian integer of `w` bytes. -/
def le : Nat → Nat → List Byte
  | 0, _ => []
  | w + 1, n => BitVec.ofNat 8 n :: le w (n / 256)

def flagByte (b : Bool) : List Byte := [if b then 1#8 else 0#8]

/-- A set of named flags: one byte, bit 0 for the first. -/
def flagSet (bs : List Bool) : List Byte :=
  [BitVec.ofNat 8 (bs.foldr (fun b n => 2 * n + b.toNat) 0)]

/-- A signed 16-bit temperature. -/
def temp (t : Int) : List Byte := le 2 (t % 65536).toNat

/-- An optional field of width `w`: a presence byte, then the value or zeros. -/
def opt {α : Type} (w : Nat) (enc : α → List Byte) : Option α → List Byte
  | some a => 1#8 :: enc a
  | none => 0#8 :: List.replicate w 0#8

/-- A field that carries a value or a mark: mark byte 0 and the value, or mark byte 1 alone. -/
def orMark {α : Type} (enc : α → List Byte) : Option α → List Byte
  | some a => 0#8 :: enc a
  | none => [1#8]

/-- A list: its entry count, then the entries. -/
def wireList {α : Type} (enc : α → List Byte) (l : List α) : List Byte :=
  BitVec.ofNat 8 l.length :: (l.map enc).flatten

/-- A name: its count, then the characters. -/
def wireName (name : List Byte) : List Byte := BitVec.ofNat 8 name.length :: name

/-- A travel or position in mm: 32 bits, held at the top. -/
def wireMm (n : Nat) : List Byte := le 4 (min n 4294967295)

def Time.wire (t : Time) : List Byte := flagByte t.notSet ++ le 4 t.reading

/-- As many entries as fit in `room` bytes, whole, from the first on (R181). -/
def fitting (room : Nat) : List (List Byte) → List (List Byte)
  | [] => []
  | e :: rest => if e.length ≤ room then e :: fitting (room - e.length) rest else []

/-- Fields that end in a list, cut to the 239 bytes a reply holds after its status (R181). -/
def endingInList (fields : List Byte) (entries : List (List Byte)) : List Byte :=
  let kept := fitting (239 - (fields.length + 1)) entries
  fields ++ BitVec.ofNat 8 kept.length :: kept.flatten

/-! ## Numbers of enumerated values (R177) -/

def Slot.code : Slot → Nat
  | .empty => 0
  | .valid _ => 1
  | .writing => 2
  | .invalid => 3

def SpeciesPlace.code : SpeciesPlace → Nat
  | .absent => 0
  | .present _ => 1
  | .writing _ => 2
  | .invalid => 3

def ChargeState.code : ChargeState → Nat
  | .created => 0
  | .inKiln => 1
  | .drying => 2
  | .dried => 3
  | .released => 4
  | .planing => 5
  | .closed => 6

def KilnState.code : KilnState → Nat
  | .idle => 0
  | .loaded => 1
  | .run => 2
  | .equalise => 3
  | .condition => 4
  | .hold => 5
  | .park => 6
  | .done => 7

def Phase.code : Phase → Nat
  | .run => 0
  | .equalise => 1
  | .condition => 2

def Standing.code : Option Standing → Nat
  | none => 0
  | some .defined => 1
  | some .excluded => 2
  | some .failed => 3

def KilnCause.code : KilnCause → Nat
  | .request => 0
  | .schedule => 1
  | .fault => 2
  | .supervision => 3

def StepCause.code : StepCause → Nat
  | .mc => 0
  | .time => 1
  | .operator => 2

def PollKind.code : PollKind → Nat
  | .climate => 0
  | .scan => 1

def LinkState.code : LinkState → Nat
  | .unknown => 0
  | .up => 1
  | .lost => 2

def TermFn.code : TermFn → Nat
  | .generalIn => 0
  | .generalOut => 1
  | .infeedEye => 2
  | .outfeedEye => 3
  | .encoder => 4
  | .meterFault => 5
  | .meterIn => 6
  | .tempIn => 7
  | .redryGate => 8
  | .rejectGate => 9
  | .lineStop => 10

def Polarity.code : Polarity → Nat
  | .activeHigh => 0
  | .activeLow => 1

def EdgeSelect.code : EdgeSelect → Nat
  | .none => 0
  | .rising => 1
  | .falling => 2
  | .both => 3

def LineState.code : LineState → Nat
  | .stopped => 0
  | .running => 1
  | .draining => 2
  | .blocked => 3
  | .tripped => 4

def ReturnState.code : ReturnState → Nat
  | .running => 0
  | .draining => 1

def LineCause.code : LineCause → Nat
  | .request => 0
  | .drained => 1
  | .bay => 2
  | .fault => 3
  | .supervision => 4

def InfeedCondition.code : InfeedCondition → Nat
  | .clear => 0
  | .tracked => 1
  | .untracked => 2

def RejectReason.code : RejectReason → Nat
  | .short => 0
  | .overdry => 1
  | .late => 2
  | .noCharge => 3

/-- A decision is two bytes (R177). -/
def Decision.wire : Decision → List Byte
  | .pending => [0, 0]
  | .accept c => [1, BitVec.ofNat 8 c.val]
  | .redry => [2, 0]
  | .reject r => [3, BitVec.ofNat 8 r.code]
  | .unmeasured => [4, 0]

def PackState.code : PackState → Nat
  | .opened => 0
  | .closed => 1
  | .labelled => 2

def CloseReason.code : CloseReason → Nat
  | .count => 0
  | .request => 1

def LabelState.code : LabelState → Nat
  | .waitingSlot => 0
  | .queued => 1
  | .printed => 2

def PrinterLink.code : PrinterLink → Nat
  | .idle => 0
  | .sending => 1
  | .answerWait => 2
  | .retryWait => 3

def Placement.code : Placement → Nat
  | .first => 0
  | .next => 1
  | .none => 2

def StartCause.code : StartCause → Nat
  | .power => 0
  | .pin => 1
  | .restart => 2
  | .lineBreak => 3

def SuperviseMode.code : SuperviseMode → Nat
  | .holdAll => 0
  | .notify => 1

/-- Number of a supervision event. No rule lists the two: DESIGN CHOICE, in the order an expiry and its clearing happen
(log entry 7). -/
def SupervisionEvent.code : SupervisionEvent → Nat
  | .expired => 0
  | .cleared => 1

/-! ## Records -/

def ScheduleStep.wire (st : ScheduleStep) : List Byte :=
  temp st.target ++ temp st.depression ++
    (match st.leave with
      | .mc t => le 1 0 ++ le 2 t
      | .time m => le 1 1 ++ le 2 m) ++
    opt 2 (le 2) st.maxDuration

/-- A schedule record in the field order of SCHEDULE-STORE, without the slot (R5). -/
def Schedule.wire (r : Schedule) : List Byte :=
  wireName r.name ++ le 1 r.species ++ le 1 r.thicknessClass ++ wireList ScheduleStep.wire r.steps ++ le 1 r.rampRate ++
    le 2 r.finalTarget ++ temp r.equaliseDepression ++ le 2 r.equaliseTolerance ++ temp r.conditionDepression ++
    le 2 r.conditionDuration

/-- A species entry in the field order of SPECIES-STORE, without the species (R9). -/
def SpeciesEntry.wire (e : SpeciesEntry) : List Byte :=
  wireName e.name ++ wireList (fun p : CalibrationPoint => le 2 p.raw ++ le 2 p.mc) (e.firstPoint :: e.laterPoints) ++
    le 1 e.coefficient ++ le 2 e.dryLimit ++ le 2 e.wetLimit ++ le 2 e.spotLimit

def PlanerCounts.wire (c : PlanerCounts) : List Byte :=
  le 4 c.entered ++ le 4 c.accepted ++ le 4 c.redry ++ le 4 c.rejected ++ le 4 c.unmeasured ++ le 4 c.untracked

def optKiln (k : Option (Fin 6)) : List Byte := opt 1 (fun k : Fin 6 => le 1 k.val) k

/-- A charge record in the order of its table, the position after the charge number (R49). The lowest and highest mean, one
row of the table, carry a presence byte each: DESIGN CHOICE (log entry 7). -/
def ChargeRecord.wire (position : Nat) (c : ChargeRecord) : List Byte :=
  le 2 c.number ++ le 1 position ++ le 1 c.state.code ++ le 1 c.species.val ++ le 1 c.thickness ++ le 2 c.width ++
    le 2 c.declared ++ le 1 c.slot.val ++
    opt 3 (fun p : RedryPart => le 2 p.count ++ le 1 p.species.val) c.redryPart ++
    optKiln c.kiln ++ optKiln c.dryingKiln ++ c.created.wire ++ opt 5 Time.wire c.started ++ opt 5 Time.wire c.dried ++
    opt 6 (fun m : FinalMC => le 2 m.mean ++ le 2 m.wettest ++ le 2 m.driest) c.finalMC ++
    flagByte c.incomplete ++ c.counts.wire ++ le 6 c.meanSum ++ le 4 c.meanCount ++
    opt 2 (le 2) (c.meanRange.map (·.lowest)) ++ opt 2 (le 2) (c.meanRange.map (·.highest)) ++
    le 1 c.inFlight ++ le 1 c.packRefs ++ flagByte c.redryHigh

/-- A sample record in the order of its table (section 4.2, R81). -/
def wireSample (o : Option Sample) : List Byte :=
  le 1 (Standing.code (o.map (·.standing))) ++ opt 2 (le 2) (o.map (·.greenWeight)) ++
    opt 2 (le 2) (o.map (·.greenMC)) ++ opt 2 (le 2) (o.map (·.odWeight)) ++ opt 2 (le 2) (o.bind (·.weight)) ++
    opt 2 (le 2) (o.bind (·.mc)) ++ opt 1 flagByte (o.map (·.saturated)) ++ opt 1 (le 1) (o.map (·.implausible))

def KilnFigures.wire (f : KilnFigures) : List Byte :=
  opt 2 (le 2) f.controlling ++ opt 2 (le 2) f.wettest ++ opt 2 (le 2) f.driest

def KilnConfig.wire (c : KilnConfig) : List Byte :=
  le 1 c.address ++ le 2 c.pollPeriod ++ le 1 c.sampleInterval ++ le 2 c.deviationBand ++ le 2 c.deviationLimit

/-- A schedule copy, carried as the name and the step count alone; absent, it is a name of no characters and a step count
of 0 behind its presence byte (R81). -/
def wireCopy : Option Schedule → List Byte
  | some r => 1#8 :: wireName r.name ++ le 1 r.steps.length
  | none => [0, 0, 0]

/-- A kiln context in the order of R53, then its samples (R81). The schedule copy's fields stand at its place in R53 and the
samples last: DESIGN CHOICE (log entry 7). -/
def Kiln.wire (c : Kiln) : List Byte :=
  le 1 c.state.code ++ opt 1 (fun p : Phase => le 1 p.code) c.resume ++ le 1 c.level ++ opt 2 (le 2) c.charge ++
    wireCopy (c.drying.map (·.schedule)) ++ opt 1 (le 1) (c.drying.map (·.stepIndex)) ++
    opt 2 (le 2) (c.drying.map (·.stepElapsed)) ++ opt 4 (le 4) (c.drying.map (·.totalElapsed)) ++
    opt 1 flagByte (c.drying.map (·.overtimeReported)) ++ opt 2 temp (c.drying.map (·.stepTarget)) ++
    opt 2 temp (c.drying.map (·.setpoint)) ++ opt 2 temp (c.drying.map (·.depression)) ++
    opt 2 (le 2) c.conditionRemaining ++ le 2 c.deviation ++ opt 2 temp (c.measured.map (·.dryBulb)) ++
    opt 2 temp (c.measured.map (·.wetBulb)) ++ opt 1 (fun b : Byte => [b]) (c.measured.map (·.status)) ++
    opt 2 (le 2) (c.measured.map (·.age)) ++ opt 1 flagByte (c.measured.map (·.stale)) ++
    c.figures.wire ++ flagByte c.samplesLost ++ c.config.wire ++ (c.samples.toList.map wireSample).flatten

/-- The poll in service as BUS-QUERY carries it (R96). The position and the list length of a scan are two optional fields, both
absent for a climate poll: DESIGN CHOICE (log entry 7). -/
def CurrentPoll.wire (p : CurrentPoll) : List Byte :=
  let scan : Option (Nat × Nat) := match p.work with
    | .climate _ => none
    | .scan positions index => (positions[index]?).map fun q => (q.val, positions.length)
  le 1 p.entry.kiln.val ++ le 1 p.entry.kind.code ++ le 1 p.attempt ++ le 1 p.address ++
    opt 1 (le 1) (scan.map (·.1)) ++ opt 1 (le 1) (scan.map (·.2))

def Terminal.wire (t : Terminal) : List Byte :=
  le 1 t.fn.code ++ le 1 t.polarity.code ++ le 1 t.edges.code ++ flagByte t.stored ++ flagByte t.input ++
    le 2 t.edgeCount ++ opt 2 (le 2) t.conversion

/-- The line configuration in the field order of R109; its positions are positions in mm carried in a reply (R177). -/
def LineConfig.wire (c : LineConfig) : List Byte :=
  le 2 c.resolution ++ le 1 c.eyeFilter ++ wireMm c.meterPosition ++ wireMm c.redryGate ++ wireMm c.rejectGate ++
    wireMm c.outfeed ++ le 2 c.spacing ++ le 2 c.b1 ++ le 2 c.b2 ++ le 2 c.b3 ++ le 2 c.redryLimit ++ le 2 c.knifeThreshold

def LineageEntry.wire (e : LineageEntry) : List Byte := le 2 e.charge ++ le 2 e.pieces

def ExceptionFlags.wire (f : ExceptionFlags) : List Byte := flagSet [f.incomplete, f.redryHigh, f.redryStock]

/-- A pack record in the order of its table (R143). -/
def Pack.wire (p : Pack) : List Byte :=
  le 4 p.number ++ le 1 p.cls.val ++ le 1 p.state.code ++ le 2 p.target ++ le 2 p.pieces ++ le 4 p.lengthSum ++
    le 6 p.volume ++ le 4 p.meanSum ++ le 2 p.highestMax ++ p.firstBoard.wire ++ p.lastBoard.wire ++
    wireList LineageEntry.wire p.lineage ++ flagByte p.mixed ++ le 2 p.unlisted ++
    opt 1 (fun c : Closing => c.flags.wire) p.closing ++ opt 1 (fun c : Closing => le 1 c.reason.code) p.closing ++
    opt 5 (fun c : Closing => c.time.wire) p.closing ++ opt 1 (fun c : Closing => le 1 c.label.code) p.closing ++
    opt 1 (fun c : Closing => le 1 c.reprints) p.closing

def Location.wire : Location → List Byte
  | .schedule n => le 1 0 ++ le 1 n.val
  | .species n => le 1 1 ++ le 1 n.val

def FaultContext.wire : FaultContext → List Byte
  | .kiln charge state step setpoint dryBulb controlling =>
    opt 2 (le 2) charge ++ le 1 state.code ++ opt 1 (le 1) step ++ opt 2 temp setpoint ++ opt 2 temp dryBulb ++
      opt 2 (le 2) controlling
  | .line board charge position => opt 2 (le 2) board ++ opt 2 (le 2) charge ++ wireMm position
  | .packing pack depth => opt 4 (le 4) pack ++ le 1 depth
  | .links address message => opt 1 (le 1) address ++ opt 1 (fun b : Byte => [b]) message
  | .system location => opt 2 Location.wire location

def FaultRecord.wire (r : FaultRecord) : List Byte :=
  le 1 r.kind.index.val ++ le 1 r.severity.index.val ++ r.time.wire ++ r.context.wire

/-- Bytes of a fault record in a domain, the width an absent one takes (R172, R177). -/
def Domain.recordWidth : Domain → Nat
  | .kiln _ => 7 + 15
  | .line => 7 + 10
  | .packing => 7 + 6
  | .links => 7 + 4
  | .system => 7 + 3

def ActionSet.wire (a : ActionSet) : List Byte := flagSet [a.report, a.holdKiln, a.parkKiln, a.stopLine]

def StartCauses.wire (c : StartCauses) : List Byte := flagSet [c.power, c.pin, c.restart, c.lineBreak]

def SampleView.wire (v : SampleView) : List Byte :=
  le 1 (Standing.code v.standing) ++ opt 2 (le 2) v.mc ++ flagByte v.saturated ++ le 1 v.implausible

/-! ## Reports -/

/-- The fields of a report after its flags byte, in the order its rule lists them. The UNDER and OVER flags of BOARD-DECIDED, which
R124 does not name optional, are sent clear where R29 makes them absent: no sample pair, species absent, LATE and NO_CHARGE:
DESIGN CHOICE (log entry 7). -/
def Report.fields : Report → List Byte
  | .start warm cause flags clock clockSet =>
    flagByte warm ++ le 1 cause.code ++ flags.wire ++ le 4 clock ++ flagByte clockSet
  | .storeDone location ok => location.wire ++ flagByte (!ok)
  | .chargeState charge state kiln incomplete redryHigh counts inFlight packRefs =>
    le 2 charge ++ orMark (fun st : ChargeState => le 1 st.code) state ++ optKiln kiln ++
      flagSet [incomplete, redryHigh] ++ counts.wire ++ le 1 inFlight ++ le 1 packRefs
  | .kilnState kiln state resume level charge step setpoint depression controlling cause =>
    le 1 kiln.val ++ le 1 state.code ++ opt 1 (fun p : Phase => le 1 p.code) resume ++ le 1 level ++
      opt 2 (le 2) charge ++ opt 1 (le 1) step ++ opt 2 temp setpoint ++ opt 2 temp depression ++
      opt 2 (le 2) controlling ++ le 1 cause.code
  | .kilnStep kiln charge step cause controlling total =>
    le 1 kiln.val ++ le 2 (charge.getD 0) ++ orMark (le 1) step ++ le 1 cause.code ++ opt 2 (le 2) controlling ++ le 4 total
  | .sampleUpdate kiln charge samples figures =>
    le 1 kiln.val ++ le 2 (charge.getD 0) ++ (samples.toList.map SampleView.wire).flatten ++ figures.wire
  | .moduleRestored kiln address poll => le 1 kiln.val ++ le 1 address ++ le 1 poll.code
  | .terminalEdge terminal level count time => le 1 terminal.val ++ flagByte level ++ le 2 count ++ time.wire
  | .lineState state ret feed cause boards =>
    le 1 state.code ++ opt 1 (fun r : ReturnState => le 1 r.code) ret ++ opt 2 (le 2) feed ++ le 1 cause.code ++ le 1 boards
  | .boardDecided board charge length decision samples moisture meterFault travel =>
    le 2 board ++ opt 2 (le 2) charge ++ opt 2 (le 2) length ++ decision.wire ++ le 1 samples ++
      opt 2 (fun m : BoardMoisture => le 2 m.mean) moisture ++ opt 2 (fun m : BoardMoisture => le 2 m.max) moisture ++
      flagSet [(moisture.map (·.underFlag)).getD false, (moisture.map (·.overFlag)).getD false, meterFault] ++ wireMm travel
  | .packClosed bay p =>
    le 1 bay.val ++ le 4 p.number ++ le 1 p.cls.val ++ le 2 p.target ++ le 2 p.pieces ++
      (match p.closing with
        | some c => le 1 c.reason.code ++ c.time.wire
        | none => []) ++
      le 4 p.lengthSum ++ le 6 p.volume ++ le 4 p.meanSum ++ le 2 p.highestMax ++ p.firstBoard.wire ++ p.lastBoard.wire ++
      wireList LineageEntry.wire p.lineage ++ flagByte p.mixed ++ le 2 p.unlisted ++
      (match p.closing with
        | some c => c.flags.wire ++ le 1 c.label.code
        | none => [])
  | .labelDone bay pack reprint reprints transmissions =>
    le 1 bay.val ++ le 4 pack ++ flagByte reprint ++ le 1 reprints ++ le 2 transmissions
  | .fault domain record placement counter overflow actions =>
    le 1 domain.index.val ++ record.wire ++ le 1 placement.code ++ le 1 counter ++ flagByte overflow ++ actions.wire
  | .supervision event mode unit count => le 1 event.code ++ le 1 mode.code ++ le 1 unit ++ le 1 count

/-- A report as a frame: tag 0, a flags byte with GAP in bit 0, then the fields (R175, R177). -/
def Report.frame (gap : Bool) (r : Report) : Frame :=
  ⟨BitVec.ofNat 8 (0xC0 + r.kind.index), 0, flagByte gap ++ r.fields⟩

/-- The frame the transmitter is sending. -/
def Sending.frame : Sending → Frame
  | .reply f => f
  | .report r gap => r.frame gap

/-- The bytes on the host transmit line of the frame being sent (R175, R182). -/
def State.hostLine (s : State) : List Byte :=
  match s.port.sending with
  | some m => m.frame.bytes
  | none => []

/-- The number by which a mode is sent to a module in the write part of a CLIMATE-EXCHANGE (R89). No rule numbers the bytes of the
field bus, R177 being of the host link: DESIGN CHOICE, 0 to 3 in the order in which R89 names the modes (log entry 27). -/
def ModuleMode.code : ModuleMode → Nat
  | .off => 0
  | .run => 1
  | .hold => 2
  | .park => 3

/-! ## Printer lines (R150, R151, R196) -/

/-- ASCII bytes of a text. -/
def ascii (t : String) : List Byte := t.toList.map fun c => BitVec.ofNat 8 c.toNat

/-- A number in decimal. -/
def decimal (n : Nat) : List Byte := (Nat.toDigits 10 n).map fun c => BitVec.ofNat 8 c.toNat

/-- A number in decimal with at least `w` digits, leading zeros kept. -/
def decimalWide (w n : Nat) : List Byte :=
  List.replicate (w - (decimal n).length) (BitVec.ofNat 8 '0'.toNat) ++ decimal n

/-- A figure in tenths with one decimal. -/
def tenths (n : Nat) : List Byte := decimal (n / 10) ++ ascii "." ++ decimal (n % 10)

/-- Cubic decimetres as cubic metres with three decimals (R34). -/
def thousandths (n : Nat) : List Byte := decimal (n / 1000) ++ ascii "." ++ decimalWide 3 (n % 1000)

/-- A time: the reading in decimal, or CLOCK_NOT_SET (R150). -/
def Time.printed (t : Time) : List Byte := if t.notSet then ascii "CLOCK_NOT_SET" else decimal t.reading

/-- Values separated by single commas (R196). -/
def commas : List (List Byte) → List Byte
  | [] => []
  | [v] => v
  | v :: rest => v ++ ascii "," ++ commas rest

/-- One line: name, colon, value, 0x0D, 0x0A (R196). -/
def printerLine (name : String) (value : List Byte) : List Byte := ascii name ++ ascii ":" ++ value ++ [0x0D#8, 0x0A#8]

def ExceptionFlags.printed (f : ExceptionFlags) : List Byte :=
  let names :=
    (if f.incomplete then [ascii "INCOMPLETE"] else []) ++ (if f.redryHigh then [ascii "REDRY_HIGH"] else []) ++
      (if f.redryStock then [ascii "REDRY_STOCK"] else [])
  if names.isEmpty then ascii "NONE" else commas names

def CloseReason.printed : CloseReason → List Byte
  | .count => ascii "COUNT"
  | .request => ascii "REQUEST"

/-- The value of a CHARGE line, the five figures that R150, R151 and R196 list. R24 says of a charge's final MC that it is
printed in the lineage of the packs, and these rules give it no place there: DESIGN CHOICE, none is printed (log entry 25). -/
def ChargeLine.printed (c : ChargeLine) : List Byte :=
  commas [decimal c.charge, decimal c.species.val, (c.kiln.map fun k => decimal k.val).getD [],
    (c.dried.map Time.printed).getD [], decimal c.pieces]

/-- The lines of a label record in the order they are printed, from PACK to END (R150, R196). For an absent species R150's
table gives the value SPECIES n NOT STORED and R151 the number followed by NOT STORED: DESIGN CHOICE, the table's (log
entry 26). -/
def LabelRecord.lines (r : LabelRecord) : List (List Byte) :=
  [printerLine "PACK" (decimalWide 6 r.pack), printerLine "CLASS" (decimal r.cls.val),
    printerLine "SPECIES"
      (match r.speciesName with
        | some n => n
        | none => ascii "SPECIES " ++ decimal r.speciesNumber.val ++ ascii " NOT STORED"),
    printerLine "THICKNESS" ((r.thicknessClass.map decimal).getD (ascii "-")),
    printerLine "PIECES" (decimal r.pieces), printerLine "LENGTH" (tenths r.lengthTenths),
    printerLine "VOLUME" (thousandths r.volumeDm3), printerLine "MC MEAN" (tenths r.mcMean),
    printerLine "MC MAX" (tenths r.mcMax)] ++
  r.charges.map (fun c => printerLine "CHARGE" c.printed) ++
  (match r.mixed with
    | some n => [printerLine "MIXED" (decimal n)]
    | none => []) ++
  [printerLine "EXCEPTIONS" r.flags.printed,
    printerLine "CLOSE" (commas [r.closeReason.printed, r.closeTime.printed]), printerLine "TIME" r.time.printed] ++
  (match r.reprint with
    | some n => [printerLine "REPRINT" (decimal n)]
    | none => []) ++
  [ascii "END" ++ [0x0D#8, 0x0A#8]]

/-- The lines of the transmission on the printer link (R152): those of the head record while the link is SENDING. -/
def State.printerLines (s : State) : List (List Byte) :=
  match s.labels.link, s.labels.head with
  | .sending, some r => r.lines
  | _, _ => []

end Sys2Proof.Machine
end

