-- ==== Sys2Proof/Machine/Status.lean ====
section
/-! DEFINITION. The status codes of replies (R176), the shape of a reply that is only a status, and what the settings store
lends (R7, R10). -/

namespace Sys2Proof.Machine

/-- The status codes, in the order and with the values of R176. -/
inductive Status where
  | ok | unknown | badArg | state | busy | full | level | locked | inUse | notFound | assigned
deriving DecidableEq, Repr

/-- The byte of a status (R176). -/
def Status.byte : Status → Byte
  | .ok => 0x00
  | .unknown => 0x01
  | .badArg => 0x02
  | .state => 0x03
  | .busy => 0x04
  | .full => 0x05
  | .level => 0x06
  | .locked => 0x07
  | .inUse => 0x08
  | .notFound => 0x09
  | .assigned => 0x0A

/-- A request refused: nothing changes, and the reply carries the status byte alone (R177). -/
def refuse (st : Status) (s : State) : State × List Byte := (s, [st.byte])

/-- A request accepted with a reply of the status alone. -/
def done (s : State) : State × List Byte := (s, [Status.ok.byte])

/-- A request accepted with fields after the status. -/
def doneWith (fields : List Byte) (s : State) : State × List Byte := (s, Status.ok.byte :: fields)

/-- A query: the fields of the state as it stands, and nothing changes. -/
def replyOnly (fields : State → List Byte) (s : State) : State × List Byte := doneWith (fields s) s

/-- The entry in force of a species place, `none` where the species is absent (R10). -/
def SpeciesPlace.inForce : SpeciesPlace → Option SpeciesEntry
  | .present e => some e
  | .writing former => former
  | .absent | .invalid => none

/-- The entry in force of a species (R10). -/
def State.entryInForce (s : State) (n : Fin 8) : Option SpeciesEntry := s.store.species[n].inForce

/-- Whether a species entry is WRITING. -/
def SpeciesPlace.isWriting : SpeciesPlace → Bool
  | .writing _ => true
  | _ => false

/-- Why a slot does not lend: BUSY while WRITING, NOT_FOUND while EMPTY or INVALID (R7). -/
def Slot.lend : Slot → Except Status Schedule
  | .valid r => .ok r
  | .writing => .error .busy
  | .empty | .invalid => .error .notFound

end Sys2Proof.Machine
end

