-- ==== Sys2Proof/Machine/ChargeOps.lean ====
section
/-! DEFINITION. What other blocks make of charge records: changes of state with their report, the counts of boards, the
freeing test (chapter 3), and the two number draws of the settings store (R11, R12). -/

namespace Sys2Proof.Machine

/-- The number after a charge number (R11). -/
def nextCharge (n : Nat) : Nat := if n = 65535 then 1 else n + 1

/-- The number after a pack number (R12). -/
def nextPack (n : Nat) : Nat := if n = 999999 then 1 else n + 1

/-- The first number from `n` on that no record holds; twelve numbers at most are passed over (R11). -/
def drawFrom (held : Nat → Bool) : Nat → Nat → Nat
  | 0, n => n
  | fuel + 1, n => if held n then drawFrom held fuel (nextCharge n) else n

/-- The charge number the next accepted creation takes (R11). -/
def State.drawnCharge (s : State) : Nat := drawFrom (fun n => (s.charge? n).isSome) 12 s.store.nextCharge

/-- CHARGE-STATE of a record as it stands (R50). -/
def ChargeRecord.report (c : ChargeRecord) : Report :=
  .chargeState c.number (some c.state) c.kiln c.incomplete c.redryHigh c.counts c.inFlight c.packRefs

/-- CHARGE-STATE with the freed mark (R43, R50). -/
def ChargeRecord.freedReport (c : ChargeRecord) : Report :=
  .chargeState c.number none c.kiln c.incomplete c.redryHigh c.counts c.inFlight c.packRefs

/-- A change of state of a record, with its CHARGE-STATE report (R50). -/
def changeCharge (number : Nat) (f : ChargeRecord → ChargeRecord) (s : State) : State :=
  let s := s.modCharge number f
  match s.charge? number with
  | some c => queueReport c.report s
  | none => s

/-- Remove a record from its position (R43). -/
def State.dropCharge (number : Nat) (s : State) : State :=
  { s with charges := { s.charges with
      records := vmap (fun o => o.bind fun c => if c.number = number then none else some c) s.charges.records } }

/-- CLOSED with both counts 0 (R43). -/
def ChargeRecord.freeable (c : ChargeRecord) : Bool :=
  decide (c.state = .closed) && decide (c.inFlight = 0) && decide (c.packRefs = 0)

/-- The freeing test of one charge number (R43). -/
def freeTest (number : Nat) (s : State) : State :=
  match s.charge? number with
  | some c => if c.freeable then queueReport c.freedReport (s.dropCharge number) else s
  | none => s

/-- The freeing tests of several charge numbers, in order (R43). -/
def freeTests (numbers : List Nat) (s : State) : State := numbers.foldl (fun s n => freeTest n s) s

/-! ## Kiln side (R38 to R40) -/

/-- The charge of a kiln, if it holds one, goes through a change of state. -/
def changeHeld (k : Fin 6) (f : ChargeRecord → ChargeRecord) (s : State) : State :=
  match s.kilns[k].charge with
  | some n => changeCharge n f s
  | none => s

/-! ## Counting boards (R44 to R48) -/

/-- A planer count or the statistics count raised by one; past its range it is a free value (log entry 9). -/
def raiseCount (number n : Nat) : Nat :=
  if n < 4294967295 then n + 1 else (Config.planerCountPastTop number).toNat

/-- An entry with the board placed in the queue (R44). -/
def ChargeRecord.entered (c : ChargeRecord) : ChargeRecord :=
  { c with counts := { c.counts with entered := raiseCount c.number c.counts.entered }, inFlight := c.inFlight + 1 }

/-- An entry into a full queue (R44). -/
def ChargeRecord.overran (c : ChargeRecord) : ChargeRecord :=
  { c with counts := { c.counts with
      entered := raiseCount c.number c.counts.entered
      untracked := raiseCount c.number c.counts.untracked } }

/-- The one count a decision raises (R45); a board with reason NO_CHARGE holds no charge number and reaches no record. -/
def PlanerCounts.decided (number : Nat) (d : Decision) (n : PlanerCounts) : PlanerCounts :=
  match d with
  | .pending => n
  | .accept _ => { n with accepted := raiseCount number n.accepted }
  | .redry => { n with redry := raiseCount number n.redry }
  | .reject _ => { n with rejected := raiseCount number n.rejected }
  | .unmeasured => { n with unmeasured := raiseCount number n.unmeasured }

/-- ACCEPT, REDRY or REJECT: the decisions that add to the statistics and are followed by the redry rate test (R45). -/
def Decision.measured : Decision → Bool
  | .accept _ | .redry | .reject _ => true
  | .pending | .unmeasured => false

/-- The sum of board means raised by a mean; past 48 bits it is a free value (log entry 9). -/
def raiseSum (number sum mean : Nat) : Nat :=
  if sum + mean < 2 ^ 48 then sum + mean else (Config.meanSumPastTop number).toNat

/-- A mean enters the statistics (R45). -/
def ChargeRecord.withMean (mean : Nat) (c : ChargeRecord) : ChargeRecord :=
  { c with
    meanSum := raiseSum c.number c.meanSum mean
    meanCount := raiseCount c.number c.meanCount
    meanRange :=
      match c.meanRange with
      | some r => if c.meanCount = 0 then some ⟨mean, mean⟩ else some ⟨min r.lowest mean, max r.highest mean⟩
      | none => some ⟨mean, mean⟩ }

/-- The record counted for a decision, with the mean of the board where it holds one (R45). -/
def ChargeRecord.decided (d : Decision) (mean : Option Nat) (c : ChargeRecord) : ChargeRecord :=
  let c := { c with counts := c.counts.decided c.number d }
  match mean with
  | some m => if d.measured then c.withMean m else c
  | none => c

/-- The redry tally of a species rises by one and stops at 65535 (R45). -/
def raiseTally (sp : Fin 8) (s : State) : State :=
  { s with charges := { s.charges with tally := vmod s.charges.tally sp fun n => if n < 65535 then n + 1 else n } }

/-- One count of boards in flight less. -/
def ChargeRecord.landed (c : ChargeRecord) : ChargeRecord := { c with inFlight := c.inFlight - 1 }

/-- A board removed by the emptying of the queue: in-flight falls, and untracked rises for a PENDING board (R48, R52). -/
def ChargeRecord.untrack (wasPending : Bool) (c : ChargeRecord) : ChargeRecord :=
  let c := c.landed
  if wasPending then { c with counts := { c.counts with untracked := raiseCount c.number c.counts.untracked } } else c

/-- An append: in-flight falls, and the pack reference count rises for a first lineage entry (R47). -/
def ChargeRecord.appended (firstEntry : Bool) (c : ChargeRecord) : ChargeRecord :=
  let c := c.landed
  if firstEntry then { c with packRefs := c.packRefs + 1 } else c

/-- A pack that lists the charge leaves (R47). -/
def ChargeRecord.unlisted (c : ChargeRecord) : ChargeRecord := { c with packRefs := c.packRefs - 1 }

/-- Count a record named by an optional charge number. -/
def countCharge (charge : Option Nat) (f : ChargeRecord → ChargeRecord) (s : State) : State :=
  match charge with
  | some n => s.modCharge n f
  | none => s

end Sys2Proof.Machine
end

