-- ==== Sys2Proof/Machine/KilnOps.lean ====
section
/-! DEFINITION. The kiln unit's own events (chapter 4): what a minute tick, a step advance, a formation of the figures, a
delivered reading, a scan completion and a climate result make of a kiln. -/

namespace Sys2Proof.Machine

/-- Change the drying run of a kiln that holds one. -/
def State.modDrying (k : Fin 6) (f : DryingRun → DryingRun) (s : State) : State :=
  s.modKiln k fun c => { c with drying := c.drying.map f }

/-- The current step of the schedule copy. -/
def DryingRun.step? (d : DryingRun) : Option ScheduleStep := d.schedule.steps[d.stepIndex]?

/-! ## Figures (R23, R59) -/

/-- What SAMPLE-UPDATE carries of one position (R59). An EMPTY position holds no saturated flag and no implausible count, and
R59 does not mark them optional: DESIGN CHOICE, clear and 0 are carried for it (log entry 7). -/
def viewSample (o : Option Sample) : SampleView :=
  match o with
  | some p => ⟨some p.standing, p.mc, p.saturated, p.implausible⟩
  | none => ⟨none, none, false, 0⟩

/-- SAMPLE-UPDATE (R59). -/
def reportSamples (k : Fin 6) (s : State) : State :=
  let c := s.kilns[k]
  queueReport (.sampleUpdate k c.charge (vmap viewSample c.samples) c.figures) s

/-- The states in which an absent controlling MC is a loss (R59). -/
def KilnState.loses : KilnState → Bool
  | .run | .equalise => true
  | _ => false

/-- The samples-lost test (R59). -/
def testSamplesLost (k : Fin 6) (s : State) : State :=
  let c := s.kilns[k]
  if c.figures.controlling.isSome then s.modKiln k fun c => { c with samplesLost := false }
  else if c.state.loses && !c.samplesLost then
    raiseKiln .samplesLost k (s.modKiln k fun c => { c with samplesLost := true })
  else s

/-- The three figures formed anew, then the samples-lost test and the report (R23, R59). -/
def formFigures (k : Fin 6) (s : State) : State :=
  reportSamples k (testSamplesLost k
    (s.modKiln k fun c => { c with figures := kilnFigures (activeMCs c.samples) }))

/-! ## Steps and phases (R65 to R69) -/

/-- KILN-STEP (R65). -/
def reportStep (k : Fin 6) (step : Option Nat) (cause : StepCause) (s : State) : State :=
  let c := s.kilns[k]
  queueReport (.kilnStep k c.charge step cause c.figures.controlling ((c.drying.map (·.totalElapsed)).getD 0)) s

/-- The drying run moved to a following step (R65). -/
def DryingRun.advanced (st : ScheduleStep) (d : DryingRun) : DryingRun :=
  { d with
    stepIndex := d.stepIndex + 1
    stepElapsed := 0
    overtimeReported := false
    stepTarget := st.target
    depression := st.depression }

/-- The drying run on entering EQUALISE (R67). -/
def DryingRun.equalised (d : DryingRun) : DryingRun :=
  { d with stepElapsed := 0, depression := d.schedule.equaliseDepression }

/-- A step advance (R65, R67). -/
def advanceStep (k : Fin 6) (cause : StepCause) (s : State) : State :=
  match s.kilns[k].drying with
  | none => s
  | some d =>
    match d.schedule.steps[d.stepIndex + 1]? with
    | some st => reportStep k (some (d.stepIndex + 1)) cause (s.modDrying k (DryingRun.advanced st))
    | none =>
      reportKiln k .schedule (reportStep k none cause
        (s.modKiln k fun c => { c with state := .equalise, drying := c.drying.map DryingRun.equalised }))

/-- Entry to DONE (R69, R39): the final MC is formed, the charge becomes DRIED, the module mode becomes OFF. -/
def enterDone (k : Fin 6) (s : State) : State :=
  let final := finalMC (activeMCs s.kilns[k].samples)
  let time := s.now
  let s := s.modKiln k fun c => { c with state := .done, conditionRemaining := none }
  let s := changeHeld k (fun c => { c with state := .dried, dried := some time, finalMC := final }) s
  let s := reportKiln k .schedule s
  pollDue k .climate (s.modLink k fun l => { l with scanTimer := none })

/-- Entry to CONDITION (R68). -/
def enterCondition (k : Fin 6) (s : State) : State :=
  match s.kilns[k].drying with
  | none => s
  | some d =>
    let s := s.modKiln k fun c =>
      { c with
        state := .condition
        conditionRemaining := some d.schedule.conditionDuration
        drying := c.drying.map fun d => { d with depression := d.schedule.conditionDepression, stepElapsed := 0 } }
    let s := reportKiln k .schedule s
    if d.schedule.conditionDuration = 0 then enterDone k s else s

/-! ## The minute tick (R62, R63, R77, R78) -/

/-- The setpoint after one minute of ramp (R62 step 1). -/
def ramp (rate : Nat) (target setpoint : Int) : Int :=
  if setpoint < target then min target (setpoint + rate)
  else if target < setpoint then max target (setpoint - rate)
  else setpoint

/-- Total elapsed raised by one; past its range it is a free value (log entry 9). -/
def raiseTotal (k : Fin 6) (n : Nat) : Nat :=
  if n < 4294967295 then n + 1 else (Config.totalElapsedPastTop k.val).toNat

/-- Ramp and counting (R62 steps 1 and 2). -/
def DryingRun.minute (k : Fin 6) (d : DryingRun) : DryingRun :=
  { d with
    setpoint := ramp d.schedule.rampRate d.stepTarget d.setpoint
    stepElapsed := min 65535 (d.stepElapsed + 1)
    totalElapsed := raiseTotal k d.totalElapsed }

/-- One more minute of measured age, stopping at 65535 (R77). -/
def Kiln.aged (c : Kiln) : Kiln := { c with measured := c.measured.map fun m => { m with age := min 65535 (m.age + 1) } }

/-- The overtime test (R63). -/
def testOvertime (k : Fin 6) (s : State) : State :=
  match s.kilns[k].drying with
  | none => s
  | some d =>
    match d.step?.bind (·.maxDuration) with
    | none => s
    | some m =>
      if d.overtimeReported = false ∧ m ≤ d.stepElapsed then
        raiseKiln .stepOvertime k (s.modDrying k fun d => { d with overtimeReported := true })
      else s

/-- The time leave (R63). -/
def testTimeLeave (k : Fin 6) (s : State) : State :=
  match s.kilns[k].drying with
  | none => s
  | some d =>
    match d.step? with
    | none => s
    | some st =>
      match st.leave with
      | .time minutes => if minutes ≤ d.stepElapsed then advanceStep k .time s else s
      | .mc _ => s

/-- The distance of two temperatures. -/
def apart (a b : Int) : Nat := (a - b).natAbs

/-- The deviation count (R78). -/
def countDeviation (k : Fin 6) (s : State) : State :=
  let c := s.kilns[k]
  match c.measured, c.drying with
  | some m, some d =>
    if m.stale then s
    else if c.config.deviationBand < apart m.dryBulb d.setpoint then
      if c.config.deviationLimit ≤ c.deviation + 1 then
        raiseKiln .climateDeviation k (s.modKiln k fun c => { c with deviation := 0 })
      else s.modKiln k fun c => { c with deviation := c.deviation + 1 }
    else s.modKiln k fun c => { c with deviation := 0 }
  | _, _ => s

/-- The countdown of CONDITION (R62 step 5, R68). -/
def countCondition (k : Fin 6) (s : State) : State :=
  match s.kilns[k].conditionRemaining with
  | none => s
  | some n =>
    let s := s.modKiln k fun c => { c with conditionRemaining := some (n - 1) }
    if n ≤ 1 then enterDone k s else s

/-- A part of the tick that a kiln makes while its state is among some. -/
def inStates (k : Fin 6) (test : KilnState → Bool) (f : State → State) (s : State) : State :=
  if test s.kilns[k].state then f s else s

/-- The minute tick of one kiln (R62). A fault of an earlier part that holds the kiln leaves the later parts unmade, since
each is made in a running phase only (log entry 10). -/
def minuteTick (k : Fin 6) (s : State) : State :=
  let s := s.modKiln k Kiln.aged
  let s := inStates k KilnState.running (State.modDrying k (DryingRun.minute k)) s
  let s := inStates k (fun st => decide (st = .run)) (testOvertime k) s
  let s := inStates k (fun st => decide (st = .run)) (testTimeLeave k) s
  let s := inStates k KilnState.running (countDeviation k) s
  inStates k (fun st => decide (st = .condition)) (countCondition k) s

/-! ## Results of the field bus -/

/-- A reading delivered to the sample record of its position (R18 to R21); an EMPTY record takes none (R94). -/
def deliverReading (k : Fin 6) (p : Fin 8) (w : Nat) (s : State) : State :=
  match s.kilns[k].samples[p] with
  | none => s
  | some old =>
    let r := old.read w
    let s := s.modKiln k fun c => { c with samples := c.samples.set p (some r.1) }
    let s := if r.2.1 then raiseKiln .sampleImplausible k s else s
    if r.2.2 then raiseKiln .sampleFailed k s else s

/-- The step test of a scan completion (R64). -/
def testMCLeave (k : Fin 6) (s : State) : State :=
  let c := s.kilns[k]
  match c.drying.bind DryingRun.step?, c.figures.controlling with
  | some st, some mc =>
    match st.leave with
    | .mc threshold => if mc ≤ threshold then advanceStep k .mc s else s
    | .time _ => s
  | _, _ => s

/-- The test of the end of equalise (R67). -/
def testEqualiseEnd (k : Fin 6) (s : State) : State :=
  let c := s.kilns[k]
  match c.drying, c.figures.controlling, c.figures.wettest with
  | some d, some _, some w =>
    if w ≤ d.schedule.finalTarget + d.schedule.equaliseTolerance then enterCondition k s else s
  | _, _, _ => s

/-- The completion of a sample scan (R23, R59, R64, R67). -/
def completeScan (k : Fin 6) (s : State) : State :=
  let s := formFigures k s
  match s.kilns[k].state with
  | .run => testMCLeave k s
  | .equalise => testEqualiseEnd k s
  | _ => s

/-- Overtemperature on a measured dry-bulb (R79). -/
def Kiln.overheated (dryBulb : Int) (c : Kiln) : Bool :=
  match c.state with
  | .idle => false
  | .loaded => decide (1250 < dryBulb)
  | .run | .equalise | .condition | .hold | .park | .done =>
    decide (1250 < dryBulb) || (match c.drying with | some d => decide (d.setpoint + 150 < dryBulb) | none => false)

/-- What a climate result stores (R76 steps 1 and 2). -/
def Kiln.measure (dryBulb wetBulb : Int) (status : Byte) (c : Kiln) : Kiln :=
  { c with
    measured := some ⟨dryBulb, wetBulb, status, 0, false⟩
    deviation :=
      match c.drying with
      | some d => if c.state.running ∧ apart dryBulb d.setpoint ≤ c.config.deviationBand then 0 else c.deviation
      | none => c.deviation }

/-- A climate result delivered to a kiln (R76, R79). -/
def deliverClimate (k : Fin 6) (dryBulb wetBulb : Int) (status : Byte) (s : State) : State :=
  let s := s.modKiln k (Kiln.measure dryBulb wetBulb status)
  if s.kilns[k].overheated dryBulb then raiseKiln .overtemp k s else s

/-- The module command a kiln hands over at the beginning of a climate poll (R75). -/
def Kiln.command (c : Kiln) : ModuleCommand where
  mode := c.state.mode
  setpoint := (c.drying.map (·.setpoint)).getD 0
  depression := (c.drying.map (·.depression)).getD 0

end Sys2Proof.Machine
end

