-- ==== Sys2Proof/Machine/BusOps.lean ====
section
/-! DEFINITION. The field bus controller (chapter 5): the service of the pending-poll list, the end of a poll and the timers. -/

namespace Sys2Proof.Machine

/-- The position list of a scan: every position that is not EMPTY, in ascending order (R88). -/
def positionsOf (samples : Vector (Option Sample) 8) : List (Fin 8) :=
  ([0, 1, 2, 3, 4, 5, 6, 7] : List (Fin 8)).filter fun p => (samples[p]).isSome

/-- The two tests of a scan against the kiln: a scanning state and an equal occupancy mark (R88, R94). -/
def State.scanStands (e : PollEntry) (s : State) : Bool :=
  s.kilns[e.kiln].state.scanning && decide (s.bus.links[e.kiln].mark = e.mark)

/-- Counts of a link rise by one, 4 294 967 295 followed by 0 (R84). -/
def wrapUp (n : Nat) : Nat := (n + 1) % 4294967296

/-- The link items after a good poll (R93). -/
def KilnLink.good (l : KilnLink) : KilnLink := { l with goodPolls := wrapUp l.goodPolls, failures := 0, link := .up }

/-- A good poll settles the link (R93); one begun with an address that is no longer the kiln's settles nothing (R95). -/
def settleGood (p : CurrentPoll) (s : State) : State :=
  if s.kilns[p.entry.kiln].config.address ≠ p.address then s
  else
    let was := s.bus.links[p.entry.kiln].link
    let s := s.modLink p.entry.kiln KilnLink.good
    if was = .lost then queueReport (.moduleRestored p.entry.kiln p.address p.entry.kind) s else s

/-- A kiln's measured values become stale (R77). -/
def Kiln.staled (c : Kiln) : Kiln := { c with measured := c.measured.map fun m => { m with stale := true } }

/-- A failed poll settles the link (R93, R95). -/
def settleFailed (p : CurrentPoll) (s : State) : State :=
  if s.kilns[p.entry.kiln].config.address ≠ p.address then s
  else if 3 ≤ s.bus.links[p.entry.kiln].failures + 1 then
    raiseKiln .moduleLost p.entry.kiln
      ((s.modLink p.entry.kiln fun l => { l with link := .lost, failures := 0 }).modKiln p.entry.kiln Kiln.staled)
  else s.modLink p.entry.kiln fun l => { l with failures := l.failures + 1 }

/-- The current poll set or made absent. -/
def State.setPoll (p : Option CurrentPoll) (s : State) : State := { s with bus := { s.bus with current := p } }

/-- The beginning of one entry that has left the head of the list (R88). -/
def beginPoll (e : PollEntry) (s : State) : State :=
  let c := s.kilns[e.kiln]
  match e.kind with
  | .climate => s.setPoll (some ⟨e, 1, c.config.address, .climate c.command⟩)
  | .scan =>
    if s.scanStands e then
      match positionsOf c.samples with
      | [] => settleGood ⟨e, 1, c.config.address, .scan [] 0⟩ (completeScan e.kiln s)
      | p :: rest => s.setPoll (some ⟨e, 1, c.config.address, .scan (p :: rest) 0⟩)
    else s

/-- Service of the list, head first, until a poll is in service or the list is empty (R88). The list holds at most twelve
entries (R84), and a scan that ends at its beginning can add one climate poll, so the bound is never met. -/
def serveUpTo : Nat → State → State
  | 0, s => s
  | n + 1, s =>
    match s.bus.current, s.bus.pendingPolls with
    | none, e :: rest => serveUpTo n (beginPoll e { s with bus := { s.bus with pendingPolls := rest } })
    | _, _ => s

/-- Service of the list at the end of an event (R88). -/
def serve (s : State) : State := serveUpTo 32 s

/-- A poll ends: the link is settled and the current poll becomes absent (R88, R93). -/
def endPoll (good : Bool) (p : CurrentPoll) (s : State) : State :=
  (if good then settleGood p s else settleFailed p s).setPoll none

/-- A climate result reaches the kiln when the occupancy mark and the address still stand (R94, R95). The poll holds the
address it was begun with and nothing of a change, so the two addresses are compared when it ends (R84, R93): DESIGN CHOICE,
one changed and changed back meanwhile is delivered and settled (log entry 20). -/
def climateDone (dryBulb wetBulb : Int) (status : Byte) (s : State) : State :=
  match s.bus.current with
  | some p =>
    match p.work with
    | .climate _ =>
      let stands := decide (s.bus.links[p.entry.kiln].mark = p.entry.mark) &&
        decide (s.kilns[p.entry.kiln].config.address = p.address)
      serve (endPoll true p (if stands then deliverClimate p.entry.kiln dryBulb wetBulb status s else s))
    | .scan _ _ => s
  | none => s

/-- A weigh reading reaches its sample record, or ends the scan as discarded; then the next position or the completion
follows (R90, R92, R94). -/
def weighDone (weight : Nat) (s : State) : State :=
  match s.bus.current with
  | some p =>
    match p.work with
    | .climate _ => s
    | .scan positions index =>
      match positions[index]? with
      | none => s
      | some q =>
        if s.scanStands p.entry then
          let s := deliverReading p.entry.kiln q (if 60000 < weight then 0 else weight) s
          if index + 1 < positions.length then
            serve (s.setPoll (some { p with attempt := 1, work := .scan positions (index + 1) }))
          else serve (endPoll true p (completeScan p.entry.kiln s))
        else serve (endPoll true p s)
  | none => s

/-- The fault kind of a failed attempt (R91). -/
def busFault : BusFailure → FaultKind
  | .nack => .busNack
  | .unexpectedStop => .busStop

/-- A transfer attempt fails (R91). It adds to the failed attempts of the kiln of the poll, also where that kiln's address has
changed since the poll began: DESIGN CHOICE (log entry 20). -/
def attemptFailed (failure : BusFailure) (s : State) : State :=
  match s.bus.current with
  | some p =>
    let s := raise (busFault failure) .links (.links (some p.address) none) s
    let s := s.modLink p.entry.kiln fun l => { l with failedAttempts := wrapUp l.failedAttempts }
    if p.attempt < 3 then s.setPoll (some { p with attempt := p.attempt + 1 })
    else serve (endPoll false p s)
  | none => s

/-! ## Timers (R85, R86) -/

/-- One second of a kiln's climate timer (R85). -/
def climateSecond (k : Fin 6) (s : State) : State :=
  if s.kilns[k].config.pollPeriod ≤ s.bus.links[k].climateTimer + 1 then
    pollDue k .climate (s.modLink k fun l => { l with climateTimer := 0 })
  else s.modLink k fun l => { l with climateTimer := l.climateTimer + 1 }

/-- One minute of a kiln's scan timer (R86). -/
def scanMinute (k : Fin 6) (s : State) : State :=
  match s.bus.links[k].scanTimer with
  | none => s
  | some n =>
    if s.kilns[k].config.sampleInterval ≤ n + 1 then
      pollDue k .scan (s.modLink k fun l => { l with scanTimer := some 0 })
    else s.modLink k fun l => { l with scanTimer := some (n + 1) }

/-- The climate timer reaches its period now (R85). -/
def climateDue (k : Fin 6) (s : State) : State :=
  pollDue k .climate (s.modLink k fun l => { l with climateTimer := 0 })

/-- The scan timer, where the kiln holds one, reaches its interval now (R86). -/
def scanDue (k : Fin 6) (s : State) : State :=
  match s.bus.links[k].scanTimer with
  | none => s
  | some _ => pollDue k .scan (s.modLink k fun l => { l with scanTimer := some 0 })

/-- The kilns of the machine in order, each through a change. -/
def eachKiln (f : Fin 6 → State → State) (s : State) : State := allKilns.foldl (fun s k => f k s) s

/-- The minute tick of a kiln and of its scan timer (R62, R86). -/
def kilnMinute (k : Fin 6) (s : State) : State := scanMinute k (minuteTick k s)

/-- The occupancy mark rises by one, 255 followed by 0 (R84). -/
def bumpMark (k : Fin 6) (s : State) : State := s.modLink k fun l => { l with mark := (l.mark + 1) % 256 }

end Sys2Proof.Machine
end

