-- ==== Sys2Proof/Machine/Bus.lean ====
section
/-! DEFINITION. The commands of the field bus controller (chapter 5). -/

namespace Sys2Proof.Machine

/-- What BUS-QUERY carries of one kiln (R96). -/
def busKiln (s : State) (k : Fin 6) : List Byte :=
  let l := s.bus.links[k]
  le 1 s.kilns[k].config.address ++ le 1 l.link.code ++ le 1 l.failures ++ le 4 l.goodPolls ++ le 4 l.failedAttempts ++
    flagByte l.scanTimer.isSome

/-- The fields of BUS-QUERY (R96). An absent current poll is its presence byte and the width of its fields in zeros. -/
def busFields (s : State) : List Byte :=
  wireList (fun e : PollEntry => le 1 e.kiln.val ++ le 1 e.kind.code) s.bus.pendingPolls ++
    opt 8 CurrentPoll.wire s.bus.current ++ (allKilns.map (busKiln s)).flatten

def execClimatePollDue (kiln : Fin 6) (s : State) : Host.Outcome State Fault Refusal :=
  .next (event (fun s => serve (climateDue kiln s)) s)

def execScanDue (kiln : Fin 6) (s : State) : Host.Outcome State Fault Refusal :=
  .next (event (fun s => serve (scanDue kiln s)) s)

/-- The result fields are signed tenths of a degree (R89). -/
def execClimateExchangeDone (dryBulb wetBulb : BitVec 16) (status : Byte) (s : State) :
    Host.Outcome State Fault Refusal :=
  .next (event (climateDone dryBulb.toInt wetBulb.toInt status) s)

def execWeighDone (weight : BitVec 16) (s : State) : Host.Outcome State Fault Refusal :=
  .next (event (weighDone weight.toNat) s)

def execTransferAttemptFailed (failure : BusFailure) (s : State) : Host.Outcome State Fault Refusal :=
  .next (event (attemptFailed failure) s)

def execBusQuery (tag : Byte) (payload : List Byte) (s : State) : Host.Outcome State Fault Refusal :=
  .next (request 0x1A tag payload (replyOnly busFields) s)

end Sys2Proof.Machine
end

