-- ==== Sys2Proof/Machine/LabelOps.lean ====
section
/-! DEFINITION. The label unit (chapter 9): admission, composition, transmission, and what each answer makes of the head. -/

namespace Sys2Proof.Machine

/-- The label state of the pack in a bay. -/
def setLabel (b : Fin 8) (l : LabelState) (s : State) : State :=
  s.modBay b fun p => { p with closing := p.closing.map fun c => { c with label := l } }

/-- The CHARGE line of one lineage entry (R151). -/
def chargeLine (s : State) (e : LineageEntry) : Option ChargeLine :=
  (s.charge? e.charge).map fun c => ⟨e.charge, c.species, c.dryingKiln, c.dried, e.pieces⟩

/-- The thickness class a VALID slot gives (R151). -/
def Slot.thicknessClass : Slot → Option Nat
  | .valid r => some r.thicknessClass
  | .empty | .writing | .invalid => none

/-- Composition of the record of an entry from the pack in its bay and the charge records of its lineage (R150, R151). -/
def composeLabel (e : LabelEntry) (s : State) : Option LabelRecord :=
  match s.packs.bays[e.bay] with
  | none => none
  | some p =>
    match p.closing, p.lineage.head?.bind fun l => s.charge? l.charge with
    | some c, some first =>
      some
        { pack := p.number
          cls := p.cls
          speciesNumber := first.species
          speciesName := (s.entryInForce first.species).map (·.name)
          thicknessClass := s.store.slots[first.slot].thicknessClass
          pieces := p.pieces
          lengthTenths := roundHalfUp p.lengthSum 100
          volumeDm3 := volumeDm3 p.volume
          mcMean := roundHalfUp p.meanSum p.pieces
          mcMax := p.highestMax
          charges := p.lineage.filterMap (chargeLine s)
          mixed := if p.mixed then some p.unlisted else none
          flags := c.flags
          closeReason := c.reason
          closeTime := c.time
          time := s.now
          reprint := if e.reprint then some c.reprints else none }
    | _, _ => none

/-- Change the head entry. -/
def LabelUnit.modHead (f : LabelEntry → LabelEntry) (u : LabelUnit) : LabelUnit :=
  { u with queue := match u.queue with | [] => [] | e :: rest => f e :: rest }

/-- A transmission of the head record begins (R152). -/
def LabelUnit.transmit (u : LabelUnit) : LabelUnit :=
  { u.modHead fun e => { e with transmissions := min 65535 (e.transmissions + 1) } with
    link := .sending
    answerTimer := none
    retryTimer := some 0 }

def startTransmission (s : State) : State := s.modLabels LabelUnit.transmit

/-- The head entry is composed and its transmission begins (R150, R152). -/
def startHead (s : State) : State :=
  match s.labels.queue with
  | [] => s
  | e :: _ => startTransmission (s.modLabels fun u => { u with head := composeLabel e s })

/-- An entry as it joins: its count at 0 and its flags clear (R147). -/
def newEntry (b : Fin 8) (pack : Nat) (reprint : Bool) : LabelEntry := ⟨b, pack, reprint, 0, false, false⟩

/-- An entry joins the tail, its pack's label becomes QUEUED, and an entry joining an empty queue is the head at once
(R148, R156). -/
def joinLabels (b : Fin 8) (pack : Nat) (reprint : Bool) (s : State) : State :=
  let wasEmpty := s.labels.queue.isEmpty
  let s := setLabel b .queued s
  let s := s.modLabels fun u => { u with queue := u.queue ++ [newEntry b pack reprint] }
  if wasEmpty then startHead s else s

/-- Admission of the closed pack of a bay (R148). -/
def admitLabel (b : Fin 8) (pack : Nat) (s : State) : State :=
  if s.labels.queue.length < 4 then joinLabels b pack false s
  else
    raisePacking .labelQueueFull (some pack)
      ((setLabel b .waitingSlot s).modLabels fun u => { u with waiting := u.waiting ++ [⟨b, pack⟩] })

/-- The pack at the head of the waiting list takes the freed place (R149). -/
def serveWaiting (s : State) : State :=
  match s.labels.waiting with
  | [] => s
  | w :: rest =>
    setLabel w.bay .queued
      (s.modLabels fun u => { u with queue := u.queue ++ [newEntry w.bay w.pack false], waiting := rest })

/-- LABEL-DONE of an acknowledged entry (R153). -/
def reportLabel (e : LabelEntry) (s : State) : State :=
  match s.packs.bays[e.bay] with
  | some p => queueReport (.labelDone e.bay e.pack e.reprint ((p.closing.map (·.reprints)).getD 0) e.transmissions) s
  | none => s

/-- The link with an empty queue (R153 step 5). -/
def LabelUnit.idle (u : LabelUnit) : LabelUnit := { u with link := .idle, answerTimer := none, retryTimer := none }

/-- An awaited ACK (R153). -/
def labelAcknowledged (s : State) : State :=
  match s.labels.link, s.labels.queue with
  | .answerWait, e :: rest =>
    let s := s.modBay e.bay fun p =>
      { p with state := .labelled, closing := p.closing.map fun c => { c with label := .printed } }
    let s := reportLabel e s
    let s := s.modLabels fun u => { u with queue := rest, head := none }
    let s := serveWaiting s
    if s.labels.queue.isEmpty then s.modLabels LabelUnit.idle else startHead s
  | _, _ => s

/-- A failed transmission of the head (R155). -/
def transmissionFailed (e : LabelEntry) (s : State) : State :=
  let s :=
    if e.timeoutReported then s
    else raisePacking .printerTimeout (some e.pack)
      (s.modLabels (LabelUnit.modHead fun e => { e with timeoutReported := true }))
  s.modLabels fun u => { u with link := .retryWait, answerTimer := none }

/-- An awaited NAK (R154). -/
def labelRejected (s : State) : State :=
  match s.labels.link, s.labels.queue with
  | .answerWait, e :: _ =>
    let s := raisePacking .printerNak (some e.pack) s
    if e.nakResendUsed then transmissionFailed e s
    else startTransmission (s.modLabels (LabelUnit.modHead fun e => { e with nakResendUsed := true }))
  | _, _ => s

/-- An awaited BUSY, or the answer timer at 2 s (R155). -/
def labelUnanswered (s : State) : State :=
  match s.labels.link, s.labels.queue with
  | .answerWait, e :: _ => transmissionFailed e s
  | _, _ => s

/-- The END line of the transmission has been sent (R152). -/
def labelSent (s : State) : State :=
  match s.labels.link with
  | .sending => s.modLabels fun u => { u with link := .answerWait, answerTimer := some 0 }
  | _ => s

/-- The retry timer at 10 s (R155). -/
def labelRetry (s : State) : State :=
  match s.labels.link, s.labels.queue with
  | .retryWait, _ :: _ => startTransmission s
  | _, _ => s

/-- What an answer of the printer does (R153 to R155). -/
def printerAnswered (a : PrinterAnswer) (s : State) : State :=
  match a with
  | .ack => labelAcknowledged s
  | .nak => labelRejected s
  | .busy => labelUnanswered s

end Sys2Proof.Machine
end

