-- ==== Sys2Proof/Machine/PackOps.lean ====
section
/-! DEFINITION. The pack builder (chapter 8) and the two line rules it calls: the drain test (R117) and the unblock (R118). -/

namespace Sys2Proof.Machine

/-! ## The drain test and the unblock -/

/-- The drain test (R117). -/
def drainTest (s : State) : State :=
  if s.line.state = .draining ∧ s.line.queue = [] ∧ s.packs.held = [] then enterLine .stopped none .drained s else s

/-- The line enters DRAINING, and the drain test is made at the entry (R113, R116 to R118). -/
def enterDraining (cause : LineCause) (s : State) : State := drainTest (enterLine .draining none cause s)

/-- The unblock notice (R118). -/
def unblock (s : State) : State :=
  match s.line.state, s.line.returnTo with
  | .blocked, some .running => enterLine .running none .bay s
  | .blocked, some .draining => enterDraining .bay s
  | _, _ => s

/-! ## Closing (R136) -/

/-- The exception flags of a lineage, from the charge records as they stand (R136 step 2). -/
def gatherFlags (s : State) (lineage : List LineageEntry) : ExceptionFlags :=
  let cs := lineage.filterMap fun e => s.charge? e.charge
  ⟨cs.any (·.incomplete), cs.any (·.redryHigh), cs.any (·.redryPart.isSome)⟩

/-- PACK-CLOSED of the pack in a bay (R136 step 4). -/
def reportPack (b : Fin 8) (s : State) : State :=
  match s.packs.bays[b] with
  | some p => queueReport (.packClosed b p) s
  | none => s

/-- Closing the pack of a bay (R136). The label state is the label unit's to set in step 3; it sets QUEUED or
WAITING_SLOT. -/
def closePack (b : Fin 8) (reason : CloseReason) (s : State) : State :=
  match s.packs.bays[b] with
  | none => s
  | some p =>
    let closing : Closing := ⟨gatherFlags s p.lineage, reason, s.now, .waitingSlot, 0⟩
    let s := s.setBay b (some { p with state := .closed, closing := some closing })
    reportPack b (admitLabel b p.number s)

/-! ## Opening and appending (R134, R135) -/

/-- Opening a pack in a bay of a class (R134). The two board times are set by the first append, in the same event. -/
def openPack (b : Fin 8) (c : Fin 4) (s : State) : State :=
  let p : Pack :=
    { number := s.store.nextPack, cls := c, state := .opened, target := s.packs.targets[c], pieces := 0, lengthSum := 0,
      volume := 0, meanSum := 0, highestMax := 0, firstBoard := s.now, lastBoard := s.now, lineage := [], mixed := false,
      unlisted := 0, closing := none }
  (s.modStore fun t => { t with nextPack := nextPack t.nextPack }).setBay b (some p)

/-- Whether a lineage lists a charge. -/
def lists (lineage : List LineageEntry) (charge : Nat) : Bool := lineage.any fun e => decide (e.charge = charge)

/-- An append gives the charge its first entry in the pack (R135 step 3, R47). -/
def Pack.givesEntry (charge : Nat) (p : Pack) : Bool := !lists p.lineage charge && decide (p.lineage.length < 4)

/-- The lineage, MIXED flag and unlisted pieces after an append (R135 step 3). -/
def Pack.withLineage (charge : Nat) (p : Pack) : Pack :=
  if lists p.lineage charge then
    { p with lineage := p.lineage.map fun e => if e.charge = charge then { e with pieces := e.pieces + 1 } else e }
  else if p.lineage.length < 4 then { p with lineage := p.lineage ++ [⟨charge, 1⟩] }
  else { p with mixed := true, unlisted := p.unlisted + 1 }

/-- Pieces, sums and times after an append (R135 steps 1 and 2). -/
def Pack.withBoard (h : HeldBoard) (volume : Nat) (time : Time) (p : Pack) : Pack :=
  { p with
    pieces := p.pieces + 1
    lengthSum := p.lengthSum + h.length
    volume := p.volume + volume
    meanSum := p.meanSum + h.mean
    highestMax := if p.pieces = 0 then h.max else max p.highestMax h.max
    firstBoard := if p.pieces = 0 then time else p.firstBoard
    lastBoard := time }

/-- Volume of a board from the record of its charge (R33). -/
def State.volumeOf (h : HeldBoard) (s : State) : Nat :=
  match s.charge? h.charge with
  | some c => boardVolume h.length c.width c.thickness
  | none => 0

/-- Appending a board to the pack of a bay (R135). `free` is the freeing test of the board's charge after step 4, which a
refill leaves to the end of BAY-CLEARED (R141 step 5). -/
def appendBoard (free : Nat → State → State) (b : Fin 8) (h : HeldBoard) (s : State) : State :=
  match s.packs.bays[b] with
  | none => s
  | some p =>
    let p' := (p.withBoard h (s.volumeOf h) s.now).withLineage h.charge
    let s := s.setBay b (some p')
    let s := s.modCharge h.charge (ChargeRecord.appended (p.givesEntry h.charge))
    let s := free h.charge s
    if p'.pieces = p'.target then closePack b .count s else s

/-- Cases 1 and 2 of R133: an OPEN pack, else a FREE bay; nothing when the class lacks a place. -/
def packBoard (free : Nat → State → State) (h : HeldBoard) (s : State) : State :=
  match s.packs.openBay h.cls with
  | some b => appendBoard free b h s
  | none =>
    match s.packs.freeBay h.cls with
    | some b => appendBoard free b h (openPack b h.cls s)
    | none => s

/-- Cases 3 and 4 of R133: the hold list, or nowhere (R139). -/
def holdBoard (h : HeldBoard) (s : State) : State :=
  if s.packs.held.length < 16 then { s with packs := { s.packs with held := s.packs.held ++ [h] } }
  else
    let s := { s with packs := { s.packs with overflow := min 65535 (s.packs.overflow + 1) } }
    raisePacking .bayBlock none (freeTest h.charge (s.modCharge h.charge ChargeRecord.landed))

/-- A board taken from the outfeed eye (R133). -/
def placeBoard (h : HeldBoard) (s : State) : State :=
  if s.packs.hasPlace h.cls then packBoard freeTest h s else holdBoard h s

/-! ## Refill and clearing (R140 to R142) -/

/-- The refill of a class, with the charges whose boards it took; `n` bounds the boards that can be taken (R140). -/
def refill (c : Fin 4) : Nat → State → State × List Nat
  | 0, s => (s, [])
  | n + 1, s =>
    match takeFirst (fun h => decide (h.cls = c)) s.packs.held with
    | none => (s, [])
    | some (h, rest) =>
      if s.packs.hasPlace c then
        let r := refill c n (packBoard (fun _ s => s) h { s with packs := { s.packs with held := rest } })
        (r.1, h.charge :: r.2)
      else (s, [])

/-- The class of an ACCEPT decision. -/
def Decision.class? : Decision → Option (Fin 4)
  | .accept c => some c
  | _ => none

/-- The unblock test (R142). -/
def State.mayRelease (s : State) : Bool :=
  decide (s.packs.held = []) &&
    s.line.queue.all fun b =>
      match b.decision.class? with
      | some c => s.packs.hasPlace c
      | none => true

/-- An accepted BAY-CLEARED (R141). Where it frees several records, R43, R50 and R141 give the freeings and their CHARGE-STATE
reports no order: DESIGN CHOICE, the removed pack's lineage order and then the order of the refilled boards (log entry 16). -/
def clearBay (b : Fin 8) (p : Pack) (s : State) : State :=
  let listed := p.lineage.map (·.charge)
  let s := s.setBay b none
  let s := listed.foldl (fun s n => s.modCharge n ChargeRecord.unlisted) s
  let hadHeld := !s.packs.held.isEmpty
  let r := refill (bayClass b) s.packs.held.length s
  let s := if hadHeld && r.1.packs.held.isEmpty then drainTest r.1 else r.1
  let s := if s.mayRelease then unblock s else s
  freeTests (listed ++ r.2) s

end Sys2Proof.Machine
end

