-- ==== Sys2Proof/Machine/LineOps.lean ====
section
/-! DEFINITION. The board tracker (chapter 7): positions, the eyes and their filters, the points of a board, the outfeed eye,
clearing, and what FEED and FEED-END do to the line. -/

namespace Sys2Proof.Machine

/-! ## Positions (R110) -/

/-- The range of encoder positions, in hundredths of a millimetre. -/
abbrev positionRange : Nat := 2 ^ 48

/-- The distance from one encoder position to another in whole millimetres, wrapping across the top (R110). -/
def distanceMm (start finish : Nat) : Nat := ((finish + positionRange - start) % positionRange) / 100

/-- Leading travel of a board (R110). -/
def State.leading (b : Board) (s : State) : Nat := distanceMm b.entry s.line.position

/-- Trailing travel of a board, absent while its trailing position is (R110). -/
def State.trailing (b : Board) (s : State) : Option Nat := b.trailing.map fun t => distanceMm t s.line.position

/-! ## Boards in the queue -/

/-- Change the record at a place of the queue, 0 at the head. -/
def State.modBoard (i : Nat) (f : Board → Board) (s : State) : State :=
  s.modLine fun l => { l with queue := l.queue.modify i f }

/-- The gate demands follow the boards that span the gates, and are driven where they change (R126, R106). -/
def settleGates (s : State) : State :=
  let redry := s.line.queue.any (·.spansRedry)
  let reject := s.line.queue.any (·.spansReject)
  let s := if s.line.redryDemand = redry then s
    else driveOutput .redryGate redry (s.modLine fun l => { l with redryDemand := redry })
  if s.line.rejectDemand = reject then s
  else driveOutput .rejectGate reject (s.modLine fun l => { l with rejectDemand := reject })

/-- The board at a place leaves the queue at a gate (R126, R46). -/
def leaveAtGate (i : Nat) (b : Board) (s : State) : State :=
  let s := s.modLine fun l => { l with queue := l.queue.eraseIdx i }
  let s := countCharge b.charge ChargeRecord.landed s
  let s := settleGates s
  let s := match b.charge with | some n => freeTest n s | none => s
  drainTest s

/-- BOARD-DECIDED (R124). -/
def reportBoard (b : Board) (s : State) : State :=
  queueReport (.boardDecided b.number b.charge b.length b.decision b.pairs.length (b.figures.bind (·.moisture)) b.meterFault
    (s.leading b)) s

/-! ## Decisions (R45, R124) -/

/-- The redry rate test of a charge after a counted decision (R32). -/
def testRedryRate (b : Board) (n : Nat) (s : State) : State :=
  match s.charge? n with
  | none => s
  | some c =>
    if !c.redryHigh && redryExceeds s.line.config.redryLimit c.counts then
      raiseLine .redryHigh (some b.number) (some n) (s.leading b)
        (s.modCharge n fun c => { c with redryHigh := true })
    else s

/-- A decision counted into the board's charge (R45). -/
def countDecision (b : Board) (s : State) : State :=
  match b.charge with
  | none => s
  | some n =>
    match s.charge? n with
    | none => s
    | some c =>
      let mean := (b.figures.bind (·.moisture)).map (·.mean)
      let s := s.modCharge n (ChargeRecord.decided b.decision mean)
      let s := if b.decision = .redry then raiseTally c.species s else s
      if b.decision.measured then testRedryRate b n s else s

/-- The species entry in force for a board's charge (R10). -/
def State.boardEntry (b : Board) (s : State) : Option SpeciesEntry :=
  (b.charge.bind fun n => s.charge? n).bind fun c => s.entryInForce c.species

/-- The place question after an ACCEPT decision (R118). -/
def askPlace (c : Fin 4) (s : State) : State :=
  if s.packs.hasPlace c then s
  else
    let s := raisePacking .bayBlock none s
    match s.line.state with
    | .running => enterLine .blocked (some .running) .bay s
    | .draining => enterLine .blocked (some .draining) .bay s
    | .stopped | .blocked | .tripped => s

/-- A board with its decision and figures at the meter head (R29, R30, R124). -/
def Board.judged (cfg : LineConfig) (entry : Option SpeciesEntry) (b : Board) : Board :=
  let figures := boardFigures entry b.pairs
  { b with decision := decideBoard cfg (b.length.getD 0) entry figures, figures := some figures }

/-- Steps 2 to 5 of R124 for a PENDING board. -/
def judgeBoard (i : Nat) (b : Board) (s : State) : State :=
  let b' := b.judged s.line.config (s.boardEntry b)
  let s := s.modBoard i fun _ => b'
  let s := reportBoard b' (countDecision b' s)
  match b'.decision.class? with
  | some c => askPlace c s
  | none => s

/-- The knife test after an addition to the planed length (R128). -/
def testKnife (b : Board) (s : State) : State :=
  if !s.line.knifeFlag && decide (s.line.config.knifeThreshold * 1000000 ≤ s.line.planedLength) then
    raiseLine .knifeService (some b.number) b.charge s.line.config.meterPosition
      (s.modLine fun l => { l with knifeFlag := true })
  else s

/-! ## Points (R119) -/

/-- The points of a board (R119). -/
inductive Point where
  | sample | trailingMeter | leadingRedry | trailingRedry | leadingReject | trailingReject
deriving DecidableEq, Repr

/-- Trailing travel of a board as it stood before the advance that is being taken (R119). -/
def State.trailingBefore (b : Board) (s : State) : Option Nat :=
  b.trailing.map fun t => distanceMm t ((s.line.position + positionRange - s.line.config.resolution) % positionRange)

/-- Whether a board spans the meter head at a sample point that lies `back` behind its leading edge: its trailing position is
absent, or its trailing travel is below the meter position; where this advance brings the trailing edge to the meter head too,
it is below at the point when the point lies within the length of the board (R119, R123; log entry 11). -/
def State.spansMeter (b : Board) (back : Nat) (s : State) : Bool :=
  match s.trailing b, s.trailingBefore b with
  | some now, some before =>
    decide (now < s.line.config.meterPosition) ||
      (decide (before < s.line.config.meterPosition) && decide (back < b.length.getD 0))
  | _, _ => true

/-- The leading travel at which a point of a board falls, where the point is unmarked and the advance has reached it
(R119, R123). -/
def State.reached (b : Board) (s : State) : Point → Option Nat :=
  let cfg := s.line.config
  let leads (x : Nat) : Option Nat := if x ≤ s.leading b then some x else none
  let trails (x : Nat) : Option Nat :=
    match s.trailing b with
    | some t => if x ≤ t then some (x + b.length.getD 0) else none
    | none => none
  fun
  | .sample =>
    let back := b.nextSample * cfg.spacing
    if b.decision = .pending ∧ s.spansMeter b back then leads (cfg.meterPosition + back) else none
  | .trailingMeter => if b.pastMeter then none else trails cfg.meterPosition
  | .leadingRedry => if b.marks.redryLeading then none else leads cfg.redryGate
  | .trailingRedry => if b.marks.redryTrailing then none else trails cfg.redryGate
  | .leadingReject => if b.marks.rejectLeading then none else leads cfg.rejectGate
  | .trailingReject => if b.marks.rejectTrailing then none else trails cfg.rejectGate

/-- The points in the order that settles those of one leading travel (R119: the trailing edge at the meter head is taken
before the leading edge at the redry gate; log entry 11). -/
def allPoints : List Point :=
  [.sample, .trailingMeter, .leadingRedry, .trailingRedry, .leadingReject, .trailingReject]

/-- The reached point that falls first (R119). -/
def State.nextPoint (b : Board) (s : State) : Option Point :=
  (allPoints.foldl
    (fun best p =>
      match s.reached b p, best with
      | none, _ => best
      | some x, none => some (x, p)
      | some x, some (y, q) => if x < y then some (x, p) else some (y, q))
    (none : Option (Nat × Point))).map (·.2)

/-- The level of the METER_FAULT function: 0 when no terminal holds it (R104). -/
def State.meterFaultLevel (s : State) : Bool :=
  match s.holder .meterFault with
  | some t => s.terminals[t].input
  | none => false

/-- The conversion value of the terminal that holds an analogue function (R105). -/
def State.conversionOf (f : TermFn) (s : State) : Option Nat := (s.holder f).bind fun t => s.terminals[t].conversion

/-- Step 2 of R123: a pair joins while the board holds fewer than 32. -/
def Board.withPair (meter : Option Nat) (temp : Option Nat) (b : Board) : Board :=
  match meter with
  | some m => if b.pairs.length < 32 then { b with pairs := b.pairs ++ [⟨m, temp⟩] } else b
  | none => b

/-- A meter sample point (R123). -/
def takeSample (i : Nat) (b : Board) (s : State) : State :=
  if s.meterFaultLevel then
    let s := s.modBoard i fun b => { b with meterFault := true, nextSample := b.nextSample + 1 }
    if b.meterFault then s else raiseLine .meterFault (some b.number) b.charge (s.leading b) s
  else
    let meter := s.conversionOf .meterIn
    let temp := s.conversionOf .tempIn
    s.modBoard i fun b => { b.withPair meter temp with nextSample := b.nextSample + 1 }

/-- The trailing edge at the meter head (R124). -/
def passMeter (i : Nat) (b : Board) (s : State) : State :=
  let s := s.modLine fun l => { l with planedLength := min 4294967295 (l.planedLength + b.length.getD 0) }
  let s := s.modBoard i fun b => { b with pastMeter := true }
  let s := testKnife b s
  if b.decision = .pending then judgeBoard i { b with pastMeter := true } s else s

/-- A board forced LATE at the redry gate (R125). -/
def forceLate (i : Nat) (b : Board) (s : State) : State :=
  let b' := { b with decision := .reject .late }
  let s := s.modBoard i fun _ => b'
  let s := raiseLine .lateDecision (some b.number) b.charge s.line.config.redryGate s
  reportBoard b' (countDecision b' s)

/-- The boards the reject gate serves (R126). -/
def Decision.rejected : Decision → Bool
  | .reject _ | .unmeasured => true
  | _ => false

/-- The leading edge at the redry gate (R125, R126). -/
def reachRedry (i : Nat) (b : Board) (s : State) : State :=
  let b := { b with marks := { b.marks with redryLeading := true } }
  if b.decision = .pending then forceLate i b s
  else if b.decision = .redry then settleGates (s.modBoard i fun _ => { b with spansRedry := true })
  else s.modBoard i fun _ => b

/-- The trailing edge past the redry gate (R126). -/
def passRedry (i : Nat) (b : Board) (s : State) : State :=
  let b := { b with marks := { b.marks with redryTrailing := true } }
  let s := s.modBoard i fun _ => b
  if b.spansRedry then leaveAtGate i b s else s

/-- The leading edge at the reject gate (R126). -/
def reachReject (i : Nat) (b : Board) (s : State) : State :=
  let b := { b with marks := { b.marks with rejectLeading := true } }
  if b.decision.rejected then settleGates (s.modBoard i fun _ => { b with spansReject := true })
  else s.modBoard i fun _ => b

/-- The trailing edge past the reject gate (R126). -/
def passReject (i : Nat) (b : Board) (s : State) : State :=
  let b := { b with marks := { b.marks with rejectTrailing := true } }
  let s := s.modBoard i fun _ => b
  if b.spansReject then leaveAtGate i b s else s

/-- A point of the board at a place acts (R123 to R126). -/
def takePoint (i : Nat) (b : Board) (p : Point) (s : State) : State :=
  match p with
  | .sample => takeSample i b s
  | .trailingMeter => passMeter i b s
  | .leadingRedry => reachRedry i b s
  | .trailingRedry => passRedry i b s
  | .leadingReject => reachReject i b s
  | .trailingReject => passReject i b s

/-- The points of the board at a place in one advance, in order, until it has left the queue or reached no further point
(R119). A board has at most 656 sample points (section 7.7) and five others, so the bound is never met. -/
def takePoints (i : Nat) : Nat → State → State
  | 0, s => s
  | fuel + 1, s =>
    match s.line.queue[i]? with
    | none => s
    | some b =>
      match s.nextPoint b with
      | none => s
      | some p =>
        let t := takePoint i b p s
        if t.line.queue.length < s.line.queue.length then t else takePoints i fuel t

/-- The points of so many boards from a place on; a board that leaves brings the next one to its place. -/
def takeBoards : Nat → Nat → State → State
  | _, 0, s => s
  | i, n + 1, s =>
    let t := takePoints i 670 s
    takeBoards (if t.line.queue.length < s.line.queue.length then i else i + 1) n t

/-- The points of every board, head first (R119). -/
def takeAllPoints (s : State) : State := takeBoards 0 s.line.queue.length s

/-! ## The infeed eye (R121, R122) -/

/-- The number after a board number (R121). -/
def nextBoardNumber (n : Nat) : Nat := if n = 65535 then 1 else n + 1

/-- A board record at entry (section 7.7). -/
def newBoard (number : Nat) (charge : Option Nat) (entry : Nat) : Board where
  number := number
  charge := charge
  entry := entry
  trailing := none
  length := none
  pairs := []
  nextSample := 1
  meterFault := false
  decision := match charge with | some _ => .pending | none => .reject .noCharge
  figures := none
  pastMeter := false
  marks := ⟨false, false, false, false⟩
  spansRedry := false
  spansReject := false

/-- The uncharged counter rises by one, stopping at the top (R110, R121). -/
def Line.uncharge (l : Line) : Line := { l with uncharged := min 4294967295 (l.uncharged + 1) }

/-- A taken leading edge of the infeed eye, at the position where the change began (R121). -/
def infeedLeading (edge : Nat) (s : State) : State :=
  let charge := s.feedCharge.map (·.number)
  if s.line.queue.length < 16 then
    let b := newBoard s.line.nextBoard charge edge
    let s := s.modLine fun l =>
      { l with queue := l.queue ++ [b], nextBoard := nextBoardNumber l.nextBoard, infeedCondition := .tracked }
    match charge with
    | some n => s.modCharge n ChargeRecord.entered
    | none => reportBoard b (s.modLine Line.uncharge)
  else
    let s := s.modLine fun l => { l with infeedCondition := .untracked }
    let s := match charge with
      | some n => s.modCharge n ChargeRecord.overran
      | none => s.modLine Line.uncharge
    raiseLine .trackOverflow none charge (edge / 100) s

/-- Change the tail of a list. -/
def modLast {α : Type} (f : α → α) : List α → List α
  | [] => []
  | [a] => [f a]
  | a :: rest => a :: modLast f rest

/-- The tail record takes its trailing position and length (R122). -/
def Board.trailAt (edge : Nat) (b : Board) : Board :=
  { b with trailing := some edge, length := some (min 65535 (distanceMm b.entry edge)) }

/-- A TRACKED condition gives the tail record its trailing edge (R122). -/
def settleTail (edge : Nat) (s : State) : State :=
  if s.line.infeedCondition = .tracked then s.modLine fun l => { l with queue := modLast (Board.trailAt edge) l.queue } else s

/-- A taken trailing edge of the infeed eye (R122). -/
def infeedTrailing (edge : Nat) (s : State) : State :=
  (settleTail edge s).modLine fun l => { l with infeedCondition := .clear }

/-! ## The outfeed eye (R127) -/

/-- The figures the pack builder takes of an ACCEPT board (section 8.1). -/
def Board.held (c : Fin 4) (b : Board) : HeldBoard :=
  let m := b.figures.bind (·.moisture)
  ⟨b.number, b.charge.getD 0, c, b.length.getD 0, (m.map (·.mean)).getD 0, (m.map (·.max)).getD 0⟩

/-- A mismatch at the outfeed eye (R127). -/
def mismatch (head : Option Board) (s : State) : State :=
  trip .fault (raiseLine .trackMismatch (head.map (·.number)) (head.bind (·.charge)) s.line.config.outfeed s)

/-- A taken leading edge of the outfeed eye (R127). -/
def outfeedLeading (s : State) : State :=
  match s.line.queue with
  | [] => mismatch none s
  | b :: rest =>
    match b.decision.class? with
    | some c =>
      if s.line.config.rejectGate ≤ s.leading b then
        drainTest (placeBoard (b.held c) (settleGates (s.modLine fun l => { l with queue := rest })))
      else mismatch (some b) s
    | none => mismatch (some b) s

/-! ## The eye filters (R120) -/

def Line.filter (e : Eye) (l : Line) : EyeFilter := match e with | .infeed => l.infeed | .outfeed => l.outfeed

def Line.setFilter (e : Eye) (f : EyeFilter) (l : Line) : Line :=
  match e with
  | .infeed => { l with infeed := f }
  | .outfeed => { l with outfeed := f }

/-- A waiting change that began at `edge` is taken (R120 to R122, R127). -/
def takeEye (e : Eye) (edge : Nat) (s : State) : State :=
  let level := !(s.line.filter e).taken
  let s := s.modLine (Line.setFilter e ⟨level, none⟩)
  match e, level with
  | .infeed, true => infeedLeading edge s
  | .infeed, false => infeedTrailing edge s
  | .outfeed, true => outfeedLeading s
  | .outfeed, false => s

/-- The test of a filter that holds a waiting change (R120). -/
def testFilter (e : Eye) (s : State) : State :=
  match (s.line.filter e).waiting with
  | none => s
  | some edge => if s.line.config.eyeFilter ≤ distanceMm edge s.line.position then takeEye e edge s else s

/-- An edge of an eye handed on by the terminal block (R120): taken at once only where the filter distance is 0. -/
def eyeEdge (e : Eye) (level : Bool) (s : State) : State :=
  let f := s.line.filter e
  if level = f.taken then s.modLine (Line.setFilter e { f with waiting := none })
  else
    let edge := f.waiting.getD s.line.position
    let s := s.modLine (Line.setFilter e { f with waiting := some edge })
    if s.line.config.eyeFilter = 0 then takeEye e edge s else s

/-- The tracker's view of an eye is set other than by an edge (R120, R122). -/
def setEyeView (e : Eye) (level : Bool) (s : State) : State :=
  let s := s.modLine (Line.setFilter e ⟨level, none⟩)
  match e with
  | .outfeed => s
  | .infeed =>
    (settleTail s.line.position s).modLine fun l => { l with infeedCondition := if level then .untracked else .clear }

/-! ## The encoder (R119) -/

/-- One advance of the encoder (R119). -/
def advance (s : State) : State :=
  let s := s.modLine fun l => { l with position := (l.position + l.config.resolution) % positionRange }
  testFilter .infeed (testFilter .outfeed (takeAllPoints s))

/-! ## Clearing (R113, R48, R131) -/

/-- Every record leaves the queue; each charged board is settled in the charge table, and the freeing tests follow the
removal of all (R48, R113). Several freed records are reported in queue order: DESIGN CHOICE (log entry 16). -/
def emptyQueue (s : State) : State :=
  let boards := s.line.queue
  let s := s.modLine fun l => { l with queue := [] }
  let s := boards.foldl
    (fun s b => countCharge b.charge (ChargeRecord.untrack (decide (b.decision = .pending))) s) s
  freeTests (boards.filterMap (·.charge)) (settleGates s)

/-- CLEAR_TRACKING (R113 step 1). -/
def clearTracking (s : State) : State :=
  (emptyQueue s).modLine fun l =>
    { l with infeedCondition := if l.infeedCondition = .tracked then .untracked else l.infeedCondition }

/-! ## Feed (R116) -/

/-- What an accepted FEED does to the line (R116). -/
def feedLine (s : State) : State :=
  match s.line.state, s.line.returnTo with
  | .draining, _ => enterLine .running none .request s
  | .blocked, some .draining => enterLine .blocked (some .running) .request s
  | _, _ => s

/-- What an accepted FEED-END does to the line (R116). -/
def feedEndLine (s : State) : State :=
  match s.line.state, s.line.returnTo with
  | .running, _ => enterDraining .request s
  | .blocked, some .running => enterLine .blocked (some .draining) .request s
  | _, _ => s

/-- The seven line functions a start needs (R112). -/
def neededFunctions : List TermFn := [.infeedEye, .outfeedEye, .encoder, .meterIn, .redryGate, .rejectGate, .lineStop]

/-- Whether every function a start needs is held (R112). -/
def State.functionsHeld (s : State) : Bool := neededFunctions.all fun f => (s.holder f).isSome

end Sys2Proof.Machine
end

