-- ==== Sys2Proof/Machine/Charge.lean ====
section
/-! DEFINITION. The commands of the charge table (chapter 3). -/

namespace Sys2Proof.Machine

/-! ## CHARGE-CREATE (R36, R37) -/

/-- A position number above its range counts as none free. -/
def lowestFree : Nat → List (Option ChargeRecord) → Option Nat
  | _, [] => none
  | i, none :: _ => some i
  | i, some _ :: rest => lowestFree (i + 1) rest

/-- The lowest free position (R35). -/
def State.freePosition (s : State) : Option (Fin 12) :=
  (lowestFree 0 s.charges.records.toList).bind (fin? 12)

/-- The species a creation names: its own, and that of its claim (R36). -/
def NewCharge.speciesNamed (r : NewCharge) : List (Fin 8) := r.species :: (r.redryPart.map (·.species)).toList

/-- Stage 6 of R36: the claim is above the tally of its species. -/
def claimExceeds (r : NewCharge) (s : State) : Bool :=
  match r.redryPart with
  | some p => decide (s.charges.tally[p.species] < p.count)
  | none => false

/-- The first failing stage of R36 after its ranges, if any, with the position that a creation takes. -/
def checkCreate (r : NewCharge) (s : State) : Except Status (Fin 12) :=
  match s.freePosition with
  | none => .error .full
  | some pos =>
    if s.store.slots[r.slot] = .writing ∨ (r.speciesNamed.any fun n => s.store.species[n].isWriting) = true then .error .busy
    else
      match s.store.slots[r.slot].lend with
      | .error e => .error e
      | .ok sched =>
        if (r.speciesNamed.any fun n => (s.entryInForce n).isNone) = true then .error .notFound
        else if sched.species ≠ r.species.val then .error .badArg
        else if claimExceeds r s then .error .badArg
        else .ok pos

/-- The record of a creation (R37 step 2). -/
def NewCharge.record (r : NewCharge) (number : Nat) (created : Time) : ChargeRecord where
  number := number
  state := .created
  species := r.species
  thickness := r.thickness
  width := r.width
  declared := r.declared
  slot := r.slot
  redryPart := r.redryPart
  kiln := none
  dryingKiln := none
  created := created
  started := none
  dried := none
  finalMC := none
  incomplete := false
  counts := ⟨0, 0, 0, 0, 0, 0⟩
  meanSum := 0
  meanCount := 0
  meanRange := none
  inFlight := 0
  packRefs := 0
  redryHigh := false

/-- The tally of the claim species falls by the claim (R37 step 3). -/
def lowerTally (part : Option RedryPart) (s : State) : State :=
  match part with
  | some p => { s with charges := { s.charges with tally := vmod s.charges.tally p.species fun n => n - p.count } }
  | none => s

/-- An accepted creation (R37). -/
def createCharge (r : NewCharge) (pos : Fin 12) (s : State) : State × List Byte :=
  let n := s.drawnCharge
  let c := r.record n s.now
  let s := s.modStore fun t => { t with nextCharge := nextCharge n }
  let s := { s with charges := { s.charges with records := s.charges.records.set pos (some c) } }
  doneWith (le 2 n) (queueReport c.report (lowerTally r.redryPart s))

def actChargeCreate (payload : List Byte) (s : State) : State × List Byte :=
  match readNewCharge payload with
  | none => refuse .badArg s
  | some r =>
    match checkCreate r s with
    | .error e => refuse e s
    | .ok pos => createCharge r pos s

/-! ## CHARGE-CLOSE, FEED, FEED-END (R41, R42, R116) -/

def actChargeClose (payload : List Byte) (s : State) : State × List Byte :=
  match readCharge payload with
  | none => refuse .badArg s
  | some n =>
    match s.charge? n with
    | none => refuse .notFound s
    | some c =>
      match c.state with
      | .created | .released => done (freeTest n (changeCharge n (fun c => { c with state := .closed }) s))
      | .inKiln | .drying | .dried | .planing | .closed => refuse .state s

/-- The present feed charge goes back to RELEASED, where there is one (R41). -/
def unfeed (s : State) : State :=
  match s.feedCharge with
  | some f => changeCharge f.number (fun c => { c with state := .released }) s
  | none => s

def actFeed (payload : List Byte) (s : State) : State × List Byte :=
  match readCharge payload with
  | none => refuse .badArg s
  | some n =>
    match s.charge? n with
    | none => refuse .notFound s
    | some c =>
      if c.state = .released then
        done (feedLine (changeCharge n (fun c => { c with state := .planing }) (unfeed s)))
      else refuse .state s

def actFeedEnd (s : State) : State × List Byte :=
  match s.feedCharge with
  | some _ => done (feedEndLine (unfeed s))
  | none => refuse .state s

/-! ## Queries (R49) -/

/-- The records in use with their positions. -/
def positioned : Nat → List (Option ChargeRecord) → List (Nat × ChargeRecord)
  | _, [] => []
  | i, none :: rest => positioned (i + 1) rest
  | i, some c :: rest => (i, c) :: positioned (i + 1) rest

def State.recordsInUse (s : State) : List (Nat × ChargeRecord) := positioned 0 s.charges.records.toList

def actChargeQuery (payload : List Byte) (s : State) : State × List Byte :=
  match readCharge payload with
  | none => refuse .badArg s
  | some n =>
    match s.recordsInUse.find? fun x => decide (x.2.number = n) with
    | some x => replyOnly (fun _ => x.2.wire x.1) s
    | none => refuse .notFound s

def chargeListFields (s : State) : List Byte :=
  wireList (fun x : Nat × ChargeRecord => le 1 x.1 ++ le 2 x.2.number ++ le 1 x.2.state.code) s.recordsInUse ++
    (s.charges.tally.toList.map (le 2)).flatten

/-! ## The commands -/

def execChargeCreate (tag : Byte) (payload : List Byte) (s : State) : Host.Outcome State Fault Refusal :=
  .next (request 0x08 tag payload (actChargeCreate payload) s)

def execChargeClose (tag : Byte) (payload : List Byte) (s : State) : Host.Outcome State Fault Refusal :=
  .next (request 0x09 tag payload (actChargeClose payload) s)

def execChargeQuery (tag : Byte) (payload : List Byte) (s : State) : Host.Outcome State Fault Refusal :=
  .next (request 0x0A tag payload (actChargeQuery payload) s)

def execChargeList (tag : Byte) (payload : List Byte) (s : State) : Host.Outcome State Fault Refusal :=
  .next (request 0x0B tag payload (replyOnly chargeListFields) s)

def execFeed (tag : Byte) (payload : List Byte) (s : State) : Host.Outcome State Fault Refusal :=
  .next (request 0x0C tag payload (actFeed payload) s)

def execFeedEnd (tag : Byte) (payload : List Byte) (s : State) : Host.Outcome State Fault Refusal :=
  .next (request 0x0D tag payload actFeedEnd s)

end Sys2Proof.Machine
end

