-- ==== Sys2Proof/Machine/Faults.lean ====
section
/-! DEFINITION. The commands of the fault unit (chapter 10). -/

namespace Sys2Proof.Machine

def State.modFaults (f : FaultUnit → FaultUnit) (s : State) : State := { s with faults := f s.faults }

/-- FAULT-CONFIG (R160). A fixed kind takes only what it holds, so its acceptance writes that again. -/
def actFaultConfig (payload : List Byte) (s : State) : State × List Byte :=
  match readKindConfig payload with
  | none => refuse .badArg s
  | some (k, cfg) =>
    if k.fixed then (if cfg = defaultKind .critical then done s else refuse .locked s)
    else done (s.modFaults fun f => { f with kinds := f.kinds.set k.index cfg })

def actFaultActions (payload : List Byte) (s : State) : State × List Byte :=
  match readActions payload with
  | none => refuse .badArg s
  | some (v, a) => done (s.modFaults fun f => { f with actions := f.actions.set v.index a })

def actFaultLogClear (payload : List Byte) (s : State) : State × List Byte :=
  match readNumber 10 payload with
  | none => refuse .badArg s
  | some d => done (s.modFaults fun f => { f with logs := vmod f.logs d fun l => { l with first := none, next := none } })

def actFaultCountClear (payload : List Byte) (s : State) : State × List Byte :=
  match readNumber 10 payload with
  | none => refuse .badArg s
  | some d =>
    done (s.modFaults fun f => { f with logs := vmod f.logs d fun l => { l with counter := 0, overflow := false } })

/-- The domains in order (R159). -/
def domainOf (d : Fin 10) : Domain :=
  if h : d.val < 6 then .kiln ⟨d.val, h⟩
  else if d.val = 6 then .line
  else if d.val = 7 then .packing
  else if d.val = 8 then .links
  else .system

/-- The fields of FAULT-QUERY (R172). -/
def logFields (d : Fin 10) (s : State) : List Byte :=
  let l := s.faults.logs[d]
  opt (domainOf d).recordWidth FaultRecord.wire l.first ++ opt (domainOf d).recordWidth FaultRecord.wire l.next ++
    le 1 l.counter ++ flagByte l.overflow

def actFaultQuery (payload : List Byte) (s : State) : State × List Byte :=
  match readNumber 10 payload with
  | none => refuse .badArg s
  | some d => replyOnly (logFields d) s

/-- What FAULT-CONFIG-QUERY carries of one kind (R172). -/
def kindFields (s : State) (k : FaultKind) : List Byte :=
  let c := s.faults.kinds[k.index]
  le 1 c.severity.index.val ++ flagByte c.masked ++ flagByte c.counted ++ flagByte k.fixed

/-- The fields of FAULT-CONFIG-QUERY (R172). -/
def faultConfigFields (s : State) : List Byte :=
  (allFaultKinds.map (kindFields s)).flatten ++ (s.faults.actions.toList.map ActionSet.wire).flatten

/-! ## The commands -/

def execFaultConfig (tag : Byte) (payload : List Byte) (s : State) : Host.Outcome State Fault Refusal :=
  .next (request 0x2A tag payload (actFaultConfig payload) s)

def execFaultActions (tag : Byte) (payload : List Byte) (s : State) : Host.Outcome State Fault Refusal :=
  .next (request 0x2B tag payload (actFaultActions payload) s)

def execFaultLogClear (tag : Byte) (payload : List Byte) (s : State) : Host.Outcome State Fault Refusal :=
  .next (request 0x2C tag payload (actFaultLogClear payload) s)

def execFaultCountClear (tag : Byte) (payload : List Byte) (s : State) : Host.Outcome State Fault Refusal :=
  .next (request 0x2D tag payload (actFaultCountClear payload) s)

def execFaultQuery (tag : Byte) (payload : List Byte) (s : State) : Host.Outcome State Fault Refusal :=
  .next (request 0x2E tag payload (actFaultQuery payload) s)

def execFaultConfigQuery (tag : Byte) (payload : List Byte) (s : State) : Host.Outcome State Fault Refusal :=
  .next (request 0x2F tag payload (replyOnly faultConfigFields) s)

end Sys2Proof.Machine
end

