-- ==== Sys2Proof/Machine/Kiln.lean ====
section
/-! DEFINITION. The commands of the kiln unit (chapter 4), its minute tick among them. -/

namespace Sys2Proof.Machine

/-! ## Configuration and loading (R55, R56) -/

/-- A module address held by the configuration of another kiln (R55 check 2). -/
def State.addressHeld (k : Fin 6) (address : Nat) (s : State) : Bool :=
  allKilns.any fun j => decide (j ≠ k) && decide (s.kilns[j].config.address = address)

/-- An accepted KILN-CONFIG (R55, R85, R86, R95). -/
def configureKiln (k : Fin 6) (cfg : KilnConfig) (s : State) : State :=
  let moved := decide (s.kilns[k].config.address ≠ cfg.address)
  let s := s.modKiln k fun c => { c with config := cfg, measured := if moved then none else c.measured }
  s.modLink k fun l =>
    { l with
      climateTimer := 0
      scanTimer := l.scanTimer.map fun _ => 0
      link := if moved then .unknown else l.link
      failures := if moved then 0 else l.failures }

def actKilnConfig (payload : List Byte) (s : State) : State × List Byte :=
  match readKilnConfig payload with
  | none => refuse .badArg s
  | some (k, cfg) =>
    if s.addressHeld k cfg.address then refuse .inUse s
    else if cfg.address ≠ s.kilns[k].config.address ∧ s.kilns[k].state ≠ .idle then refuse .state s
    else done (configureKiln k cfg s)

/-- An accepted KILN-LOAD (R38, R56, R84). -/
def loadKiln (k : Fin 6) (n : Nat) (s : State) : State :=
  let s := bumpMark k (s.modKiln k fun c => { c with state := .loaded, charge := some n })
  reportKiln k .request (changeCharge n (fun c => { c with state := .inKiln, kiln := some k }) s)

def actKilnLoad (payload : List Byte) (s : State) : State × List Byte :=
  match readLoad payload with
  | none => refuse .badArg s
  | some (k, n) =>
    match s.charge? n with
    | none => refuse .notFound s
    | some c =>
      if c.state ≠ .created then refuse .state s
      else if s.kilns[k].state ≠ .idle then refuse .state s
      else done (loadKiln k n s)

/-! ## Samples (R57, R58) -/

/-- A record defined afresh (R17, R54). -/
def NewSample.record (r : NewSample) : Sample :=
  ⟨.defined, r.greenWeight, r.greenMC, odWeight r.greenWeight r.greenMC, none, none, false, 0⟩

def State.setSample (k : Fin 6) (p : Fin 8) (o : Option Sample) (s : State) : State :=
  s.modKiln k fun c => { c with samples := c.samples.set p o }

def actSampleDefine (payload : List Byte) (s : State) : State × List Byte :=
  match readNewSample payload with
  | none => refuse .badArg s
  | some r =>
    match s.kilns[r.kiln].state with
    | .idle | .done => refuse .state s
    | .loaded | .run | .equalise | .condition | .hold | .park =>
      let old := s.kilns[r.kiln].samples[r.position]
      let s := s.setSample r.kiln r.position (some r.record)
      doneWith (le 2 r.record.odWeight) (serve (if old.isSome then formFigures r.kiln s else s))

/-- The answer of SAMPLE-EXCLUDE by the state of the sample: a status alone, or the new record (R58). -/
def Sample.exclude (p : Sample) : Except Status Sample :=
  match p.standing with
  | .defined => .ok { p with standing := .excluded }
  | .excluded => .error .ok
  | .failed => .error .state

/-- The answer of SAMPLE-INCLUDE by the state of the sample (R58). -/
def Sample.include (p : Sample) : Except Status Sample :=
  match p.standing with
  | .defined => .error .ok
  | .excluded => .ok { p with standing := .defined }
  | .failed => .ok { p with standing := .defined, implausible := 0 }

/-- The shape the two requests share (R58). -/
def changeSample (answer : Sample → Except Status Sample) (payload : List Byte) (s : State) : State × List Byte :=
  match readPosition payload with
  | none => refuse .badArg s
  | some (k, p) =>
    if s.kilns[k].state = .idle then refuse .state s
    else
      match s.kilns[k].samples[p] with
      | none => refuse .notFound s
      | some old =>
        match answer old with
        | .error st => refuse st s
        | .ok new => done (serve (formFigures k (s.setSample k p (some new))))

def actSampleExclude (payload : List Byte) (s : State) : State × List Byte := changeSample Sample.exclude payload s

def actSampleInclude (payload : List Byte) (s : State) : State × List Byte := changeSample Sample.include payload s

/-! ## Starting (R60, R61) -/

/-- The number of samples in state DEFINED (R60 check 4). -/
def Kiln.definedCount (c : Kiln) : Nat :=
  (c.samples.toList.filter fun o => match o with | some p => decide (p.standing = .defined) | none => false).length

/-- The setpoint a run starts from (R61 step 4). -/
def Kiln.firstSetpoint (c : Kiln) (target : Int) : Int :=
  match c.measured with
  | some m => if m.stale then target else clamp 200 1200 m.dryBulb
  | none => target

/-- The drying run at its start (R61 steps 1 to 4). -/
def Kiln.startRun (c : Kiln) (r : Schedule) : DryingRun where
  schedule := r
  stepIndex := 0
  stepElapsed := 0
  totalElapsed := 0
  overtimeReported := false
  stepTarget := r.firstStep.target
  setpoint := c.firstSetpoint r.firstStep.target
  depression := r.firstStep.depression

/-- The charge record a kiln holds. -/
def State.kilnCharge (k : Fin 6) (s : State) : Option ChargeRecord := s.kilns[k].charge.bind fun n => s.charge? n

/-- The first failing check of R60 after the kiln number, or the schedule to copy. -/
def checkStart (k : Fin 6) (s : State) : Except Status Schedule :=
  if s.kilns[k].state ≠ .loaded then .error .state
  else if s.port.latchHolds then .error .state
  else if s.kilns[k].definedCount < 2 then .error .state
  else
    match s.kilnCharge k with
    | none => .error .notFound
    | some c =>
      match s.store.slots[c.slot].lend with
      | .error e => .error e
      | .ok r => if r.species ≠ c.species.val then .error .badArg else .ok r

/-- An accepted KILN-START (R61, R39, R86). -/
def startKiln (k : Fin 6) (r : Schedule) (s : State) : State :=
  let time := s.now
  let s := s.modKiln k fun c =>
    { c with state := .run, level := 0, drying := some (c.startRun r), deviation := 0, samplesLost := false }
  let s := changeHeld k (fun c => { c with state := .drying, dryingKiln := some k, started := some time }) s
  let s := reportKiln k .request s
  let s := pollDue k .climate s
  pollDue k .scan (s.modLink k fun l => { l with scanTimer := some 0 })

def actKilnStart (payload : List Byte) (s : State) : State × List Byte :=
  match readNumber 6 payload with
  | none => refuse .badArg s
  | some k =>
    match checkStart k s with
    | .error e => refuse e s
    | .ok r => done (serve (startKiln k r s))

/-! ## Advance, hold, park, resume, unload (R66, R70, R73, R74) -/

def actKilnAdvance (payload : List Byte) (s : State) : State × List Byte :=
  match readNumber 6 payload with
  | none => refuse .badArg s
  | some k => if s.kilns[k].state = .run then done (advanceStep k .operator s) else refuse .state s

/-- The shape KILN-HOLD and KILN-PARK share (R73). -/
def stopKiln (kind : HoldKind) (payload : List Byte) (s : State) : State × List Byte :=
  match readNumber 6 payload with
  | none => refuse .badArg s
  | some k =>
    if s.kilns[k].state.scanning then done (serve (applyCause k kind 1 .request s)) else refuse .state s

def actKilnHold (payload : List Byte) (s : State) : State × List Byte := stopKiln .hold payload s

def actKilnPark (payload : List Byte) (s : State) : State × List Byte := stopKiln .park payload s

/-- An accepted KILN-RESUME (R74). -/
def resumeKiln (k : Fin 6) (s : State) : State :=
  let s := s.modKiln k fun c =>
    { c with
      state := (c.resume.map Phase.state).getD c.state
      resume := none
      level := 0
      deviation := 0 }
  pollDue k .climate (reportKiln k .request s)

def actKilnResume (payload : List Byte) (s : State) : State × List Byte :=
  match readResume payload with
  | none => refuse .badArg s
  | some (k, clearance) =>
    if s.kilns[k].state.held = false then refuse .state s
    else if s.port.latchHolds then refuse .state s
    else if clearance < s.kilns[k].level then refuse .level s
    else done (serve (resumeKiln k s))

/-- What an unload leaves of a kiln context (R70 steps 1 to 5). -/
def Kiln.unloaded (c : Kiln) : Kiln :=
  { c with
    state := .idle
    resume := none
    level := 0
    charge := none
    drying := none
    conditionRemaining := none
    deviation := 0
    samples := Vector.replicate 8 none
    figures := noFigures
    samplesLost := false }

/-- What an unload makes of the charge record, by the kiln state (R38, R40, R70). -/
def ChargeRecord.afterUnload (from_ : KilnState) (time : Time) (final : Option FinalMC) (c : ChargeRecord) : ChargeRecord :=
  match from_ with
  | .loaded => { c with state := .created, kiln := none }
  | .hold | .park =>
    { c with state := .released, kiln := none, incomplete := true, dried := some time, finalMC := final }
  | .idle | .run | .equalise | .condition | .done => { c with state := .released, kiln := none }

/-- An accepted KILN-UNLOAD (R70, R84, R86). -/
def unloadKiln (k : Fin 6) (s : State) : State :=
  let was := s.kilns[k].state
  let final := finalMC (activeMCs s.kilns[k].samples)
  let time := s.now
  let s := changeHeld k (ChargeRecord.afterUnload was time final) s
  let s := s.modKiln k Kiln.unloaded
  let s := bumpMark k (s.modLink k fun l => { l with scanTimer := none })
  let s := reportKiln k .request s
  if was.held then pollDue k .climate s else s

def actKilnUnload (payload : List Byte) (s : State) : State × List Byte :=
  match readNumber 6 payload with
  | none => refuse .badArg s
  | some k =>
    match s.kilns[k].state with
    | .idle | .run | .equalise | .condition => refuse .state s
    | .loaded | .hold | .park | .done => done (serve (unloadKiln k s))

def actKilnQuery (payload : List Byte) (s : State) : State × List Byte :=
  match readNumber 6 payload with
  | none => refuse .badArg s
  | some k => replyOnly (fun s => s.kilns[k].wire) s

/-! ## The commands -/

def execKilnConfig (tag : Byte) (payload : List Byte) (s : State) : Host.Outcome State Fault Refusal :=
  .next (request 0x0E tag payload (actKilnConfig payload) s)

def execKilnLoad (tag : Byte) (payload : List Byte) (s : State) : Host.Outcome State Fault Refusal :=
  .next (request 0x0F tag payload (actKilnLoad payload) s)

def execSampleDefine (tag : Byte) (payload : List Byte) (s : State) : Host.Outcome State Fault Refusal :=
  .next (request 0x10 tag payload (actSampleDefine payload) s)

def execSampleExclude (tag : Byte) (payload : List Byte) (s : State) : Host.Outcome State Fault Refusal :=
  .next (request 0x11 tag payload (actSampleExclude payload) s)

def execSampleInclude (tag : Byte) (payload : List Byte) (s : State) : Host.Outcome State Fault Refusal :=
  .next (request 0x12 tag payload (actSampleInclude payload) s)

def execKilnStart (tag : Byte) (payload : List Byte) (s : State) : Host.Outcome State Fault Refusal :=
  .next (request 0x13 tag payload (actKilnStart payload) s)

def execKilnAdvance (tag : Byte) (payload : List Byte) (s : State) : Host.Outcome State Fault Refusal :=
  .next (request 0x14 tag payload (actKilnAdvance payload) s)

def execKilnHold (tag : Byte) (payload : List Byte) (s : State) : Host.Outcome State Fault Refusal :=
  .next (request 0x15 tag payload (actKilnHold payload) s)

def execKilnPark (tag : Byte) (payload : List Byte) (s : State) : Host.Outcome State Fault Refusal :=
  .next (request 0x16 tag payload (actKilnPark payload) s)

def execKilnResume (tag : Byte) (payload : List Byte) (s : State) : Host.Outcome State Fault Refusal :=
  .next (request 0x17 tag payload (actKilnResume payload) s)

def execKilnUnload (tag : Byte) (payload : List Byte) (s : State) : Host.Outcome State Fault Refusal :=
  .next (request 0x18 tag payload (actKilnUnload payload) s)

def execKilnQuery (tag : Byte) (payload : List Byte) (s : State) : Host.Outcome State Fault Refusal :=
  .next (request 0x19 tag payload (actKilnQuery payload) s)

/-- The minute tick of its own: the divider has wrapped, every kiln takes its minute, and each scan timer its own
(R62, R86, R194). -/
def execKilnMinuteTick (s : State) : Host.Outcome State Fault Refusal :=
  .next (event (fun s => serve (eachKiln kilnMinute (s.modPort fun p => { p with divider := 0 }))) s)

end Sys2Proof.Machine
end

