-- ==== Sys2Proof/Machine/Packs.lean ====
section
/-! DEFINITION. The commands of the pack builder (chapter 8). -/

namespace Sys2Proof.Machine

def actPackClose (payload : List Byte) (s : State) : State × List Byte :=
  match readNumber 8 payload with
  | none => refuse .badArg s
  | some b =>
    match s.packs.bays[b] with
    | none => refuse .state s
    | some p => if p.state = .opened then done (closePack b .request s) else refuse .state s

def actPackTarget (payload : List Byte) (s : State) : State × List Byte :=
  match readTarget payload with
  | none => refuse .badArg s
  | some (c, t) => done { s with packs := { s.packs with targets := s.packs.targets.set c t } }

def actBayCleared (payload : List Byte) (s : State) : State × List Byte :=
  match readNumber 8 payload with
  | none => refuse .badArg s
  | some b =>
    match s.packs.bays[b] with
    | none => refuse .state s
    | some p => if p.printed then done (clearBay b p s) else refuse .state s

def actPackQuery (payload : List Byte) (s : State) : State × List Byte :=
  match readNumber 8 payload with
  | none => refuse .badArg s
  | some b => replyOnly (fun s => orMark Pack.wire s.packs.bays[b]) s

/-! ## STACKER-QUERY (R144) -/

/-- What STACKER-QUERY carries of one bay (R144). -/
def bayFields (p : Pack) : List Byte :=
  le 4 p.number ++ le 1 p.state.code ++ le 2 p.pieces ++ le 2 p.target ++
    opt 1 (fun c : Closing => le 1 c.label.code) p.closing

/-- The classes in order. -/
def allClasses : List (Fin 4) := [0, 1, 2, 3]

/-- What STACKER-QUERY carries of one held board (R144). -/
def heldFields (h : HeldBoard) : List Byte := le 2 h.number ++ le 2 h.charge ++ le 1 h.cls.val ++ le 2 h.length

/-- The fields of STACKER-QUERY (R144). The hold list, its last list, is cut to what a reply holds together with the
overflow count that follows it (R181). -/
def stackerFields (s : State) : List Byte :=
  let header :=
    (s.packs.bays.toList.map (orMark bayFields)).flatten ++ (s.packs.targets.toList.map (le 2)).flatten ++
      (allClasses.map fun c => flagByte (s.packs.hasPlace c)).flatten
  let overflow := le 2 s.packs.overflow
  let kept := fitting (239 - (header.length + 1 + overflow.length)) (s.packs.held.map heldFields)
  header ++ BitVec.ofNat 8 kept.length :: kept.flatten ++ overflow

/-! ## The commands -/

def execPackClose (tag : Byte) (payload : List Byte) (s : State) : Host.Outcome State Fault Refusal :=
  .next (request 0x23 tag payload (actPackClose payload) s)

def execPackTarget (tag : Byte) (payload : List Byte) (s : State) : Host.Outcome State Fault Refusal :=
  .next (request 0x24 tag payload (actPackTarget payload) s)

def execBayCleared (tag : Byte) (payload : List Byte) (s : State) : Host.Outcome State Fault Refusal :=
  .next (request 0x25 tag payload (actBayCleared payload) s)

def execPackQuery (tag : Byte) (payload : List Byte) (s : State) : Host.Outcome State Fault Refusal :=
  .next (request 0x26 tag payload (actPackQuery payload) s)

def execStackerQuery (tag : Byte) (payload : List Byte) (s : State) : Host.Outcome State Fault Refusal :=
  .next (request 0x27 tag payload (replyOnly stackerFields) s)

end Sys2Proof.Machine
end

