-- ==== Sys2Proof/Machine/Labels.lean ====
section
/-! DEFINITION. The commands of the label unit (chapter 9). -/

namespace Sys2Proof.Machine

def actReprint (payload : List Byte) (s : State) : State × List Byte :=
  match readPack payload with
  | none => refuse .badArg s
  | some n =>
    match s.packs.printedBay n with
    | none => refuse .notFound s
    | some b =>
      if 4 ≤ s.labels.queue.length then refuse .full s
      else
        done (joinLabels b n true
          (s.modBay b fun p =>
            { p with closing := p.closing.map fun c => { c with reprints := min 255 (c.reprints + 1) } }))

/-- A line of the printer that is no answer, or too long, is discarded; one that reads as an answer is that answer
(R152, R196). -/
def otherLine (line : List Byte) (s : State) : State :=
  match printerAnswer line with
  | some a => printerAnswered a s
  | none => s

/-- What LABEL-QUERY carries of one entry (R157). -/
def entryFields (e : LabelEntry) : List Byte :=
  le 4 e.pack ++ flagByte e.reprint ++ le 2 e.transmissions ++ flagByte e.nakResendUsed ++ flagByte e.timeoutReported

/-- The fields of LABEL-QUERY (R157). -/
def labelFields (s : State) : List Byte :=
  le 1 s.labels.link.code ++ wireList entryFields s.labels.queue ++ wireList (fun w : WaitingPack => le 4 w.pack) s.labels.waiting ++
    opt 4 (le 4) (s.labels.head.map (·.pack))

/-! ## The commands -/

def execLabelEndSent (s : State) : Host.Outcome State Fault Refusal := .next (event labelSent s)

def execAckReceived (s : State) : Host.Outcome State Fault Refusal := .next (event (printerAnswered .ack) s)

def execNakReceived (s : State) : Host.Outcome State Fault Refusal := .next (event (printerAnswered .nak) s)

def execBusyReceived (s : State) : Host.Outcome State Fault Refusal := .next (event (printerAnswered .busy) s)

def execPrinterLineOther (line : List Byte) (s : State) : Host.Outcome State Fault Refusal :=
  .next (event (otherLine line) s)

def execAnswerTimeout (s : State) : Host.Outcome State Fault Refusal := .next (event labelUnanswered s)

def execRetryTimerExpiry (s : State) : Host.Outcome State Fault Refusal := .next (event labelRetry s)

def execReprint (tag : Byte) (payload : List Byte) (s : State) : Host.Outcome State Fault Refusal :=
  .next (request 0x28 tag payload (actReprint payload) s)

def execLabelQuery (tag : Byte) (payload : List Byte) (s : State) : Host.Outcome State Fault Refusal :=
  .next (request 0x29 tag payload (replyOnly labelFields) s)

end Sys2Proof.Machine
end

