-- ==== Sys2Proof/Machine/Store.lean ====
section
/-! DEFINITION. The commands of the settings store (chapter 1). -/

namespace Sys2Proof.Machine

/-! ## Places -/

def State.setSlot (n : Fin 16) (v : Slot) (s : State) : State := s.modStore fun t => { t with slots := t.slots.set n v }

def State.setSpecies (n : Fin 8) (v : SpeciesPlace) (s : State) : State :=
  s.modStore fun t => { t with species := t.species.set n v }

/-- A write joins the tail of the write queue (R2, R8). -/
def State.queueWrite (w : Write) (s : State) : State := s.modStore fun t => { t with writes := t.writes ++ [w] }

/-- The content kept for lending while a species entry is WRITING: what it held if it was PRESENT (R8). -/
def SpeciesPlace.kept : SpeciesPlace → Option SpeciesEntry
  | .present e => some e
  | .writing former => former
  | .absent | .invalid => none

/-! ## Schedules (R2, R5, R6) -/

def actScheduleStore (payload : List Byte) (s : State) : State × List Byte :=
  match readSlotFirst payload with
  | none => refuse .badArg s
  | some n =>
    if s.store.slots[n] = .writing then refuse .busy s
    else
      match readSchedule payload.tail with
      | none => refuse .badArg s
      | some r => done ((s.setSlot n .writing).queueWrite (.schedule n r))

def actScheduleRead (payload : List Byte) (s : State) : State × List Byte :=
  match readNumber 16 payload with
  | none => refuse .badArg s
  | some n =>
    match s.store.slots[n].lend with
    | .ok r => replyOnly (fun _ => r.wire) s
    | .error e => refuse e s

def actScheduleErase (payload : List Byte) (s : State) : State × List Byte :=
  match readNumber 16 payload with
  | none => refuse .badArg s
  | some n => if s.store.slots[n] = .writing then refuse .busy s else done (s.setSlot n .empty)

/-! ## Species (R8, R9) -/

def actSpeciesStore (payload : List Byte) (s : State) : State × List Byte :=
  match readSpeciesFirst payload with
  | none => refuse .badArg s
  | some n =>
    if s.store.species[n].isWriting then refuse .busy s
    else
      match readSpecies payload.tail with
      | none => refuse .badArg s
      | some e => done ((s.setSpecies n (.writing s.store.species[n].kept)).queueWrite (.species n e))

def actSpeciesRead (payload : List Byte) (s : State) : State × List Byte :=
  match readNumber 8 payload with
  | none => refuse .badArg s
  | some n =>
    match s.store.species[n] with
    | .present e => replyOnly (fun _ => e.wire) s
    | .writing _ => refuse .busy s
    | .absent | .invalid => refuse .notFound s

def actSpeciesErase (payload : List Byte) (s : State) : State × List Byte :=
  match readNumber 8 payload with
  | none => refuse .badArg s
  | some n => if s.store.species[n].isWriting then refuse .busy s else done (s.setSpecies n .absent)

/-! ## Query and completion (R15, R4) -/

def storeFields (s : State) : List Byte :=
  (s.store.slots.toList.map fun v => le 1 v.code).flatten ++ (s.store.species.toList.map fun v => le 1 v.code).flatten ++
    le 2 s.store.nextCharge ++ le 4 s.store.nextPack ++ le 1 s.store.writes.length

def Write.location : Write → Location
  | .schedule n _ => .schedule n
  | .species n _ => .species n

/-- The location of a completed write after its verify (R4). -/
def settleLocation (w : Write) (good : Bool) (s : State) : State :=
  match w with
  | .schedule n r => s.setSlot n (if good then .valid r else .invalid)
  | .species n e => s.setSpecies n (if good then .present e else .invalid)

/-- Completion of the write at the head (R4). Nothing completes while the queue is empty. -/
def completeWrite (good : Bool) (s : State) : State :=
  match s.store.writes with
  | [] => s
  | w :: rest =>
    let s := settleLocation w good (s.modStore fun t => { t with writes := rest })
    let s := if good then s else raise .storeWriteFail .system (.system (some w.location)) s
    serve (queueReport (.storeDone w.location good) s)

/-! ## The commands -/

def execScheduleStore (tag : Byte) (payload : List Byte) (s : State) : Host.Outcome State Fault Refusal :=
  .next (request 0x01 tag payload (actScheduleStore payload) s)

def execScheduleRead (tag : Byte) (payload : List Byte) (s : State) : Host.Outcome State Fault Refusal :=
  .next (request 0x02 tag payload (actScheduleRead payload) s)

def execScheduleErase (tag : Byte) (payload : List Byte) (s : State) : Host.Outcome State Fault Refusal :=
  .next (request 0x03 tag payload (actScheduleErase payload) s)

def execSpeciesStore (tag : Byte) (payload : List Byte) (s : State) : Host.Outcome State Fault Refusal :=
  .next (request 0x04 tag payload (actSpeciesStore payload) s)

def execSpeciesRead (tag : Byte) (payload : List Byte) (s : State) : Host.Outcome State Fault Refusal :=
  .next (request 0x05 tag payload (actSpeciesRead payload) s)

def execSpeciesErase (tag : Byte) (payload : List Byte) (s : State) : Host.Outcome State Fault Refusal :=
  .next (request 0x06 tag payload (actSpeciesErase payload) s)

def execStoreQuery (tag : Byte) (payload : List Byte) (s : State) : Host.Outcome State Fault Refusal :=
  .next (request 0x07 tag payload (replyOnly storeFields) s)

def execStoreWriteComplete (verifyGood : Bool) (s : State) : Host.Outcome State Fault Refusal :=
  .next (event (completeWrite verifyGood) s)

end Sys2Proof.Machine
end

