-- ==== Sys2Proof/Machine/Supervision.lean ====
section
/-! DEFINITION. The supervision timer, the plant clock, the subscription and the start-cause flags: the items of the message
port that concern the part as a whole (sections 11.5 to 11.9). -/

namespace Sys2Proof.Machine

/-! ## Supervision (R187 to R190) -/

/-- What an expiry delivers by its mode (R190 step 4). -/
def supervisionActs (mode : SuperviseMode) (s : State) : State :=
  match mode with
  | .holdAll => trip .supervision (applyCauses .hold 3 .supervision allKilns s)
  | .notify => s

/-- Expiry of an armed timer (R190). -/
def expire (v : Supervision) (s : State) : State :=
  let s := s.modPort fun p =>
    { p with latch := true, expiredSinceCold := true, supervision := some { v with remaining := 0 } }
  let s := raise .supervisionExpired .system (.system none) s
  supervisionActs v.mode (queueReport (.supervision .expired v.mode v.unit v.count) s)

/-- Remaining reaches 0 now: only an armed timer with its latch clear expires (R188, R190). -/
def supervisionReached (s : State) : State :=
  match s.port.supervision with
  | some v => if s.port.latch then s else expire v s
  | none => s

/-- The countdown of one second tick (R188). -/
def supervisionSecond (s : State) : State :=
  match s.port.supervision with
  | none => s
  | some v =>
    if s.port.latch || s.frozen then s
    else if v.remaining ≤ 1 then expire v s
    else s.modPort fun p => { p with supervision := some { v with remaining := v.remaining - 1 } }

def actSuperviseArm (payload : List Byte) (s : State) : State × List Byte :=
  match readSupervision payload with
  | none => refuse .badArg s
  | some v =>
    if s.port.supervision.isSome then refuse .locked s
    else done (s.modPort fun p => { p with supervision := some v })

/-- Remaining reloaded with count × unit (R189). -/
def Supervision.reload (v : Supervision) : Supervision := { v with remaining := v.count * v.unit }

def actSuperviseRefresh (s : State) : State × List Byte :=
  match s.port.supervision with
  | none => refuse .state s
  | some v =>
    let was := s.port.latch
    let s := s.modPort fun p => { p with supervision := some v.reload, latch := false }
    done (if was then queueReport (.supervision .cleared v.mode v.unit v.count) s else s)

/-! ## Clock and ticks (R194) -/

/-- The plant clock and the minute divider at a second tick (R194). -/
def Port.second (p : Port) : Port :=
  { p with clock := (p.clock + 1) % 4294967296, divider := if 59 ≤ p.divider then 0 else p.divider + 1 }

/-- The polls of a list in kiln order, for one kiln the climate poll before the scan (R87). -/
def inKilnOrder (polls : List PollEntry) : List PollEntry :=
  allKilns.flatMap fun k =>
    (polls.filter fun e => decide (e.kiln = k) && decide (e.kind = .climate)) ++
      (polls.filter fun e => decide (e.kiln = k) && decide (e.kind = .scan))

/-- The polls that joined behind the first `before` fell due in one event, so they stand in kiln order (R87). -/
def orderJoined (before : Nat) (s : State) : State :=
  { s with bus := { s.bus with
      pendingPolls := s.bus.pendingPolls.take before ++ inKilnOrder (s.bus.pendingPolls.drop before) } }

/-- A second tick: the clock and divider, then each kiln's climate timer and, where the divider passes from 59 to 0, its
minute, then the supervision countdown. The polls that fell due in the tick, those of an expiry among them, join the list in
kiln order (R194, R85, R86, R87, R62, R188; log entry 5). -/
def secondTick (s : State) : State :=
  let minute := decide (59 ≤ s.port.divider)
  let waiting := s.bus.pendingPolls.length
  let s := s.modPort Port.second
  let s := eachKiln (fun k s => let s := climateSecond k s; if minute then kilnMinute k s else s) s
  serve (orderJoined waiting (supervisionSecond s))

def actSetClock (payload : List Byte) (s : State) : State × List Byte :=
  match readClock payload with
  | none => refuse .badArg s
  | some n => done (s.modPort fun p => { p with clock := n, clockSet := true })

/-! ## Subscription and start causes (R186, R191) -/

/-- The sets after a SUBSCRIBE (R186). -/
def Port.subscribe (r : Subscription) (p : Port) : Port :=
  { p with subscribed := if r.replace then r.kinds else p.subscribed ||| r.kinds, highKinds := r.high }

def actSubscribe (payload : List Byte) (s : State) : State × List Byte :=
  match readSubscription payload with
  | none => refuse .badArg s
  | some r =>
    let s := s.modPort (Port.subscribe r)
    doneWith (le 2 s.port.subscribed.toNat ++ le 2 s.port.highKinds.toNat) s

def actClearStartCauses (s : State) : State × List Byte :=
  done (s.modPort fun p => { p with causes := ⟨false, false, false, false⟩ })

/-- RESTART: the port takes no further request (R192). -/
def actRestart (s : State) : State × List Byte := done (s.modPort fun p => { p with restart := .awaitingReply })

/-! ## STATUS-QUERY (R195) -/

/-- FREE, OPEN, CLOSED or LABELLED (R195). -/
def bayCode : Option Pack → Nat
  | none => 0
  | some p => p.state.code + 1

/-- The fields of STATUS-QUERY (R195). The three supervision flags, and the two flags of each domain, carry one byte each:
DESIGN CHOICE (log entry 7). -/
def statusFields (s : State) : List Byte :=
  let v := s.port.supervision
  s.port.causes.wire ++ le 4 s.port.clock ++ flagByte s.port.clockSet ++
    flagByte v.isSome ++ opt 1 (le 1) (v.map (·.unit)) ++ opt 1 (le 1) (v.map (·.count)) ++
    opt 1 (fun m : SuperviseMode => le 1 m.code) (v.map (·.mode)) ++ opt 1 flagByte (v.map (·.standbyPause)) ++
    opt 2 (le 2) (v.map (·.remaining)) ++ flagByte s.frozen ++ flagByte s.port.latch ++ flagByte s.port.expiredSinceCold ++
    (s.kilns.toList.map fun c => le 1 c.state.code ++ le 1 c.level).flatten ++
    le 1 s.line.state.code ++ (s.packs.bays.toList.map fun b => le 1 (bayCode b)).flatten ++
    le 1 s.labels.queue.length ++ le 1 s.line.queue.length ++ le 1 s.port.reports.length ++ flagByte s.port.gap ++
    (s.faults.logs.toList.map fun l => flagByte l.first.isSome ++ flagByte l.overflow).flatten

end Sys2Proof.Machine
end

