-- ==== Sys2Proof/Machine/Terminals.lean ====
section
/-! DEFINITION. The commands of the line terminal block (chapter 6). -/

namespace Sys2Proof.Machine

/-! ## TERMINAL-ASSIGN (R100, R101) -/

/-- The terminals in order. -/
def allTerminals : List (Fin 16) := [0, 1, 2, 3, 4, 5, 6, 7, 8, 9, 10, 11, 12, 13, 14, 15]

/-- A function held by another terminal (R100 stage 3). -/
def State.heldElsewhere (f : TermFn) (t : Fin 16) (s : State) : Bool :=
  allTerminals.any fun u => decide (u ≠ t) && decide (s.terminals[u].fn = f)

/-- The eye a function serves. -/
def TermFn.eye? : TermFn → Option Eye
  | .infeedEye => some .infeed
  | .outfeedEye => some .outfeed
  | _ => none

/-- The demand an output function drives (R106). -/
def State.demand (f : TermFn) (s : State) : Bool :=
  match f with
  | .redryGate => s.line.redryDemand
  | .rejectGate => s.line.rejectDemand
  | .lineStop => s.line.stopDemand
  | _ => false

/-- The view of an eye set to a level, where the function is an eye (R101 steps 1 and 5). -/
def setFunctionView (f : TermFn) (level : Bool) (s : State) : State :=
  match f.eye? with
  | some e => setEyeView e level s
  | none => s

/-- The electrical level at the pin when a digital input takes it over: known while the old function took the pin in,
otherwise the plant's, a free value (R101 step 4, log entry 8). -/
def State.pinFound (t : Fin 16) (s : State) : Bool :=
  if s.terminals[t].fn.digitalInput then s.terminals[t].pinHigh else Config.releasedPinHigh s.freeCount

/-- The record after an assignment (R101 steps 1 to 4). -/
def assigned (a : Assignment) (s : State) : Terminal :=
  let old := s.terminals[a.terminal]
  let base : Terminal :=
    { old with
      fn := a.fn, polarity := a.polarity, edges := a.edges, conversion := none, drive := none, waiting := none }
  if a.fn.digitalInput then
    { base with pinHigh := s.pinFound a.terminal, input := a.polarity.through (s.pinFound a.terminal) }
  else if a.fn.analogue then
    { base with input := false, conversion := some (Config.firstConversion s.freeCount).toNat }
  else if a.fn = .generalOut then base.driven old.stored
  else base.driven (s.demand a.fn)

/-- An accepted TERMINAL-ASSIGN (R101). -/
def assignTerminal (a : Assignment) (s : State) : State :=
  let s := setFunctionView s.terminals[a.terminal].fn false s
  let t := assigned a s
  let s := { s.modTerminal a.terminal (fun _ => t) with freeCount := s.freeCount + 1 }
  setFunctionView a.fn t.input s

def actTerminalAssign (payload : List Byte) (s : State) : State × List Byte :=
  match readAssignment payload with
  | none => refuse .badArg s
  | some a =>
    if a.fn.analogue ∧ a.terminal.val < 12 then refuse .badArg s
    else if a.fn.isLine ∧ s.heldElsewhere a.fn a.terminal then refuse .inUse s
    else if (a.fn.isLine ∨ s.terminals[a.terminal].fn.isLine) ∧ s.line.state.atRest = false then refuse .state s
    else done (assignTerminal a s)

/-! ## TERMINAL-SET and TERMINAL-READ (R102, R107) -/

def actTerminalSet (payload : List Byte) (s : State) : State × List Byte :=
  match readLevel payload with
  | none => refuse .badArg s
  | some (t, level) =>
    match s.terminals[t].fn with
    | .generalOut => done (s.modTerminal t fun r => ({ r with stored := level } : Terminal).driven level)
    | .generalIn => done (s.modTerminal t fun r => { r with stored := level })
    | .infeedEye | .outfeedEye | .encoder | .meterFault | .meterIn | .tempIn | .redryGate | .rejectGate | .lineStop =>
      refuse .assigned s

def terminalFields (s : State) : List Byte := (s.terminals.toList.map Terminal.wire).flatten

/-! ## Pins (R103, R104, R105) -/

/-- A pin change of a GENERAL_IN terminal: a level other than the one taken waits for 5 ms, and a return to the taken
level drops what waits (R103). -/
def Terminal.pinChanged (high : Bool) (t : Terminal) : Terminal :=
  if t.pinHigh = high then t
  else { t with pinHigh := high, waiting := if t.polarity.through high = t.input then none else some high }

def generalInPin (t : Fin 16) (high : Bool) (s : State) : State :=
  if s.terminals[t].fn = .generalIn then s.modTerminal t (Terminal.pinChanged high) else s

/-- A level held for 5 ms is taken (R103). -/
def generalInTaken (t : Fin 16) (s : State) : State :=
  let r := s.terminals[t]
  match r.fn, r.waiting with
  | .generalIn, some high =>
    let level := r.polarity.through high
    let counts := decide (level ≠ r.input) && r.edges.selects level
    let n := if counts then (r.edgeCount + 1) % 65536 else r.edgeCount
    let s := s.modTerminal t fun r => { r with waiting := none, input := level, edgeCount := n }
    if counts then queueReport (.terminalEdge t level n s.now) s else s
  | _, _ => s

/-- A terminal's pin takes an electrical level, and the input level follows (R104). -/
def takePin (t : Fin 16) (high : Bool) (s : State) : State :=
  s.modTerminal t fun r => { r with pinHigh := high, input := r.polarity.through high }

/-- METER_FAULT follows its pin, with no edge handed on (R104). -/
def meterFaultPin (high : Bool) (s : State) : State :=
  match s.holder .meterFault with
  | some t => takePin t high s
  | none => s

/-- The function a converter serves (R105). -/
def servedBy : Converter → TermFn
  | .a => .meterIn
  | .b => .tempIn

/-- A completed conversion replaces the conversion value; a converter with no terminal is stopped (R105). -/
def conversionDone (c : Converter) (count : Nat) (s : State) : State :=
  match s.holder (servedBy c) with
  | some t => s.modTerminal t fun r => { r with conversion := some count }
  | none => s

/-! ## The commands -/

def execTerminalAssign (tag : Byte) (payload : List Byte) (s : State) : Host.Outcome State Fault Refusal :=
  .next (request 0x1B tag payload (actTerminalAssign payload) s)

def execTerminalSet (tag : Byte) (payload : List Byte) (s : State) : Host.Outcome State Fault Refusal :=
  .next (request 0x1C tag payload (actTerminalSet payload) s)

def execTerminalRead (tag : Byte) (payload : List Byte) (s : State) : Host.Outcome State Fault Refusal :=
  .next (request 0x1D tag payload (replyOnly terminalFields) s)

def execGeneralInPinChange (terminal : Fin 16) (high : Bool) (s : State) : Host.Outcome State Fault Refusal :=
  .next (event (generalInPin terminal high) s)

def execGeneralInFilterExpiry (terminal : Fin 16) (s : State) : Host.Outcome State Fault Refusal :=
  .next (event (generalInTaken terminal) s)

def execMeterFaultInputChange (high : Bool) (s : State) : Host.Outcome State Fault Refusal :=
  .next (event (meterFaultPin high) s)

def execConversionComplete (converter : Converter) (count : BitVec 12) (s : State) :
    Host.Outcome State Fault Refusal :=
  .next (event (conversionDone converter count.toNat) s)

end Sys2Proof.Machine
end

