-- ==== Sys2Proof/Machine/Tracker.lean ====
section
/-! DEFINITION. The commands of the board tracker (chapter 7). -/

namespace Sys2Proof.Machine

/-! ## Eyes and encoder (R104, R119, R120) -/

def Eye.fn : Eye → TermFn
  | .infeed => .infeedEye
  | .outfeed => .outfeedEye

/-- A pin change of an eye: a change of logical level is handed on as an edge; with no holder there are no edges (R104). -/
def eyePin (e : Eye) (high : Bool) (s : State) : State :=
  match s.holder (Eye.fn e) with
  | none => s
  | some t =>
    let level := s.terminals[t].polarity.through high
    let changed := decide (level ≠ s.terminals[t].input)
    let s := takePin t high s
    if changed then eyeEdge e level s else s

/-- The ENCODER terminal takes a logical level (R104). -/
def encoderLevel (t : Fin 16) (level : Bool) (s : State) : State :=
  s.modTerminal t fun r => { r with input := level, pinHigh := r.polarity.through level }

/-- A rising edge of ENCODER (R104, R119). -/
def encoderRises (s : State) : State :=
  match s.holder .encoder with
  | some t => advance (encoderLevel t true s)
  | none => s

/-- A falling edge of ENCODER moves only the input level (R104, R119). -/
def encoderFalls (s : State) : State :=
  match s.holder .encoder with
  | some t => encoderLevel t false s
  | none => s

/-! ## Requests (R109, R112 to R114, R128) -/

def actLineConfig (payload : List Byte) (s : State) : State × List Byte :=
  match readLineConfig payload with
  | none => refuse .badArg s
  | some cfg => if s.line.state.atRest then done (s.modLine fun l => { l with config := cfg }) else refuse .state s

/-- The clearing of a start that carries CLEAR_TRACKING (R112, R113). -/
def clearIf (clear : Bool) (s : State) : State := if clear then clearTracking s else s

def actLineStart (payload : List Byte) (s : State) : State × List Byte :=
  match readClearTracking payload with
  | none => refuse .badArg s
  | some clear =>
    match s.line.state with
    | .stopped =>
      if s.port.latchHolds then refuse .state s
      else if s.feedCharge.isNone then refuse .state s
      else if !s.functionsHeld then refuse .state s
      else done (enterLine .running none .request (clearIf clear s))
    | .tripped =>
      if s.port.latchHolds then refuse .state s
      else if s.line.queue ≠ [] ∧ clear = false then refuse .state s
      else if !s.functionsHeld then refuse .state s
      else if s.feedCharge.isSome then done (enterLine .running none .request (clearIf clear s))
      else done (enterDraining .request (clearIf clear s))
    | .running | .draining | .blocked => refuse .state s

def actLineStop (s : State) : State × List Byte :=
  match s.line.state with
  | .running | .draining | .blocked => done (enterLine .stopped none .request s)
  | .stopped => done s
  | .tripped => refuse .state s

def actKnifeReset (s : State) : State × List Byte :=
  done (s.modLine fun l => { l with planedLength := 0, knifeFlag := false })

/-! ## LINE-QUERY (R129) -/

/-- What LINE-QUERY carries of one record (R129). -/
def boardFields (s : State) (b : Board) : List Byte :=
  le 2 b.number ++ opt 2 (le 2) b.charge ++ wireMm (s.leading b) ++ opt 2 (le 2) b.length ++ le 1 b.pairs.length ++
    flagByte b.meterFault ++ b.decision.wire

/-- The fields of LINE-QUERY before its list (R129). -/
def lineHeader (s : State) : List Byte :=
  let l := s.line
  le 1 l.state.code ++ opt 1 (fun r : ReturnState => le 1 r.code) l.returnTo ++
    opt 2 (le 2) (s.feedCharge.map ChargeRecord.number) ++ l.config.wire ++ le 6 l.position ++ flagByte l.infeed.taken ++
    flagByte l.outfeed.taken ++ le 1 l.infeedCondition.code ++ flagByte l.redryDemand ++ flagByte l.rejectDemand ++
    flagByte l.stopDemand ++ le 4 l.planedLength ++ flagByte l.knifeFlag ++ le 4 l.uncharged ++ le 2 l.nextBoard

/-- LINE-QUERY, its list cut to what a reply holds (R129, R181). -/
def lineFields (s : State) : List Byte := endingInList (lineHeader s) (s.line.queue.map (boardFields s))

/-! ## The commands -/

def execEyeChange (eye : Eye) (high : Bool) (s : State) : Host.Outcome State Fault Refusal :=
  .next (event (eyePin eye high) s)

def execEncoderPulse (s : State) : Host.Outcome State Fault Refusal := .next (event encoderRises s)

def execEncoderFallingEdge (s : State) : Host.Outcome State Fault Refusal := .next (event encoderFalls s)

def execLineConfig (tag : Byte) (payload : List Byte) (s : State) : Host.Outcome State Fault Refusal :=
  .next (request 0x1E tag payload (actLineConfig payload) s)

def execLineStart (tag : Byte) (payload : List Byte) (s : State) : Host.Outcome State Fault Refusal :=
  .next (request 0x1F tag payload (actLineStart payload) s)

def execLineStop (tag : Byte) (payload : List Byte) (s : State) : Host.Outcome State Fault Refusal :=
  .next (request 0x20 tag payload actLineStop s)

def execKnifeReset (tag : Byte) (payload : List Byte) (s : State) : Host.Outcome State Fault Refusal :=
  .next (request 0x21 tag payload actKnifeReset s)

def execLineQuery (tag : Byte) (payload : List Byte) (s : State) : Host.Outcome State Fault Refusal :=
  .next (request 0x22 tag payload (replyOnly lineFields) s)

end Sys2Proof.Machine
end

