-- ==== Sys2Proof/Machine/Port.lean ====
section
/-! DEFINITION. The commands of the message port (chapter 11), and the taking of requests that wait in its buffer. -/

namespace Sys2Proof.Machine

/-! ## Taking a waiting request (R176, R180) -/

/-- The act of an assigned request kind (R176). -/
def actOf (kind : Nat) (payload : List Byte) : Option (State → State × List Byte) :=
  match kind with
  | 0x01 => some (actScheduleStore payload)
  | 0x02 => some (actScheduleRead payload)
  | 0x03 => some (actScheduleErase payload)
  | 0x04 => some (actSpeciesStore payload)
  | 0x05 => some (actSpeciesRead payload)
  | 0x06 => some (actSpeciesErase payload)
  | 0x07 => some (replyOnly storeFields)
  | 0x08 => some (actChargeCreate payload)
  | 0x09 => some (actChargeClose payload)
  | 0x0A => some (actChargeQuery payload)
  | 0x0B => some (replyOnly chargeListFields)
  | 0x0C => some (actFeed payload)
  | 0x0D => some actFeedEnd
  | 0x0E => some (actKilnConfig payload)
  | 0x0F => some (actKilnLoad payload)
  | 0x10 => some (actSampleDefine payload)
  | 0x11 => some (actSampleExclude payload)
  | 0x12 => some (actSampleInclude payload)
  | 0x13 => some (actKilnStart payload)
  | 0x14 => some (actKilnAdvance payload)
  | 0x15 => some (actKilnHold payload)
  | 0x16 => some (actKilnPark payload)
  | 0x17 => some (actKilnResume payload)
  | 0x18 => some (actKilnUnload payload)
  | 0x19 => some (actKilnQuery payload)
  | 0x1A => some (replyOnly busFields)
  | 0x1B => some (actTerminalAssign payload)
  | 0x1C => some (actTerminalSet payload)
  | 0x1D => some (replyOnly terminalFields)
  | 0x1E => some (actLineConfig payload)
  | 0x1F => some (actLineStart payload)
  | 0x20 => some actLineStop
  | 0x21 => some actKnifeReset
  | 0x22 => some (replyOnly lineFields)
  | 0x23 => some (actPackClose payload)
  | 0x24 => some (actPackTarget payload)
  | 0x25 => some (actBayCleared payload)
  | 0x26 => some (actPackQuery payload)
  | 0x27 => some (replyOnly stackerFields)
  | 0x28 => some (actReprint payload)
  | 0x29 => some (replyOnly labelFields)
  | 0x2A => some (actFaultConfig payload)
  | 0x2B => some (actFaultActions payload)
  | 0x2C => some (actFaultLogClear payload)
  | 0x2D => some (actFaultCountClear payload)
  | 0x2E => some (actFaultQuery payload)
  | 0x2F => some (replyOnly faultConfigFields)
  | 0x30 => some (actSubscribe payload)
  | 0x31 => some (actSuperviseArm payload)
  | 0x32 => some actSuperviseRefresh
  | 0x33 => some (actSetClock payload)
  | 0x34 => some actClearStartCauses
  | 0x35 => some (replyOnly statusFields)
  | 0x36 => some actRestart
  | _ => none

/-- The reply UNKNOWN to a request of an unassigned kind (R176, R180). -/
def answerUnknown (tag : Byte) (s : State) : State := pushReply ⟨0x80, tag, [Status.unknown.byte]⟩ s

/-- A frame that leaves the head of the buffer is acted on and answered (R180). -/
def respond (f : Frame) (s : State) : State :=
  match actOf f.kind.toNat f.payload with
  | some act => answer f.kind f.tag act s
  | none => answerUnknown f.tag s

/-- The port takes waiting requests while it can, each as an event of its own (R180); `n` bounds their number. -/
def takeRequests : Nat → State → State
  | 0, s => s
  | n + 1, s =>
    match s.port.requests with
    | [] => s
    | f :: rest =>
      if s.port.canTake then
        takeRequests n (event (fun s => respond f (s.modPort fun p => { p with requests := rest })) s)
      else s

/-- All the requests that wait and can be taken now (R180). -/
def pump (s : State) : State := takeRequests s.port.requests.length s

/-! ## The receiver (R178, R179, R192) -/

/-- The tests of a completed frame (R179). -/
def testFrame (f : Frame) (check : BitVec 16) (s : State) : State :=
  if f.crc ≠ check ∨ 0x80 ≤ f.kind.toNat then raise .frameCheck .links (.links none (some f.kind)) s
  else joinRequests f s

def State.setReceiver (r : Receiver) (s : State) : State := s.modPort fun p => { p with receiver := r }

/-- A completed frame reaches the port: after the tests the receiver hunts again, and a request that can be taken is. A
receiver that ignores the line, until it is idle after a warm start, completes no frame (R192, R193). -/
def completeFrame (f : Frame) (check : BitVec 16) (s : State) : State :=
  if s.port.receiver = .ignoring then beginTransmit (takeOwed s)
  else pump (event (fun s => testFrame f check (s.setReceiver .hunt)) s)

/-- What a byte makes of the receiver: its next phase, and the frame it completes, if any (R178). -/
def Receiver.take (b : Byte) : Receiver → Receiver × Option (Frame × BitVec 16)
  | .hunt => (if b = 0xA5 then .length else .hunt, none)
  | .huntAfterGap => (.hunt, none)
  | .length => (if b.toNat ≤ 240 then .body b [] else .hunt, none)
  | .body len taken =>
    if taken.length + 1 = len.toNat + 2 then (.check len (taken ++ [b]) none, none) else (.body len (taken ++ [b]), none)
  | .check len taken none => (.check len taken (some b), none)
  | .check _ taken (some low) =>
    (.hunt,
      match taken with
      | kind :: tag :: payload => some (⟨kind, tag, payload⟩, b ++ low)
      | _ => none)
  | .ignoring => (.ignoring, none)

/-- A byte on the host receive line (R178). -/
def takeByte (b : Byte) (s : State) : State :=
  match s.port.receiver.take b with
  | (_, some (f, check)) => completeFrame f check s
  | (r, none) => beginTransmit ((takeOwed s).setReceiver r)

/-- A gap of more than 10 ms (R178): the byte that ends it is discarded. -/
def Receiver.gap : Receiver → Receiver
  | .length | .body _ _ | .check _ _ _ => .huntAfterGap
  | .hunt => .hunt
  | .huntAfterGap => .huntAfterGap
  | .ignoring => .ignoring

/-- A byte without its stop bit (R178). -/
def Receiver.spoiled : Receiver → Receiver
  | .length | .body _ _ | .check _ _ _ | .hunt | .huntAfterGap => .hunt
  | .ignoring => .ignoring

/-- The receive line returns to its idle level (R192). -/
def Receiver.idled : Receiver → Receiver
  | .ignoring => .hunt
  | .hunt => .hunt
  | .huntAfterGap => .huntAfterGap
  | .length => .length
  | .body len taken => .body len taken
  | .check len taken low => .check len taken low

def State.modReceiver (f : Receiver → Receiver) (s : State) : State := s.modPort fun p => { p with receiver := f p.receiver }

/-! ## The transmitter (R182, R192) -/

/-- Whether a frame is the reply of RESTART. -/
def Sending.isRestartReply : Sending → Bool
  | .reply f => decide (f.kind = 0xB6)
  | .report _ _ => false

/-- The last byte of the frame being sent has gone (R182); after the RESTART reply the warm start is due (R192). -/
def Port.sent (p : Port) : Port :=
  match p.sending with
  | none => p
  | some m =>
    { p with
      sending := none
      restart := if p.restart = .awaitingReply ∧ m.isRestartReply = true then .due else p.restart }

/-! ## The commands -/

def execFrameReceived (kind tag : Byte) (payload : List Byte) (check : BitVec 16) (s : State) :
    Host.Outcome State Fault Refusal :=
  .next (completeFrame ⟨kind, tag, payload⟩ check s)

def execFrameGapTimeout (s : State) : Host.Outcome State Fault Refusal := .next (event (State.modReceiver Receiver.gap) s)

/-- A request of an unassigned kind (R180). -/
def execUnknownRequest (kind tag : Byte) (payload : List Byte) (s : State) : Host.Outcome State Fault Refusal :=
  .next (event (fun s =>
    if s.port.canTake && s.port.requests.isEmpty then answerUnknown tag s else joinRequests ⟨kind, tag, payload⟩ s) s)

def execTransmitComplete (s : State) : Host.Outcome State Fault Refusal :=
  .next (pump (event (State.modPort Port.sent) s))

/-- The raise owed by the event that opened a gap is taken now (R184). -/
def execReportsDropped (s : State) : Host.Outcome State Fault Refusal := .next (event (fun s => s) s)

def execSubscribe (tag : Byte) (payload : List Byte) (s : State) : Host.Outcome State Fault Refusal :=
  .next (request 0x30 tag payload (actSubscribe payload) s)

def execSuperviseArm (tag : Byte) (payload : List Byte) (s : State) : Host.Outcome State Fault Refusal :=
  .next (request 0x31 tag payload (actSuperviseArm payload) s)

def execSuperviseRefresh (tag : Byte) (payload : List Byte) (s : State) : Host.Outcome State Fault Refusal :=
  .next (request 0x32 tag payload actSuperviseRefresh s)

def execSupervisionExpiry (s : State) : Host.Outcome State Fault Refusal :=
  .next (event (fun s => serve (supervisionReached s)) s)

def execSetClock (tag : Byte) (payload : List Byte) (s : State) : Host.Outcome State Fault Refusal :=
  .next (request 0x33 tag payload (actSetClock payload) s)

def execClearStartCauses (tag : Byte) (payload : List Byte) (s : State) : Host.Outcome State Fault Refusal :=
  .next (request 0x34 tag payload actClearStartCauses s)

def execStatusQuery (tag : Byte) (payload : List Byte) (s : State) : Host.Outcome State Fault Refusal :=
  .next (request 0x35 tag payload (replyOnly statusFields) s)

def execRestart (tag : Byte) (payload : List Byte) (s : State) : Host.Outcome State Fault Refusal :=
  .next (request 0x36 tag payload actRestart s)

def execHostByteReceived (byte : Byte) (s : State) : Host.Outcome State Fault Refusal := .next (takeByte byte s)

def execByteWithoutStopBit (s : State) : Host.Outcome State Fault Refusal :=
  .next (event (State.modReceiver Receiver.spoiled) s)

def execReceiveLineIdle (s : State) : Host.Outcome State Fault Refusal :=
  .next (event (State.modReceiver Receiver.idled) s)

/-- The second tick (R194). -/
def execSecondTick (s : State) : Host.Outcome State Fault Refusal := .next (event secondTick s)

end Sys2Proof.Machine
end

