-- ==== Sys2Proof/Machine/Starts.lean ====
section
/-! DEFINITION. The four starts: what a cold and a warm start make of every block (R14, R51, R52, R82, R83, R97, R98, R108,
R130, R131, R145, R146, R158, R173, R174, R191 to R193). -/

namespace Sys2Proof.Machine

/-- Eight entries from their places. -/
def vec8 {α : Type} (f : Fin 8 → α) : Vector α 8 := #v[f 0, f 1, f 2, f 3, f 4, f 5, f 6, f 7]

/-- Sixteen entries from their places. -/
def vec16 {α : Type} (f : Fin 16 → α) : Vector α 16 :=
  #v[f 0, f 1, f 2, f 3, f 4, f 5, f 6, f 7, f 8, f 9, f 10, f 11, f 12, f 13, f 14, f 15]

/-- Six entries from their places. -/
def vec6 {α : Type} (f : Fin 6 → α) : Vector α 6 := #v[f 0, f 1, f 2, f 3, f 4, f 5]

/-! ## The settings store (R14) -/

/-- A slot after the start check (R14). -/
def Slot.checked (failed : Bool) : Slot → Slot
  | .writing => .invalid
  | .valid r => if failed then .invalid else .valid r
  | .empty => .empty
  | .invalid => .invalid

/-- A species entry after the start check (R14). -/
def SpeciesPlace.checked (failed : Bool) : SpeciesPlace → SpeciesPlace
  | .writing _ => .invalid
  | .present e => if failed then .invalid else .present e
  | .absent => .absent
  | .invalid => .invalid

/-- The store after the start check; both counters stay (R14). -/
def Store.checked (inputs : StartInputs) (t : Store) : Store :=
  { t with
    slots := vec16 fun n => t.slots[n].checked (inputs.failedSlots.getLsbD n.val)
    species := vec8 fun n => t.species[n].checked (inputs.failedSpecies.getLsbD n.val)
    writes := [] }

/-! ## START (R191) -/

/-- START is queued, the last part of every start (R191). -/
def queueStart (warm : Bool) (cause : StartCause) (s : State) : State :=
  queueReport (.start warm cause s.port.causes s.port.clock s.port.clockSet) s

/-! ## Cold starts -/

/-- A cold start (R51, R82, R97, R98, R130, R145, R158, R173, R193). The queue of commands and the model's own counter of
free values are no state of the part. -/
def coldStart (cause : StartCause) (inputs : StartInputs) (s : State) : State :=
  queueStart false cause
    { pending := s.pending
      store := s.store.checked inputs
      charges := coldCharges
      kilns := coldKilns
      bus := coldBus
      terminals := coldTerminals inputs.pins
      line := coldLine
      packs := coldPacks
      labels := coldLabels
      faults := coldFaults
      port := coldPort (causesAfter cause s.port.causes)
      freeCount := s.freeCount }

/-! ## Warm starts -/

/-- A kiln after a warm start: a running phase is held at level 1, and measured values become stale (R83). -/
def Kiln.restarted (c : Kiln) : Kiln :=
  let c := if c.state.running then c.caused .hold 1 else c
  { c with measured := c.measured.map fun m => { m with stale := true } }

/-- The controller after a warm start; a kiln in a scanning state has its scan timer at 0 (R97). -/
def restartedBus (kilns : Vector Kiln 6) : Bus where
  pendingPolls := []
  current := none
  links := vec6 fun k => startedLink (if kilns[k].state.scanning then some 0 else none)

/-- A terminal after a warm start, given the level found at its pin (R108). The line leaves the start STOPPED with an empty
queue, so LINE_STOP is driven asserted and both gates released; a GENERAL_OUT goes on driving its stored level. -/
def Terminal.restarted (pinHigh : Bool) (inputs : StartInputs) (t : Terminal) : Terminal :=
  match t.fn with
  | .generalIn | .infeedEye | .outfeedEye | .encoder | .meterFault =>
    { t with pinHigh := pinHigh, input := t.polarity.through pinHigh, waiting := none }
  | .generalOut => t
  | .meterIn => { t with conversion := some inputs.meterCount.toNat }
  | .tempIn => { t with conversion := some inputs.tempCount.toNat }
  | .redryGate | .rejectGate => t.driven false
  | .lineStop => t.driven true

/-- The tracker's view of a function: its terminal's level, or 0 (R104). -/
def State.view (f : TermFn) (s : State) : Bool :=
  match s.holder f with
  | some t => s.terminals[t].input
  | none => false

/-- The tracker after a warm start, the eyes read afresh (R131). -/
def Line.restarted (infeed outfeed : Bool) (l : Line) : Line :=
  { l with
    state := .stopped
    returnTo := none
    queue := []
    infeed := ⟨infeed, none⟩
    outfeed := ⟨outfeed, none⟩
    infeedCondition := if infeed then .untracked else .clear
    redryDemand := false
    rejectDemand := false
    stopDemand := true }

/-- The charge table after a warm start: the boards of the queue leave it, and every CLOSED record that nothing refers to is
freed (R52). The reports of the freeings are lost with the report queue. -/
def settleRecords (s : State) : State :=
  let s := s.line.queue.foldl
    (fun s b => countCharge b.charge (ChargeRecord.untrack (decide (b.decision = .pending))) s) s
  { s with charges := { s.charges with
      records := vmap (fun o => o.bind fun c => if c.freeable then none else some c) s.charges.records } }

/-- The label unit after a warm start (R158). -/
def LabelUnit.restarted (u : LabelUnit) : LabelUnit := if u.queue.isEmpty then u.idle else u.transmit

/-- The receiver after a warm start: it hunts after the receive line is idle, so it ignores the line until then (R193). A
break holds the line at space, so the line is never idle at its start (R192; log entry 22). -/
def receiverAfter (lineIdle : Bool) : StartCause → Receiver
  | .lineBreak => .ignoring
  | .power | .pin | .restart => if lineIdle then .hunt else .ignoring

/-- The port's own state after a warm start, before START is queued (R193). -/
def Port.restarted (lineIdle : Bool) (cause : StartCause) (p : Port) : Port :=
  { p with
    receiver := receiverAfter lineIdle cause
    requests := []
    replies := []
    reports := []
    sending := none
    restart := .none
    gap := false
    dropOwed := none
    supervision := p.supervision.map fun v => { v with remaining := v.count * v.unit }
    causes := causesAfter cause p.causes }

/-- A warm start (R14, R52, R83, R97, R108, R131, R146, R158, R174, R193). -/
def warmStart (cause : StartCause) (inputs : StartInputs) (s : State) : State :=
  let s := settleRecords s
  let kilns := vmap Kiln.restarted s.kilns
  let s :=
    { s with
      store := s.store.checked inputs
      kilns := kilns
      bus := restartedBus kilns
      terminals := vec16 fun t => s.terminals[t].restarted (inputs.pins.getLsbD t.val) inputs
      labels := s.labels.restarted
      port := s.port.restarted inputs.lineIdle cause }
  queueStart true cause (s.modLine (Line.restarted (s.view .infeedEye) (s.view .outfeedEye)))

/-! ## The commands -/

/-- The warm start of a RESTART is taken when its reply has been sent; it is due at no other time (R192). -/
def execRestartWarmStart (inputs : StartInputs) (s : State) : Host.Outcome State Fault Refusal :=
  .next (event (fun s => if s.port.restart = .due then warmStart .restart inputs s else s) s)

def execBreakWarmStart (inputs : StartInputs) (s : State) : Host.Outcome State Fault Refusal :=
  .next (event (warmStart .lineBreak inputs) s)

def execPowerColdStart (inputs : StartInputs) (s : State) : Host.Outcome State Fault Refusal :=
  .next (beginTransmit (coldStart .power inputs s))

def execPinColdStart (inputs : StartInputs) (s : State) : Host.Outcome State Fault Refusal :=
  .next (beginTransmit (coldStart .pin inputs s))

end Sys2Proof.Machine
end

