-- ==== Sys2Proof/Machine/Dispatch.lean ====
section
/-! DEFINITION. One arm per command: each calls its own meaning. -/

namespace Sys2Proof.Machine

/-- The effect of a command on everything but the queue of commands. -/
def exec (i : Instr) (s : State) : Host.Outcome State Fault Refusal :=
  match i with
  | .scheduleStore tag payload => Sys2Proof.Machine.execScheduleStore tag payload s
  | .scheduleRead tag payload => Sys2Proof.Machine.execScheduleRead tag payload s
  | .scheduleErase tag payload => Sys2Proof.Machine.execScheduleErase tag payload s
  | .speciesStore tag payload => Sys2Proof.Machine.execSpeciesStore tag payload s
  | .speciesRead tag payload => Sys2Proof.Machine.execSpeciesRead tag payload s
  | .speciesErase tag payload => Sys2Proof.Machine.execSpeciesErase tag payload s
  | .storeQuery tag payload => Sys2Proof.Machine.execStoreQuery tag payload s
  | .storeWriteComplete verifyGood => Sys2Proof.Machine.execStoreWriteComplete verifyGood s
  | .chargeCreate tag payload => Sys2Proof.Machine.execChargeCreate tag payload s
  | .chargeClose tag payload => Sys2Proof.Machine.execChargeClose tag payload s
  | .chargeQuery tag payload => Sys2Proof.Machine.execChargeQuery tag payload s
  | .chargeList tag payload => Sys2Proof.Machine.execChargeList tag payload s
  | .feed tag payload => Sys2Proof.Machine.execFeed tag payload s
  | .feedEnd tag payload => Sys2Proof.Machine.execFeedEnd tag payload s
  | .kilnConfig tag payload => Sys2Proof.Machine.execKilnConfig tag payload s
  | .kilnLoad tag payload => Sys2Proof.Machine.execKilnLoad tag payload s
  | .sampleDefine tag payload => Sys2Proof.Machine.execSampleDefine tag payload s
  | .sampleExclude tag payload => Sys2Proof.Machine.execSampleExclude tag payload s
  | .sampleInclude tag payload => Sys2Proof.Machine.execSampleInclude tag payload s
  | .kilnStart tag payload => Sys2Proof.Machine.execKilnStart tag payload s
  | .kilnAdvance tag payload => Sys2Proof.Machine.execKilnAdvance tag payload s
  | .kilnHold tag payload => Sys2Proof.Machine.execKilnHold tag payload s
  | .kilnPark tag payload => Sys2Proof.Machine.execKilnPark tag payload s
  | .kilnResume tag payload => Sys2Proof.Machine.execKilnResume tag payload s
  | .kilnUnload tag payload => Sys2Proof.Machine.execKilnUnload tag payload s
  | .kilnQuery tag payload => Sys2Proof.Machine.execKilnQuery tag payload s
  | .secondTick => Sys2Proof.Machine.execSecondTick s
  | .kilnMinuteTick => Sys2Proof.Machine.execKilnMinuteTick s
  | .climatePollDue kiln => Sys2Proof.Machine.execClimatePollDue kiln s
  | .scanDue kiln => Sys2Proof.Machine.execScanDue kiln s
  | .climateExchangeDone dryBulb wetBulb status => Sys2Proof.Machine.execClimateExchangeDone dryBulb wetBulb status s
  | .weighDone weight => Sys2Proof.Machine.execWeighDone weight s
  | .transferAttemptFailed failure => Sys2Proof.Machine.execTransferAttemptFailed failure s
  | .busQuery tag payload => Sys2Proof.Machine.execBusQuery tag payload s
  | .terminalAssign tag payload => Sys2Proof.Machine.execTerminalAssign tag payload s
  | .terminalSet tag payload => Sys2Proof.Machine.execTerminalSet tag payload s
  | .terminalRead tag payload => Sys2Proof.Machine.execTerminalRead tag payload s
  | .generalInPinChange terminal high => Sys2Proof.Machine.execGeneralInPinChange terminal high s
  | .generalInFilterExpiry terminal => Sys2Proof.Machine.execGeneralInFilterExpiry terminal s
  | .meterFaultInputChange high => Sys2Proof.Machine.execMeterFaultInputChange high s
  | .conversionComplete converter count => Sys2Proof.Machine.execConversionComplete converter count s
  | .eyeChange eye high => Sys2Proof.Machine.execEyeChange eye high s
  | .encoderPulse => Sys2Proof.Machine.execEncoderPulse s
  | .lineConfig tag payload => Sys2Proof.Machine.execLineConfig tag payload s
  | .lineStart tag payload => Sys2Proof.Machine.execLineStart tag payload s
  | .lineStop tag payload => Sys2Proof.Machine.execLineStop tag payload s
  | .knifeReset tag payload => Sys2Proof.Machine.execKnifeReset tag payload s
  | .lineQuery tag payload => Sys2Proof.Machine.execLineQuery tag payload s
  | .packClose tag payload => Sys2Proof.Machine.execPackClose tag payload s
  | .packTarget tag payload => Sys2Proof.Machine.execPackTarget tag payload s
  | .bayCleared tag payload => Sys2Proof.Machine.execBayCleared tag payload s
  | .packQuery tag payload => Sys2Proof.Machine.execPackQuery tag payload s
  | .stackerQuery tag payload => Sys2Proof.Machine.execStackerQuery tag payload s
  | .labelEndSent => Sys2Proof.Machine.execLabelEndSent s
  | .ackReceived => Sys2Proof.Machine.execAckReceived s
  | .nakReceived => Sys2Proof.Machine.execNakReceived s
  | .busyReceived => Sys2Proof.Machine.execBusyReceived s
  | .printerLineOther line => Sys2Proof.Machine.execPrinterLineOther line s
  | .answerTimeout => Sys2Proof.Machine.execAnswerTimeout s
  | .retryTimerExpiry => Sys2Proof.Machine.execRetryTimerExpiry s
  | .reprint tag payload => Sys2Proof.Machine.execReprint tag payload s
  | .labelQuery tag payload => Sys2Proof.Machine.execLabelQuery tag payload s
  | .faultConfig tag payload => Sys2Proof.Machine.execFaultConfig tag payload s
  | .faultActions tag payload => Sys2Proof.Machine.execFaultActions tag payload s
  | .faultLogClear tag payload => Sys2Proof.Machine.execFaultLogClear tag payload s
  | .faultCountClear tag payload => Sys2Proof.Machine.execFaultCountClear tag payload s
  | .faultQuery tag payload => Sys2Proof.Machine.execFaultQuery tag payload s
  | .faultConfigQuery tag payload => Sys2Proof.Machine.execFaultConfigQuery tag payload s
  | .frameReceived kind tag payload check => Sys2Proof.Machine.execFrameReceived kind tag payload check s
  | .frameGapTimeout => Sys2Proof.Machine.execFrameGapTimeout s
  | .unknownRequest kind tag payload => Sys2Proof.Machine.execUnknownRequest kind tag payload s
  | .transmitComplete => Sys2Proof.Machine.execTransmitComplete s
  | .reportsDropped => Sys2Proof.Machine.execReportsDropped s
  | .subscribe tag payload => Sys2Proof.Machine.execSubscribe tag payload s
  | .superviseArm tag payload => Sys2Proof.Machine.execSuperviseArm tag payload s
  | .superviseRefresh tag payload => Sys2Proof.Machine.execSuperviseRefresh tag payload s
  | .supervisionExpiry => Sys2Proof.Machine.execSupervisionExpiry s
  | .setClock tag payload => Sys2Proof.Machine.execSetClock tag payload s
  | .clearStartCauses tag payload => Sys2Proof.Machine.execClearStartCauses tag payload s
  | .statusQuery tag payload => Sys2Proof.Machine.execStatusQuery tag payload s
  | .restart tag payload => Sys2Proof.Machine.execRestart tag payload s
  | .restartWarmStart inputs => Sys2Proof.Machine.execRestartWarmStart inputs s
  | .breakWarmStart inputs => Sys2Proof.Machine.execBreakWarmStart inputs s
  | .powerColdStart inputs => Sys2Proof.Machine.execPowerColdStart inputs s
  | .pinColdStart inputs => Sys2Proof.Machine.execPinColdStart inputs s
  | .hostByteReceived byte => Sys2Proof.Machine.execHostByteReceived byte s
  | .byteWithoutStopBit => Sys2Proof.Machine.execByteWithoutStopBit s
  | .receiveLineIdle => Sys2Proof.Machine.execReceiveLineIdle s
  | .encoderFallingEdge => Sys2Proof.Machine.execEncoderFallingEdge s

end Sys2Proof.Machine
end

