-- ==== Sys2Proof/Safety.lean ====
section
/-! DEFINITION. What the claims speak of: a port that takes a request at once, what an event leaves of the port, validity of
the stored records, and the agreements that the rules state of the part at every moment. -/

namespace Sys2Proof.Machine

/-! ## What an event leaves of the port -/

/-- The port takes a request at once (R180) and owes no raise (R184). -/
def State.takesAtOnce (s : State) : Prop :=
  s.port.replies.length < 4 ∧ s.port.restart = .none ∧ s.port.requests = [] ∧ s.port.dropOwed = none

/-- The port after an event: its reports queued in order (R183), its reply at the tail of the reply queue (R180), and the
transmitter begun where it is free (R182). -/
def Port.after (reports : List Report) (reply : Option Frame) (p : Port) : Port :=
  let p := reports.foldl (fun p r => p.queue r) p
  Port.begin { p with replies := p.replies ++ reply.toList }

/-- The state whose port has been through an event with these reports and this reply. -/
def State.after (reports : List Report) (reply : Option Frame) (s : State) : State :=
  { s with port := s.port.after reports reply }

/-- The reply to a request kind (R176). -/
def replyTo (kind tag : Byte) (payload : List Byte) : Option Frame := some ⟨kind + 0x80, tag, payload⟩

/-- One byte of a payload. -/
def byteOf (n : Nat) : Byte := BitVec.ofNat 8 n

/-- The bus serves no poll, or it serves one and the list may wait: the list is empty while no poll is in service (R88). -/
def Bus.settled (b : Bus) : Prop := b.current = none → b.pendingPolls = []

/-- The bus after a poll of a kiln falls due while another is in service, or behind one that falls due with it: the list grows
at its tail unless it holds an entry of the kiln and kind (R87). -/
def Bus.joined (k : Fin 6) (kind : PollKind) (b : Bus) : Bus :=
  if b.pendingPolls.any fun e => decide (e.kiln = k) && decide (e.kind = kind) then b
  else { b with pendingPolls := b.pendingPolls ++ [⟨k, kind, b.links[k].mark⟩] }

/-- The bus after a climate poll of a kiln falls due and the list is served: a free bus begins it at once, with the command
of the kiln as it then stands (R75, R87, R88). -/
def Bus.climateJoined (k : Fin 6) (c : Kiln) (b : Bus) : Bus :=
  match b.current with
  | none => { b with current := some ⟨⟨k, .climate, b.links[k].mark⟩, 1, c.config.address, .climate c.command⟩ }
  | some _ => b.joined k .climate

/-- The bus with the controller's items of one kiln replaced. -/
def Bus.setLink (k : Fin 6) (l : KilnLink) (b : Bus) : Bus := { b with links := b.links.set k l }

/-- The state `t` in which the list of polls that fell due in `s` has been served (R88): a poll in service, or an empty list, leaves
it as it is; a free bus begins the poll at the head, a climate poll with the command of its kiln and a scan with the positions
that are not EMPTY. -/
def State.begins (s t : State) : Prop :=
  (s.bus.current ≠ none ∨ s.bus.pendingPolls = [] → t = s) ∧
  ∀ (e : PollEntry) (rest : List PollEntry) (begun : PollWork → State), s.bus.current = none →
    s.bus.pendingPolls = e :: rest →
    (∀ w, begun w = { s with bus := { s.bus with
      pendingPolls := rest, current := some ⟨e, 1, s.kilns[e.kiln].config.address, w⟩ } }) →
    (e.kind = .climate → t = begun (.climate s.kilns[e.kiln].command)) ∧
    ∀ (p : Fin 8) (ps : List (Fin 8)), e.kind = .scan → s.scanStands e = true →
      positionsOf s.kilns[e.kiln].samples = p :: ps → t = begun (.scan (p :: ps) 0)

/-- The KILN-STATE report of a kiln context (R80). -/
def Kiln.report (k : Fin 6) (cause : KilnCause) (c : Kiln) : Report :=
  .kilnState k c.state c.resume c.level c.charge (c.drying.map (·.stepIndex)) (c.drying.map (·.setpoint))
    (c.drying.map (·.depression)) c.figures.controlling cause

/-- The SAMPLE-UPDATE report of a kiln context (R59). -/
def Kiln.sampleReport (k : Fin 6) (c : Kiln) : Report := .sampleUpdate k c.charge (vmap viewSample c.samples) c.figures

/-- A kiln context with its figures formed anew, where no loss of samples is raised (R23, R59). -/
def Kiln.formed (c : Kiln) : Kiln :=
  let figures := kilnFigures (activeMCs c.samples)
  { c with figures := figures, samplesLost := if figures.controlling.isSome then false else c.samplesLost }

/-- The figures of a kiln are not lost in the sense of R59: a controlling MC can be formed, or the state does not lose it, or
the loss is already recorded. -/
def Kiln.notLost (c : Kiln) : Prop :=
  (kilnFigures (activeMCs c.samples)).controlling.isSome = true ∨ c.state.loses = false ∨ c.samplesLost = true

/-- The line in a state, with the LINE_STOP demand of that state driven at its terminal (R106, R111). -/
def State.lineIn (st : LineState) (ret : Option ReturnState) (s : State) : State :=
  { s with
    line := { s.line with state := st, returnTo := ret, stopDemand := st.stops }
    terminals := vmap (fun r => if r.fn = .lineStop then r.driven st.stops else r) s.terminals }

/-- The LINE-STATE report of the line as it stands (R111). -/
def State.lineReport (cause : LineCause) (s : State) : Report :=
  .lineState s.line.state s.line.returnTo (s.feedCharge.map ChargeRecord.number) cause s.line.queue.length

/-- A rising encoder edge at its terminal, and the position it leaves (R104, R110, R119). -/
def State.pulsed (n : Fin 16) (s : State) : State :=
  { s with
    terminals := s.terminals.set n { s.terminals[n] with input := true, pinHigh := s.terminals[n].polarity.through true }
    line := { s.line with position := (s.line.position + s.line.config.resolution) % 2 ^ 48 } }

/-- No point of a board is reached at the position of the line: it is at its next sample point, its decision point, and each
edge of a gate either not yet or already (R119, R123, R124, R126). -/
def State.atNoPoint (s : State) (b : Board) : Prop :=
  let behind (gate : Nat) : Prop := ∀ x, b.trailing = some x → distanceMm x s.line.position < gate
  (b.decision = .pending → s.leading b < s.line.config.meterPosition + b.nextSample * s.line.config.spacing) ∧
  (b.pastMeter = true ∨ behind s.line.config.meterPosition) ∧
  (b.marks.redryLeading = true ∨ s.leading b < s.line.config.redryGate) ∧
  (b.marks.redryTrailing = true ∨ behind s.line.config.redryGate) ∧
  (b.marks.rejectLeading = true ∨ s.leading b < s.line.config.rejectGate) ∧
  (b.marks.rejectTrailing = true ∨ behind s.line.config.rejectGate)

/-- The state `u` in which a command takes a change of an eye to a level that began at the encoder position `edge` (R120): a pin
change takes it at once where the filter distance is 0; an encoder advance that brings no board to a point takes it once the
line has moved the filter distance past it. -/
def State.takes (e : Eye) (level : Bool) (edge : Nat) (command : Instr) (s u : State) : Prop :=
  (∃ (high : Bool) (n : Fin 16) (waiting : Option Nat), command = .eyeChange e high ∧
    s.holder (match e with | .infeed => .infeedEye | .outfeed => .outfeedEye) = some n ∧
    level = s.terminals[n].polarity.through high ∧ level ≠ s.terminals[n].input ∧ s.line.config.eyeFilter = 0 ∧
    s.line.filter e = ⟨!level, waiting⟩ ∧ edge = waiting.getD s.line.position ∧
    u = { s with
      terminals := s.terminals.set n { s.terminals[n] with pinHigh := high, input := level }
      line := s.line.setFilter e ⟨level, none⟩ }) ∨
  ∃ (n : Fin 16) (v : State), command = .encoderPulse ∧ s.holder .encoder = some n ∧ v = s.pulsed n ∧
    s.line.filter e = ⟨!level, some edge⟩ ∧
    (s.line.filter (match e with | .infeed => .outfeed | .outfeed => .infeed)).waiting = none ∧
    s.line.config.eyeFilter ≤ distanceMm edge v.line.position ∧ (∀ b ∈ s.line.queue, v.atNoPoint b) ∧
    u = { v with line := v.line.setFilter e ⟨level, none⟩ }

/-- The state `v` in which the charge of a board that has left at a gate has one board less in flight, its record freed where
nothing holds it (R43, R46), with the report of the freeing; a board of no charge leaves every record as it is. -/
def State.landed (charge : Option Nat) (s v : State) (freed : List Report) : Prop :=
  (charge.bind (fun n => s.charge? n) = none → v = s ∧ freed = []) ∧
  ∀ (n : Nat) (c : ChargeRecord), charge = some n → s.charge? n = some c →
    (c.state = .closed ∧ c.inFlight ≤ 1 ∧ c.packRefs = 0 →
      v = s.dropCharge n ∧ freed = [({ c with inFlight := c.inFlight - 1 } : ChargeRecord).freedReport]) ∧
    (¬ (c.state = .closed ∧ c.inFlight ≤ 1 ∧ c.packRefs = 0) →
      v = s.modCharge n (fun c => { c with inFlight := c.inFlight - 1 }) ∧ freed = [])

/-- The BOARD-DECIDED report of a board at the position of the line (R124). -/
def State.boardReport (b : Board) (s : State) : Report :=
  .boardDecided b.number b.charge b.length b.decision b.pairs.length (b.figures.bind (·.moisture)) b.meterFault (s.leading b)

/-- What a fault record of a kiln's domain shows of the kiln as it stands (R163). -/
def Kiln.context (c : Kiln) : FaultContext :=
  .kiln c.charge c.state (c.drying.map (·.stepIndex)) (c.drying.map (·.setpoint)) (c.measured.map (·.dryBulb))
    c.figures.controlling

/-- The label queue after a transmission of its head begins, with the record that is sent (R152). -/
def LabelUnit.sends (record : Option LabelRecord) (e : LabelEntry) (rest : List LabelEntry) (u : LabelUnit) : LabelUnit :=
  { u with
    queue := { e with transmissions := min 65535 (e.transmissions + 1) } :: rest, head := record, link := .sending
    answerTimer := none, retryTimer := some 0 }

/-- The command of a request frame by its kind (R176, R180). -/
def requestOf (kind tag : Byte) (payload : List Byte) : Instr :=
  match kind.toNat with
  | 0x01 => .scheduleStore tag payload
  | 0x02 => .scheduleRead tag payload
  | 0x03 => .scheduleErase tag payload
  | 0x04 => .speciesStore tag payload
  | 0x05 => .speciesRead tag payload
  | 0x06 => .speciesErase tag payload
  | 0x07 => .storeQuery tag payload
  | 0x08 => .chargeCreate tag payload
  | 0x09 => .chargeClose tag payload
  | 0x0A => .chargeQuery tag payload
  | 0x0B => .chargeList tag payload
  | 0x0C => .feed tag payload
  | 0x0D => .feedEnd tag payload
  | 0x0E => .kilnConfig tag payload
  | 0x0F => .kilnLoad tag payload
  | 0x10 => .sampleDefine tag payload
  | 0x11 => .sampleExclude tag payload
  | 0x12 => .sampleInclude tag payload
  | 0x13 => .kilnStart tag payload
  | 0x14 => .kilnAdvance tag payload
  | 0x15 => .kilnHold tag payload
  | 0x16 => .kilnPark tag payload
  | 0x17 => .kilnResume tag payload
  | 0x18 => .kilnUnload tag payload
  | 0x19 => .kilnQuery tag payload
  | 0x1A => .busQuery tag payload
  | 0x1B => .terminalAssign tag payload
  | 0x1C => .terminalSet tag payload
  | 0x1D => .terminalRead tag payload
  | 0x1E => .lineConfig tag payload
  | 0x1F => .lineStart tag payload
  | 0x20 => .lineStop tag payload
  | 0x21 => .knifeReset tag payload
  | 0x22 => .lineQuery tag payload
  | 0x23 => .packClose tag payload
  | 0x24 => .packTarget tag payload
  | 0x25 => .bayCleared tag payload
  | 0x26 => .packQuery tag payload
  | 0x27 => .stackerQuery tag payload
  | 0x28 => .reprint tag payload
  | 0x29 => .labelQuery tag payload
  | 0x2A => .faultConfig tag payload
  | 0x2B => .faultActions tag payload
  | 0x2C => .faultLogClear tag payload
  | 0x2D => .faultCountClear tag payload
  | 0x2E => .faultQuery tag payload
  | 0x2F => .faultConfigQuery tag payload
  | 0x30 => .subscribe tag payload
  | 0x31 => .superviseArm tag payload
  | 0x32 => .superviseRefresh tag payload
  | 0x33 => .setClock tag payload
  | 0x34 => .clearStartCauses tag payload
  | 0x35 => .statusQuery tag payload
  | 0x36 => .restart tag payload
  | _ => .unknownRequest kind tag payload

/-- The bytes of a frame arriving one after another (R178). -/
def receiveBytes : List Byte → State → Host.Outcome State Fault Refusal
  | [], s => .next s
  | b :: rest, s =>
    match exec (.hostByteReceived b) s with
    | .next s' => receiveBytes rest s'
    | .fault r => .fault r
    | .refused r => .refused r

/-! ## Validity of stored records (R3, R8) -/

/-- A step entry in the ranges of section 1.2. -/
def ScheduleStep.valid (st : ScheduleStep) : Prop :=
  200 ≤ st.target ∧ st.target ≤ 1200 ∧ 0 ≤ st.depression ∧ st.depression ≤ 300 ∧
    (match st.leave with
      | .mc t => t ≤ 2000
      | .time m => 1 ≤ m ∧ m ≤ 65535) ∧
    (∀ m, st.maxDuration = some m → 1 ≤ m ∧ m ≤ 65535)

/-- A name of 1 to `most` characters 0x20..0x7E. -/
def nameValid (most : Nat) (name : List Byte) : Prop :=
  1 ≤ name.length ∧ name.length ≤ most ∧ ∀ b ∈ name, 0x20 ≤ b.toNat ∧ b.toNat ≤ 0x7E

/-- A schedule record that passes validation (R3): every field in its range, no MC threshold above the MC threshold before
it, and the final target above none. -/
def Schedule.valid (r : Schedule) : Prop :=
  nameValid 12 r.name ∧ r.species < 8 ∧ r.thicknessClass < 10 ∧ r.steps.length ≤ 16 ∧ (∀ st ∈ r.steps, st.valid) ∧
    1 ≤ r.rampRate ∧ r.rampRate ≤ 50 ∧ 40 ≤ r.finalTarget ∧ r.finalTarget ≤ 300 ∧
    0 ≤ r.equaliseDepression ∧ r.equaliseDepression ≤ 300 ∧ r.equaliseTolerance ≤ 50 ∧
    0 ≤ r.conditionDepression ∧ r.conditionDepression ≤ 300 ∧ r.conditionDuration ≤ 1440 ∧
    (mcThresholds r.steps).Pairwise (fun a b => b ≤ a) ∧ ∀ t ∈ mcThresholds r.steps, r.finalTarget ≤ t

/-- A species entry that passes validation (R8 stage 3). -/
def SpeciesEntry.valid (e : SpeciesEntry) : Prop :=
  let points := e.firstPoint :: e.laterPoints
  nameValid 10 e.name ∧ 2 ≤ points.length ∧ points.length ≤ 8 ∧ (∀ p ∈ points, p.raw ≤ 4095 ∧ p.mc ≤ 400) ∧
    points.Pairwise (fun a b => a.raw < b.raw ∧ a.mc ≤ b.mc) ∧ e.coefficient < 256 ∧
    e.dryLimit < e.wetLimit ∧ e.wetLimit ≤ e.spotLimit ∧ e.spotLimit ≤ 400

/-! ## Boards of a charge -/

/-- Boards of a charge in the tracking queue and in the stacker hold list, the boards its in-flight count counts (R46, R47). -/
def State.boardsOf (n : Nat) (s : State) : Nat :=
  s.line.queue.countP (fun b => decide (b.charge = some n)) + s.packs.held.countP (fun h => decide (h.charge = n))

/-- Boards of a charge that stand PENDING in the tracking queue (R48). -/
def State.pendingOf (n : Nat) (s : State) : Nat :=
  s.line.queue.countP fun b => decide (b.charge = some n) && decide (b.decision = .pending)

/-- No number is held by two records (R35). -/
def State.numbersApart (s : State) : Prop :=
  ∀ (i j : Fin 12) (c d : ChargeRecord), s.charges.records[i] = some c → s.charges.records[j] = some d →
    c.number = d.number → i = j

/-- A charge record once every board has left the tracking queue (R48, R52): one less in flight for each board of the charge,
and one more untracked for each that stood PENDING. -/
def State.settledRecord (s : State) (c : ChargeRecord) : ChargeRecord :=
  { c with
    inFlight := c.inFlight - s.line.queue.countP (fun b => decide (b.charge = some c.number))
    counts := { c.counts with untracked := c.counts.untracked + s.pendingOf c.number } }

/-! ## Starts -/

/-- The settings store after the check of a start (R1, R14): a WRITING place and one that fails its check value become INVALID,
the rest stays, and so do both counters. -/
def State.storeChecked (i : StartInputs) (s t : State) : Prop :=
  t.store.writes = [] ∧ t.store.nextCharge = s.store.nextCharge ∧ t.store.nextPack = s.store.nextPack ∧
  (∀ n : Fin 16, t.store.slots[n] = match s.store.slots[n] with
    | .empty => .empty
    | .valid r => if i.failedSlots.getLsbD n then .invalid else .valid r
    | .writing | .invalid => .invalid) ∧
  ∀ n : Fin 8, t.store.species[n] = match s.store.species[n] with
    | .absent => .absent
    | .present e => if i.failedSpecies.getLsbD n then .invalid else .present e
    | .writing _ | .invalid => .invalid

/-- What a cold start of a cause leaves, `causes` being the start-cause flags after it (R14, R51, R82, R97, R98, R130, R145, R158,
R173, R191, R193): the store checked, every other block at its defaults, and START begun. -/
def State.coldStarted (i : StartInputs) (cause : StartCause) (causes : StartCauses) (s t : State) : Prop :=
  t.pending = s.pending ∧ s.storeChecked i t ∧
  t.charges = ⟨Vector.replicate 12 none, Vector.replicate 8 0⟩ ∧
  (∀ k : Fin 6, t.kilns[k] =
    { state := .idle, resume := none, level := 0, charge := none, drying := none, conditionRemaining := none
      deviation := 0, measured := none, samples := Vector.replicate 8 none, figures := ⟨none, none, none⟩
      samplesLost := false
      config := { address := 0x20 + k, pollPeriod := 30, sampleInterval := 30, deviationBand := 50, deviationLimit := 30 } }) ∧
  t.bus = ⟨[], none, Vector.replicate 6 ⟨0, none, 0, .unknown, 0, 0, 0⟩⟩ ∧
  (∀ n : Fin 16, t.terminals[n] =
    ⟨.generalIn, .activeHigh, .none, false, i.pins.getLsbD n, 0, none, i.pins.getLsbD n, none, none⟩) ∧
  t.line =
    { state := .stopped, returnTo := none
      config := ⟨100, 20, 2000, 8500, 10000, 14000, 500, 1800, 2700, 3600, 80, 100⟩
      position := 0, infeed := ⟨false, none⟩, outfeed := ⟨false, none⟩, infeedCondition := .clear, queue := []
      nextBoard := 1, planedLength := 0, knifeFlag := false, uncharged := 0, redryDemand := false
      rejectDemand := false, stopDemand := true } ∧
  t.packs = ⟨Vector.replicate 8 none, [], Vector.replicate 4 60, 0⟩ ∧ t.labels = ⟨[], [], none, .idle, none, none⟩ ∧
  t.faults.actions = #v[⟨true, false, false, false⟩, ⟨true, true, false, false⟩, ⟨true, false, true, true⟩] ∧
  (∀ k : FaultKind, t.faults.kinds[k.index].masked = false ∧ t.faults.kinds[k.index].counted = true ∧
    t.faults.kinds[k.index].severity = match k with
      | .overtemp | .moduleLost | .trackOverflow | .trackMismatch | .supervisionExpired => .critical
      | .climateDeviation | .samplesLost | .labelQueueFull | .printerTimeout | .storeWriteFail => .degrade
      | .sampleImplausible | .sampleFailed | .stepOvertime | .meterFault | .lateDecision | .knifeService | .redryHigh
      | .bayBlock | .printerNak | .busNack | .busStop | .frameCheck | .rxOverrun | .reportsDropped => .advisory) ∧
  t.faults.logs = Vector.replicate 10 ⟨none, none, 0, false⟩ ∧
  t.port =
    { receiver := .hunt, requests := [], replies := [], reports := []
      sending := some (.report (.start false cause causes 0 false) false)
      restart := .none, gap := false, dropOwed := none, subscribed := 0x3003, highKinds := 0x3000, supervision := none
      latch := false, expiredSinceCold := false, causes := causes, clock := 0, clockSet := false, divider := 0 }

/-- What a warm start of a cause leaves, `causes` being the start-cause flags after it and `receiver` the receiver (R14, R52,
R83, R97, R108, R131, R146, R158, R174, R191 to R193): running kilns held at level 1, the line STOPPED with no board, the
port's queues emptied and START begun, and the rest kept. -/
def State.warmStarted (i : StartInputs) (cause : StartCause) (causes : StartCauses) (receiver : Receiver) (s t : State) :
    Prop :=
  t.pending = s.pending ∧ t.faults = s.faults ∧ t.packs = s.packs ∧ t.freeCount = s.freeCount ∧
  t.charges.tally = s.charges.tally ∧ s.storeChecked i t ∧
  (∀ n : Fin 12, s.charges.records[n] = none → t.charges.records[n] = none) ∧
  (∀ (n : Fin 12) (c : ChargeRecord), s.charges.records[n] = some c →
    ∃ (untracked : Nat) (d : ChargeRecord),
      (c.counts.untracked + s.pendingOf c.number ≤ 4294967295 ∨ s.pendingOf c.number = 0 →
        untracked = c.counts.untracked + s.pendingOf c.number) ∧
      d = { s.settledRecord c with counts := { c.counts with untracked := untracked } } ∧
      t.charges.records[n] = if d.state = .closed ∧ d.inFlight = 0 ∧ d.packRefs = 0 then none else some d) ∧
  (∀ (k : Fin 6) (measured : Option Measured),
    measured = s.kilns[k].measured.map (fun m => { m with stale := true }) →
    (∀ ph : Phase, s.kilns[k].state = ph.state →
      t.kilns[k] = { s.kilns[k] with state := .hold, resume := some ph, level := 1, measured := measured }) ∧
    (s.kilns[k].state.running = false → t.kilns[k] = { s.kilns[k] with measured := measured }) ∧
    t.bus.links[k] = ⟨0, if t.kilns[k].state.scanning then some 0 else none, 0, .unknown, 0, 0, 0⟩) ∧
  t.bus.pendingPolls = [] ∧ t.bus.current = none ∧
  (∀ (n : Fin 16) (r : Terminal), s.terminals[n] = r →
    (r.fn.digitalInput = true →
      t.terminals[n] =
        { r with pinHigh := i.pins.getLsbD n, input := r.polarity.through (i.pins.getLsbD n), waiting := none }) ∧
    (r.fn = .meterIn → t.terminals[n] = { r with conversion := some i.meterCount.toNat }) ∧
    (r.fn = .tempIn → t.terminals[n] = { r with conversion := some i.tempCount.toNat }) ∧
    (r.fn = .generalOut → t.terminals[n] = r) ∧
    (r.fn = .redryGate ∨ r.fn = .rejectGate →
      t.terminals[n] = { r with input := false, drive := some (r.polarity.through false) }) ∧
    (r.fn = .lineStop → t.terminals[n] = { r with input := true, drive := some (r.polarity.through true) })) ∧
  t.line =
    { s.line with
      state := .stopped, returnTo := none, queue := [], infeed := ⟨t.line.infeed.taken, none⟩
      outfeed := ⟨t.line.outfeed.taken, none⟩
      infeedCondition := if t.line.infeed.taken then .untracked else .clear, redryDemand := false
      rejectDemand := false, stopDemand := true } ∧
  t.line.infeed.taken = (match s.holder .infeedEye with
    | some n => s.terminals[n].polarity.through (i.pins.getLsbD n)
    | none => false) ∧
  t.line.outfeed.taken = (match s.holder .outfeedEye with
    | some n => s.terminals[n].polarity.through (i.pins.getLsbD n)
    | none => false) ∧
  (s.labels.queue = [] → t.labels = { s.labels with link := .idle, answerTimer := none, retryTimer := none }) ∧
  (∀ (e : LabelEntry) (rest : List LabelEntry), s.labels.queue = e :: rest →
    t.labels = { s.labels with
      queue := { e with transmissions := min 65535 (e.transmissions + 1) } :: rest, link := .sending
      answerTimer := none, retryTimer := some 0 }) ∧
  t.port =
    { s.port with
      receiver := receiver, requests := [], replies := [], reports := []
      sending := if s.port.subscribed.getLsbD 0 then
          some (.report (.start true cause causes s.port.clock s.port.clockSet) false) else none
      restart := .none, gap := false, dropOwed := none
      supervision := s.port.supervision.map fun v => { v with remaining := v.count * v.unit }
      causes := causes }

/-! ## Agreements at every moment -/

/-- The message port keeps its capacities: four requests, four replies, 32 reports (R179, R180, section 11.5). -/
def Port.bounded (p : Port) : Prop := p.requests.length ≤ 4 ∧ p.replies.length ≤ 4 ∧ p.reports.length ≤ 32

/-- A domain log keeps its counter within 0..127 and holds a next record only behind a first (R164, R165). -/
def DomainLog.sound (l : DomainLog) : Prop := l.counter ≤ 127 ∧ (l.first = none → l.next = none)

/-- The fault unit: sound logs, and the four fixed kinds CRITICAL, unmasked and counted (R159, R164, R165). -/
def FaultUnit.sound (f : FaultUnit) : Prop :=
  (∀ d : Fin 10, f.logs[d].sound) ∧ ∀ k : FaultKind, k.fixed = true → f.kinds[k.index] = ⟨.critical, false, true⟩

/-- The pending-poll list holds at most one entry for each kiln and kind, and it is empty while no poll is in service
(R87, R88). -/
def Bus.sound (b : Bus) : Prop :=
  (b.pendingPolls.map fun e => (e.kiln, e.kind)).Nodup ∧ (b.current = none → b.pendingPolls = [])

/-- A kiln context holds its fields when its state says so, and its hold level is 0 outside HOLD and PARK and 1 to 3 in them
(R53, R71). -/
def Kiln.sound (c : Kiln) : Prop :=
  (c.charge.isSome ↔ c.state ≠ .idle) ∧ (c.drying.isSome ↔ c.state ≠ .idle ∧ c.state ≠ .loaded) ∧
    (c.resume.isSome ↔ c.state = .hold ∨ c.state = .park) ∧
    (if c.state = .hold ∨ c.state = .park then 1 ≤ c.level ∧ c.level ≤ 3 else c.level = 0)

/-- Every kiln is sound, and its scan timer is present in the scanning states alone (R53, R71, R86). -/
def State.kilnsSound (s : State) : Prop :=
  ∀ k : Fin 6, s.kilns[k].sound ∧ (s.bus.links[k].scanTimer.isSome ↔ s.kilns[k].state.scanning = true)

/-- The LINE_STOP demand follows the line state, and a return state is held in BLOCKED alone (R106, R110, R111). -/
def Line.sound (l : Line) : Prop := l.stopDemand = l.state.stops ∧ (l.returnTo.isSome ↔ l.state = .blocked)

/-- The logical level at which a terminal drives its pin, absent for a terminal that does not: the stored level of
GENERAL_OUT, and the demand of each line output (R99, R106). -/
def State.drivenLevel (t : Fin 16) (s : State) : Option Bool :=
  match s.terminals[t].fn with
  | .generalOut => some s.terminals[t].stored
  | .redryGate => some s.line.redryDemand
  | .rejectGate => some s.line.rejectDemand
  | .lineStop => some s.line.stopDemand
  | .generalIn | .infeedEye | .outfeedEye | .encoder | .meterFault | .meterIn | .tempIn => none

/-- Every pin is driven at its terminal's level through polarity, or undriven, and the input level of an output terminal is the
level driven (R99, R102, R106). -/
def State.outputsFollow (s : State) : Prop :=
  ∀ t : Fin 16,
    s.terminals[t].drive = (s.drivenLevel t).map s.terminals[t].polarity.through ∧
      ∀ level : Bool, s.drivenLevel t = some level → s.terminals[t].input = level

/-- The transmitter is not left free beside a frame that it could begin (R182, R192). -/
def Port.transmits (p : Port) : Prop := p.begin = p

/-- The latch is set on an armed timer alone, and while it is set in HOLD_ALL mode no kiln runs and the line is at rest
(R190). -/
def State.latchKept (s : State) : Prop :=
  (s.port.latch = true → s.port.supervision.isSome = true) ∧
    (s.port.latchHolds = true → (∀ k : Fin 6, s.kilns[k].state.running = false) ∧ s.line.state.atRest = true)

/-- A pack counts its pieces by lineage entry and unlisted; it lists at most four charges, each once (R135). -/
def Pack.sound (p : Pack) : Prop :=
  p.pieces = (p.lineage.map (·.pieces)).sum + p.unlisted ∧ p.lineage.length ≤ 4 ∧ (p.lineage.map (·.charge)).Nodup

/-- Every pack is sound, and every FREE bay and every pack keeps to the class of its bay (R132, R134, R135). -/
def State.packsSound (s : State) : Prop := ∀ (b : Fin 8) (p : Pack), s.packs.bays[b] = some p → p.sound ∧ p.cls = bayClass b

/-- The balance of the boards. No number is held by two records (R35). A record's in-flight count is the number of its boards in
the queue and the hold list, and its entered count the sum of its other counts and its PENDING boards (R46 to R48). Every board
in flight has the record of its charge (R43), a board without a charge is REJECT NO_CHARGE (R121), and a board that spans a gate
is decided (R126). -/
def State.boardsSound (s : State) : Prop :=
  s.numbersApart ∧
  (∀ (i : Fin 12) (c : ChargeRecord), s.charges.records[i] = some c → c.inFlight = s.boardsOf c.number ∧
    c.counts.entered = c.counts.accepted + c.counts.redry + c.counts.rejected + c.counts.unmeasured + c.counts.untracked +
      s.pendingOf c.number) ∧
  (∀ b ∈ s.line.queue, (∀ n, b.charge = some n → (s.charge? n).isSome = true) ∧
    (b.charge = none → b.decision = .reject .noCharge) ∧
    (b.spansRedry = true ∨ b.spansReject = true → b.decision ≠ .pending)) ∧
  ∀ h ∈ s.packs.held, (s.charge? h.charge).isSome = true

/-- The collections of the planer side keep their capacities: 16 boards tracked, 16 held, four labels queued (R110, R132,
R147). -/
def State.planerBounded (s : State) : Prop :=
  s.line.queue.length ≤ 16 ∧ s.packs.held.length ≤ 16 ∧ s.labels.queue.length ≤ 4

end Sys2Proof.Machine
end

