-- ==== Sys2Proof/Certificates/Slice0/Obligations.lean ====
section
/-! DEFINITION. The statements for the provers. `s.after reports reply` is the state `s` whose port has queued the reports in
order (R183), taken the reply (R180) and begun what a free transmitter begins (R182, R185): an equation that ends in it says
all the command changes, and that it changes nothing else. -/

section Statements

open Sys2Proof Sys2Proof.Machine

/-! ## The step -/

/-- A step takes the command at the front of the queue and runs it on the state with the queue's rest; that an empty queue
idles is the model's choice (log entry 1). -/
def Obligations.StepRunsTheFrontCommand : Prop :=
  (∀ (c : Instr) (rest : List Instr) (s : State), s.pending = c :: rest → step s = exec c { s with pending := rest }) ∧
    ∀ s : State, s.pending = [] → step s = .next s

/-! ## Settings store -/

/-- SCHEDULE-STORE (R2): the three stages in their order, and an accepted store. SPECIES-STORE (R8): an entry that is WRITING refuses
it, and an accepted store keeps the former content in force where the entry was PRESENT (R10). -/
def Obligations.StoreRequestsQueueTheirWrites : Prop :=
  (∀ (s : State) (tag : Byte) (n : Fin 16) (body : List Byte), s.takesAtOnce →
    (s.store.slots[n] = .writing →
      exec (.scheduleStore tag (byteOf n :: body)) s = .next (s.after [] (replyTo 0x01 tag [0x04]))) ∧
    (s.store.slots[n] ≠ .writing → readSchedule body = none →
      exec (.scheduleStore tag (byteOf n :: body)) s = .next (s.after [] (replyTo 0x01 tag [0x02]))) ∧
    (∀ r : Schedule, s.store.slots[n] ≠ .writing → readSchedule body = some r →
      exec (.scheduleStore tag (byteOf n :: body)) s =
        .next (({ s with store := { s.store with
            slots := s.store.slots.set n .writing, writes := s.store.writes ++ [.schedule n r] } } : State).after []
          (replyTo 0x01 tag [0x00]))) ∧
    ∀ b : Byte, 16 ≤ b.toNat →
      exec (.scheduleStore tag (b :: body)) s = .next (s.after [] (replyTo 0x01 tag [0x02]))) ∧
  ∀ (s : State) (tag : Byte) (n : Fin 8) (body : List Byte), s.takesAtOnce →
    (∀ former, s.store.species[n] = .writing former →
      exec (.speciesStore tag (byteOf n :: body)) s = .next (s.after [] (replyTo 0x04 tag [0x04]))) ∧
    ∀ e : SpeciesEntry, (∀ former, s.store.species[n] ≠ .writing former) → readSpecies body = some e →
      ∃ t : State, exec (.speciesStore tag (byteOf n :: body)) s = .next t ∧
        t.entryInForce n = s.entryInForce n ∧
        (∃ former, t.store.species[n] = .writing former) ∧
        t = ({ s with store := { s.store with
            species := s.store.species.set n t.store.species[n], writes := s.store.writes ++ [.species n e] } } : State).after []
          (replyTo 0x04 tag [0x00])

/-- A valid schedule record, in the field order of SCHEDULE-STORE, reads back as itself, and every record that is read is valid
(R3, R5, R177). -/
def Obligations.ScheduleRecordRoundTrips : Prop :=
  (∀ r : Schedule, r.valid → readSchedule r.wire = some r) ∧
  ∀ (bs : List Byte) (r : Schedule), readSchedule bs = some r → r.valid

/-- A valid species entry, in the field order of SPECIES-STORE, reads back as itself, and every entry that is read is valid
(R8, R9, R177). -/
def Obligations.SpeciesEntryRoundTrips : Prop :=
  (∀ e : SpeciesEntry, e.valid → readSpecies e.wire = some e) ∧
    ∀ (bs : List Byte) (e : SpeciesEntry), readSpecies bs = some e → e.valid

/-- SCHEDULE-READ and SCHEDULE-ERASE by slot state (R5, R6), SPECIES-READ and SPECIES-ERASE by entry state (R9). -/
def Obligations.ReadAndEraseByState : Prop :=
  (∀ (s : State) (tag : Byte) (n : Fin 16), s.takesAtOnce →
    (exec (.scheduleRead tag [byteOf n]) s = .next (s.after [] (replyTo 0x02 tag
      (match s.store.slots[n] with
        | .valid r => 0x00 :: r.wire
        | .writing => [0x04]
        | .empty | .invalid => [0x09])))) ∧
    (s.store.slots[n] ≠ .writing →
      exec (.scheduleErase tag [byteOf n]) s =
        .next (({ s with store := { s.store with slots := s.store.slots.set n .empty } } : State).after []
          (replyTo 0x03 tag [0x00]))) ∧
    (s.store.slots[n] = .writing → exec (.scheduleErase tag [byteOf n]) s = .next (s.after [] (replyTo 0x03 tag [0x04])))) ∧
  ∀ (s : State) (tag : Byte) (n : Fin 8), s.takesAtOnce →
    (exec (.speciesRead tag [byteOf n]) s = .next (s.after [] (replyTo 0x05 tag
      (match s.store.species[n] with
        | .present e => 0x00 :: e.wire
        | .writing _ => [0x04]
        | .absent | .invalid => [0x09])))) ∧
    exec (.speciesErase tag [byteOf n]) s =
      .next (match s.store.species[n] with
        | .writing _ => s.after [] (replyTo 0x06 tag [0x04])
        | .absent | .present _ | .invalid =>
          ({ s with store := { s.store with species := s.store.species.set n .absent } } : State).after []
            (replyTo 0x06 tag [0x00]))

/-- Completion of the write at the head (R4): a good verify makes the place VALID or PRESENT, a failed one INVALID with
STORE_WRITE_FAIL raised in the SYSTEM domain, and STORE-DONE is queued behind what the raise queues (log entry 13). A climate poll
that the raise made due is begun by a free bus (R88). -/
def Obligations.WriteCompletesAtTheHead : Prop :=
  ∀ (s : State) (rest : List Write), s.port.dropOwed = none → s.bus.settled →
    (∀ (n : Fin 16) (r : Schedule), s.store.writes = .schedule n r :: rest →
      exec (.storeWriteComplete true) s =
        .next (({ s with store := { s.store with slots := s.store.slots.set n (.valid r), writes := rest } } : State).after
          [.storeDone (.schedule n) true] none)) ∧
    (∀ (n : Fin 8) (e : SpeciesEntry), s.store.writes = .species n e :: rest →
      exec (.storeWriteComplete true) s =
        .next (({ s with store := { s.store with
            species := s.store.species.set n (.present e), writes := rest } } : State).after
          [.storeDone (.species n) true] none)) ∧
    ∀ (l : Location) (store : Store) (u : State),
      (∃ (n : Fin 16) (r : Schedule), s.store.writes = .schedule n r :: rest ∧ l = .schedule n ∧
          store = { s.store with slots := s.store.slots.set n .invalid, writes := rest }) ∨
        (∃ (n : Fin 8) (e : SpeciesEntry), s.store.writes = .species n e :: rest ∧ l = .species n ∧
          store = { s.store with species := s.store.species.set n .invalid, writes := rest }) →
      u = raise .storeWriteFail .system (.system (some l)) { s with store := store } →
      (s.faults.kinds[FaultKind.storeWriteFail.index].masked = true →
        exec (.storeWriteComplete false) s =
          .next (({ s with store := store } : State).after [.storeDone l false] none)) ∧
      ∃ t : State, u.begins t ∧ exec (.storeWriteComplete false) s = .next (t.after [.storeDone l false] none)

/-! ## Charge table -/

/-- An accepted CHARGE-CREATE (R37), and the stages that refuse one, in their order (R36): the ranges, a free position, a WRITING
slot or species, a slot that is not VALID or a species without an entry in force, the species of the slot, the tally. -/
def Obligations.ChargeCreatePlacesTheRecord : Prop :=
  (∀ (s : State) (tag : Byte) (payload : List Byte) (r : NewCharge) (pos : Fin 12) (sched : Schedule), s.takesAtOnce →
    readNewCharge payload = some r → s.freePosition = some pos →
    s.store.slots[r.slot] = .valid sched → sched.species = r.species.val →
    (∀ n ∈ r.speciesNamed, ∃ e, s.store.species[n] = .present e) →
    (∀ p, r.redryPart = some p → p.count ≤ s.charges.tally[p.species]) →
      exec (.chargeCreate tag payload) s =
        .next (({ s with
            store := { s.store with nextCharge := nextCharge s.drawnCharge }
            charges :=
              { records := s.charges.records.set pos (some (r.record s.drawnCharge s.now))
                tally := match r.redryPart with
                  | some p => s.charges.tally.set p.species (s.charges.tally[p.species] - p.count)
                  | none => s.charges.tally } } : State).after
          [(r.record s.drawnCharge s.now).report] (replyTo 0x08 tag (0x00 :: le 2 s.drawnCharge)))) ∧
  ∀ (s : State) (tag : Byte) (payload : List Byte) (refused : Byte → Prop), s.takesAtOnce →
    (∀ b, refused b ↔ exec (.chargeCreate tag payload) s = .next (s.after [] (replyTo 0x08 tag [b]))) →
    (readNewCharge payload = none → refused 0x02) ∧
    ∀ r : NewCharge, readNewCharge payload = some r →
      ((∀ pos : Fin 12, s.charges.records[pos].isSome = true) → refused 0x05) ∧
      ∀ pos : Fin 12, s.charges.records[pos] = none →
        (s.store.slots[r.slot] = .writing ∨ (∃ n ∈ r.speciesNamed, ∃ f, s.store.species[n] = .writing f) → refused 0x04) ∧
        (s.store.slots[r.slot] ≠ .writing → (∀ n ∈ r.speciesNamed, ∀ f, s.store.species[n] ≠ .writing f) →
          (s.store.slots[r.slot] = .empty ∨ s.store.slots[r.slot] = .invalid ∨
              (∃ n ∈ r.speciesNamed, s.store.species[n] = .absent ∨ s.store.species[n] = .invalid) → refused 0x09) ∧
          ∀ sched : Schedule, s.store.slots[r.slot] = .valid sched →
            (∀ n ∈ r.speciesNamed, ∃ e, s.store.species[n] = .present e) →
            sched.species ≠ r.species.val ∨ (∃ p, r.redryPart = some p ∧ s.charges.tally[p.species] < p.count) →
              refused 0x02)

/-- The draw of a charge number (R11): the first number from the next one on that no record holds, while a position is
free. -/
def Obligations.DrawnChargeNumberIsTheFirstUnheld : Prop :=
  ∀ s : State, 1 ≤ s.store.nextCharge → s.store.nextCharge ≤ 65535 → s.freePosition.isSome = true →
    s.charge? s.drawnCharge = none ∧ 1 ≤ s.drawnCharge ∧ s.drawnCharge ≤ 65535 ∧
      ∃ k : Nat, k ≤ 11 ∧ s.drawnCharge = nextCharge^[k] s.store.nextCharge ∧
        ∀ j : Nat, j < k → (s.charge? (nextCharge^[j] s.store.nextCharge)).isSome = true

/-- CHARGE-CLOSE (R42, R43): a CREATED or RELEASED record becomes CLOSED and is freed in the same event where both its counts
are 0; every other state refuses. -/
def Obligations.ChargeCloseClosesAndFrees : Prop :=
  ∀ (s : State) (tag : Byte) (n : Nat) (c : ChargeRecord), s.takesAtOnce → n < 65536 → s.charge? n = some c →
    (c.state = .created ∨ c.state = .released → ¬ (c.inFlight = 0 ∧ c.packRefs = 0) →
      exec (.chargeClose tag (le 2 n)) s =
        .next ((s.modCharge n fun c => { c with state := .closed }).after
          [({ c with state := .closed } : ChargeRecord).report] (replyTo 0x09 tag [0x00]))) ∧
    (c.state = .created ∨ c.state = .released → c.inFlight = 0 → c.packRefs = 0 →
      exec (.chargeClose tag (le 2 n)) s =
        .next ((s.dropCharge n).after
          [({ c with state := .closed } : ChargeRecord).report, ({ c with state := .closed } : ChargeRecord).freedReport]
          (replyTo 0x09 tag [0x00]))) ∧
    (c.state ≠ .created → c.state ≠ .released →
      exec (.chargeClose tag (le 2 n)) s = .next (s.after [] (replyTo 0x09 tag [0x03])))

/-- FEED and FEED-END (R41, R116): the former feed charge goes back to RELEASED, and the line follows by its state. FEED runs a
DRAINING line and turns the return state of a BLOCKED one to RUNNING; FEED-END drains a RUNNING line, which stops at once where
neither a board nor a held one is left (R117), and turns the return state to DRAINING. That CHARGE-STATE is queued before
LINE-STATE is the model's reading (log entry 13). -/
def Obligations.FeedChargeMoves : Prop :=
  ∀ (s : State) (tag : Byte), s.takesAtOnce →
    (∀ (n : Nat) (c : ChargeRecord) (u : State) (reports : List Report), n < 65536 → s.charge? n = some c →
      c.state = .released →
      (s.feedCharge = none ∧ u = s.modCharge n (fun c => { c with state := .planing }) ∧
          reports = [({ c with state := .planing } : ChargeRecord).report]) ∨
        (∃ f : ChargeRecord, s.feedCharge = some f ∧ s.charge? f.number = some f ∧ f.number ≠ n ∧
          u = (s.modCharge f.number fun c => { c with state := .released }).modCharge n
            (fun c => { c with state := .planing }) ∧
          reports =
            [({ f with state := .released } : ChargeRecord).report, ({ c with state := .planing } : ChargeRecord).report]) →
      (s.line.state = .stopped ∨ s.line.state = .tripped ∨ s.line.state = .running ∨
          (s.line.state = .blocked ∧ s.line.returnTo = some .running) →
        exec (.feed tag (le 2 n)) s = .next (u.after reports (replyTo 0x0C tag [0x00]))) ∧
      (s.line.state = .draining →
        exec (.feed tag (le 2 n)) s =
          .next ((u.lineIn .running none).after (reports ++ [(u.lineIn .running none).lineReport .request])
            (replyTo 0x0C tag [0x00]))) ∧
      (s.line.state = .blocked → s.line.returnTo = some .draining →
        exec (.feed tag (le 2 n)) s =
          .next ((u.lineIn .blocked (some .running)).after
            (reports ++ [(u.lineIn .blocked (some .running)).lineReport .request]) (replyTo 0x0C tag [0x00])))) ∧
    (∀ n : Nat, n < 65536 →
      (s.charge? n = none → exec (.feed tag (le 2 n)) s = .next (s.after [] (replyTo 0x0C tag [0x09]))) ∧
      ∀ c : ChargeRecord, s.charge? n = some c → c.state ≠ .released →
        exec (.feed tag (le 2 n)) s = .next (s.after [] (replyTo 0x0C tag [0x03]))) ∧
    (∀ (f : ChargeRecord) (u : State) (done : Report), s.feedCharge = some f → s.charge? f.number = some f →
      u = s.modCharge f.number (fun c => { c with state := .released }) →
      done = ({ f with state := .released } : ChargeRecord).report →
      (s.line.state = .stopped ∨ s.line.state = .tripped →
        exec (.feedEnd tag []) s = .next (u.after [done] (replyTo 0x0D tag [0x00]))) ∧
      (s.line.state = .running → s.line.queue ≠ [] ∨ s.packs.held ≠ [] →
        exec (.feedEnd tag []) s =
          .next ((u.lineIn .draining none).after [done, (u.lineIn .draining none).lineReport .request]
            (replyTo 0x0D tag [0x00]))) ∧
      (s.line.state = .running → s.line.queue = [] → s.packs.held = [] →
        exec (.feedEnd tag []) s =
          .next (((u.lineIn .draining none).lineIn .stopped none).after
            [done, (u.lineIn .draining none).lineReport .request,
              ((u.lineIn .draining none).lineIn .stopped none).lineReport .drained]
            (replyTo 0x0D tag [0x00]))) ∧
      (s.line.state = .blocked → s.line.returnTo = some .running →
        exec (.feedEnd tag []) s =
          .next ((u.lineIn .blocked (some .draining)).after
            [done, (u.lineIn .blocked (some .draining)).lineReport .request] (replyTo 0x0D tag [0x00])))) ∧
    (s.feedCharge = none → exec (.feedEnd tag []) s = .next (s.after [] (replyTo 0x0D tag [0x03])))

/-- The counts of a record keep their balance at each counted event of one of its boards (R44, R45, R48): `pending` is the
number of its boards that stand undecided in the queue. And every step keeps the balance of the machine (R48): the entered
count of every record is the sum of its other counts and of its PENDING boards in the tracking queue, and its in-flight count
the number of its boards in the queue and the hold list (R46, R47), while no entered count stands at its top. -/
def Obligations.BoardCountsKeepTheirBalance : Prop :=
  (∀ s t : State, s.boardsSound →
    (∀ (i : Fin 12) (c : ChargeRecord), s.charges.records[i] = some c → c.counts.entered < 4294967295) →
    step s = .next t → t.boardsSound) ∧
  ∀ (c : ChargeRecord) (pending : Nat),
    let total (c : ChargeRecord) := c.counts.accepted + c.counts.redry + c.counts.rejected + c.counts.unmeasured +
      c.counts.untracked
    c.counts.entered < 4294967295 → total c < 4294967295 → c.counts.entered = total c + pending →
    c.entered.counts.entered = total c.entered + (pending + 1) ∧
    c.overran.counts.entered = total c.overran + pending ∧
    (∀ (d : Decision) (mean : Option Nat), d ≠ .pending → 1 ≤ pending →
      (c.decided d mean).counts.entered = total (c.decided d mean) + (pending - 1)) ∧
    (1 ≤ pending → (c.untrack true).counts.entered = total (c.untrack true) + (pending - 1)) ∧
    (c.untrack false).counts.entered = total (c.untrack false) + pending

/-! ## Queries -/

/-- The queries that take no fields answer OK with their fields whatever payload their frames carry (R15, R49, R96, R107, R129,
R144, R157, R172, R195), and CHARGE-QUERY answers with every field of the record and its position, or NOT_FOUND (R49);
nothing else changes. -/
def Obligations.QueriesOnlyReply : Prop :=
  (∀ (s : State) (tag : Byte) (p : List Byte), s.takesAtOnce →
    exec (.storeQuery tag p) s = .next (s.after [] (replyTo 0x07 tag (0x00 :: storeFields s))) ∧
    exec (.chargeList tag p) s = .next (s.after [] (replyTo 0x0B tag (0x00 :: chargeListFields s))) ∧
    exec (.busQuery tag p) s = .next (s.after [] (replyTo 0x1A tag (0x00 :: busFields s))) ∧
    exec (.terminalRead tag p) s = .next (s.after [] (replyTo 0x1D tag (0x00 :: terminalFields s))) ∧
    exec (.lineQuery tag p) s = .next (s.after [] (replyTo 0x22 tag (0x00 :: lineFields s))) ∧
    exec (.stackerQuery tag p) s = .next (s.after [] (replyTo 0x27 tag (0x00 :: stackerFields s))) ∧
    exec (.labelQuery tag p) s = .next (s.after [] (replyTo 0x29 tag (0x00 :: labelFields s))) ∧
    exec (.faultConfigQuery tag p) s = .next (s.after [] (replyTo 0x2F tag (0x00 :: faultConfigFields s))) ∧
    exec (.statusQuery tag p) s = .next (s.after [] (replyTo 0x35 tag (0x00 :: statusFields s)))) ∧
  ∀ (s : State) (tag : Byte) (n : Nat), s.takesAtOnce → n < 65536 →
    (∀ (pos : Fin 12) (c : ChargeRecord), s.charges.records[pos] = some c → c.number = n →
      (∀ (p : Fin 12) (d : ChargeRecord), s.charges.records[p] = some d → d.number = n → p = pos) →
      exec (.chargeQuery tag (le 2 n)) s = .next (s.after [] (replyTo 0x0A tag (0x00 :: c.wire pos)))) ∧
    (s.charge? n = none → exec (.chargeQuery tag (le 2 n)) s = .next (s.after [] (replyTo 0x0A tag [0x09])))

/-- KILN-QUERY, PACK-QUERY and FAULT-QUERY answer for the kiln, bay or domain they name, refuse a number out of range, and
change nothing else (R81, R143, R172). -/
def Obligations.NumberedQueriesOnlyReply : Prop :=
  ∀ (s : State) (tag : Byte), s.takesAtOnce →
    (∀ k : Fin 6, exec (.kilnQuery tag [byteOf k]) s = .next (s.after [] (replyTo 0x19 tag (0x00 :: s.kilns[k].wire)))) ∧
    (∀ b : Fin 8, exec (.packQuery tag [byteOf b]) s =
      .next (s.after [] (replyTo 0x26 tag (0x00 :: (match s.packs.bays[b] with
        | some p => 0x00 :: p.wire
        | none => [0x01]))))) ∧
    (∀ d : Fin 10, exec (.faultQuery tag [byteOf d]) s = .next (s.after [] (replyTo 0x2E tag (0x00 :: logFields d s)))) ∧
    ∀ n : Nat, n < 256 →
      (6 ≤ n → exec (.kilnQuery tag [byteOf n]) s = .next (s.after [] (replyTo 0x19 tag [0x02]))) ∧
      (8 ≤ n → exec (.packQuery tag [byteOf n]) s = .next (s.after [] (replyTo 0x26 tag [0x02]))) ∧
      (10 ≤ n → exec (.faultQuery tag [byteOf n]) s = .next (s.after [] (replyTo 0x2E tag [0x02])))

/-! ## Kiln unit -/

/-- KILN-CONFIG (R55, R85, R86, R95): the address checks in their order, and what an accepted configuration starts afresh. -/
def Obligations.KilnConfigApplies : Prop :=
  ∀ (s : State) (tag : Byte) (payload : List Byte) (k : Fin 6) (cfg : KilnConfig), s.takesAtOnce →
    readKilnConfig payload = some (k, cfg) →
    (∀ j : Fin 6, j ≠ k → s.kilns[j].config.address = cfg.address →
      exec (.kilnConfig tag payload) s = .next (s.after [] (replyTo 0x0E tag [0x08]))) ∧
    ((∀ j : Fin 6, j ≠ k → s.kilns[j].config.address ≠ cfg.address) →
      (cfg.address ≠ s.kilns[k].config.address → s.kilns[k].state ≠ .idle →
        exec (.kilnConfig tag payload) s = .next (s.after [] (replyTo 0x0E tag [0x03]))) ∧
      (cfg.address = s.kilns[k].config.address →
        exec (.kilnConfig tag payload) s =
          .next (({ s with
              kilns := s.kilns.set k { s.kilns[k] with config := cfg }
              bus := s.bus.setLink k
                { s.bus.links[k] with climateTimer := 0, scanTimer := s.bus.links[k].scanTimer.map fun _ => 0 } } : State).after
            [] (replyTo 0x0E tag [0x00]))) ∧
      (cfg.address ≠ s.kilns[k].config.address → s.kilns[k].state = .idle →
        exec (.kilnConfig tag payload) s =
          .next (({ s with
              kilns := s.kilns.set k { s.kilns[k] with config := cfg, measured := none }
              bus := s.bus.setLink k
                { s.bus.links[k] with
                  climateTimer := 0, scanTimer := s.bus.links[k].scanTimer.map fun _ => 0
                  link := .unknown, failures := 0 } } : State).after [] (replyTo 0x0E tag [0x00]))))

/-- KILN-LOAD (R38, R56, R84). That CHARGE-STATE is queued before KILN-STATE is the model's reading (log entry 13). -/
def Obligations.KilnLoadTakesTheCharge : Prop :=
  ∀ (s : State) (tag : Byte) (payload : List Byte) (k : Fin 6) (n : Nat), s.takesAtOnce → readLoad payload = some (k, n) →
    (s.charge? n = none → exec (.kilnLoad tag payload) s = .next (s.after [] (replyTo 0x0F tag [0x09]))) ∧
    ∀ c : ChargeRecord, s.charge? n = some c →
      (c.state ≠ .created ∨ s.kilns[k].state ≠ .idle →
        exec (.kilnLoad tag payload) s = .next (s.after [] (replyTo 0x0F tag [0x03]))) ∧
      (c.state = .created → s.kilns[k].state = .idle →
        exec (.kilnLoad tag payload) s =
          .next ((({ s with
              kilns := s.kilns.set k { s.kilns[k] with state := .loaded, charge := some n }
              bus := s.bus.setLink k { s.bus.links[k] with mark := (s.bus.links[k].mark + 1) % 256 } } : State).modCharge n
                fun c => { c with state := .inKiln, kiln := some k }).after
            [({ c with state := .inKiln, kiln := some k } : ChargeRecord).report,
              ({ s.kilns[k] with state := .loaded, charge := some n } : Kiln).report k .request]
            (replyTo 0x0F tag [0x00])))

/-- SAMPLE-DEFINE (R17, R57): the record is defined afresh, the reply carries its oven-dry weight, and figures are formed anew
only where the position was not EMPTY (R23). -/
def Obligations.SampleDefineRecords : Prop :=
  ∀ (s : State) (tag : Byte) (payload : List Byte) (r : NewSample) (new : Sample) (c : Kiln), s.takesAtOnce → s.bus.settled →
    readNewSample payload = some r →
    new = ⟨.defined, r.greenWeight, r.greenMC, (r.greenWeight * 1000 + (1000 + r.greenMC) / 2) / (1000 + r.greenMC), none, none,
      false, 0⟩ →
    c = { s.kilns[r.kiln] with samples := s.kilns[r.kiln].samples.set r.position (some new) } →
    (s.kilns[r.kiln].state = .idle ∨ s.kilns[r.kiln].state = .done →
      exec (.sampleDefine tag payload) s = .next (s.after [] (replyTo 0x10 tag [0x03]))) ∧
    (s.kilns[r.kiln].state ≠ .idle → s.kilns[r.kiln].state ≠ .done →
      (s.kilns[r.kiln].samples[r.position] = none →
        exec (.sampleDefine tag payload) s =
          .next (({ s with kilns := s.kilns.set r.kiln c } : State).after [] (replyTo 0x10 tag (0x00 :: le 2 new.odWeight)))) ∧
      (s.kilns[r.kiln].samples[r.position] ≠ none → c.notLost →
        exec (.sampleDefine tag payload) s =
          .next (({ s with kilns := s.kilns.set r.kiln c.formed } : State).after [c.formed.sampleReport r.kiln]
            (replyTo 0x10 tag (0x00 :: le 2 new.odWeight)))))

/-- SAMPLE-EXCLUDE and SAMPLE-INCLUDE by the state of the sample (R58, R23). -/
def Obligations.SampleExcludeAndInclude : Prop :=
  ∀ (s : State) (tag : Byte) (payload : List Byte) (k : Fin 6) (p : Fin 8), s.takesAtOnce → s.bus.settled →
    readPosition payload = some (k, p) →
    (s.kilns[k].state = .idle →
      exec (.sampleExclude tag payload) s = .next (s.after [] (replyTo 0x11 tag [0x03])) ∧
      exec (.sampleInclude tag payload) s = .next (s.after [] (replyTo 0x12 tag [0x03]))) ∧
    (s.kilns[k].state ≠ .idle →
      (s.kilns[k].samples[p] = none →
        exec (.sampleExclude tag payload) s = .next (s.after [] (replyTo 0x11 tag [0x09])) ∧
        exec (.sampleInclude tag payload) s = .next (s.after [] (replyTo 0x12 tag [0x09]))) ∧
      ∀ (old : Sample) (c : Sample → Kiln), s.kilns[k].samples[p] = some old →
        (∀ new, c new = { s.kilns[k] with samples := s.kilns[k].samples.set p (some new) }) →
        (old.standing = .defined →
          exec (.sampleInclude tag payload) s = .next (s.after [] (replyTo 0x12 tag [0x00])) ∧
          ((c { old with standing := .excluded }).notLost →
            exec (.sampleExclude tag payload) s =
              .next (({ s with kilns := s.kilns.set k (c { old with standing := .excluded }).formed } : State).after
                [(c { old with standing := .excluded }).formed.sampleReport k] (replyTo 0x11 tag [0x00])))) ∧
        (old.standing = .excluded →
          exec (.sampleExclude tag payload) s = .next (s.after [] (replyTo 0x11 tag [0x00])) ∧
          ((c { old with standing := .defined }).notLost →
            exec (.sampleInclude tag payload) s =
              .next (({ s with kilns := s.kilns.set k (c { old with standing := .defined }).formed } : State).after
                [(c { old with standing := .defined }).formed.sampleReport k] (replyTo 0x12 tag [0x00])))) ∧
        (old.standing = .failed →
          exec (.sampleExclude tag payload) s = .next (s.after [] (replyTo 0x11 tag [0x03])) ∧
          ((c { old with standing := .defined, implausible := 0 }).notLost →
            exec (.sampleInclude tag payload) s =
              .next (({ s with kilns := s.kilns.set k (c { old with standing := .defined, implausible := 0 }).formed } :
                State).after [(c { old with standing := .defined, implausible := 0 }).formed.sampleReport k]
                (replyTo 0x12 tag [0x00])))))

/-- An accepted KILN-START (R60, R61, R39, R86), and the checks that refuse one, in their order (R60): the state, whatever the
kiln holds, then the latch and the samples, then the slot. That CHARGE-STATE is queued before KILN-STATE is the model's
reading (log entry 13). -/
def Obligations.KilnStartBeginsDrying : Prop :=
  (∀ (s : State) (tag : Byte) (k : Fin 6) (n : Nat) (ch : ChargeRecord) (r : Schedule) (new : Kiln), s.takesAtOnce →
    s.bus.settled → s.kilns[k].state = .loaded → s.port.latchHolds = false → 2 ≤ s.kilns[k].definedCount →
    s.kilns[k].charge = some n → s.charge? n = some ch → s.store.slots[ch.slot] = .valid r → r.species = ch.species.val →
    new = { s.kilns[k] with
      state := .run, level := 0, deviation := 0, samplesLost := false
      drying := some
        { schedule := r, stepIndex := 0, stepElapsed := 0, totalElapsed := 0, overtimeReported := false
          stepTarget := r.firstStep.target, depression := r.firstStep.depression
          setpoint := match s.kilns[k].measured with
            | some m => if m.stale then r.firstStep.target
              else if m.dryBulb < 200 then 200 else if 1200 < m.dryBulb then 1200 else m.dryBulb
            | none => r.firstStep.target } } →
      exec (.kilnStart tag [byteOf k]) s =
        .next ((({ s with
            kilns := s.kilns.set k new
            bus := ((s.bus.setLink k { s.bus.links[k] with scanTimer := some 0 }).climateJoined k new).joined k .scan } : State).modCharge n
              fun c => { c with state := .drying, dryingKiln := some k, started := some s.now }).after
          [({ ch with state := .drying, dryingKiln := some k, started := some s.now } : ChargeRecord).report,
            new.report k .request]
          (replyTo 0x13 tag [0x00]))) ∧
  ∀ (s : State) (tag : Byte) (k : Fin 6), s.takesAtOnce →
    (s.kilns[k].state ≠ .loaded ∨ s.port.latchHolds = true ∨ s.kilns[k].definedCount < 2 →
      exec (.kilnStart tag [byteOf k]) s = .next (s.after [] (replyTo 0x13 tag [0x03]))) ∧
    ∀ (n : Nat) (ch : ChargeRecord), s.kilns[k].charge = some n → s.charge? n = some ch →
    (s.kilns[k].state = .loaded → s.port.latchHolds = false → 2 ≤ s.kilns[k].definedCount →
      (s.store.slots[ch.slot] = .writing →
        exec (.kilnStart tag [byteOf k]) s = .next (s.after [] (replyTo 0x13 tag [0x04]))) ∧
      (s.store.slots[ch.slot] = .empty ∨ s.store.slots[ch.slot] = .invalid →
        exec (.kilnStart tag [byteOf k]) s = .next (s.after [] (replyTo 0x13 tag [0x09]))) ∧
      ∀ r : Schedule, s.store.slots[ch.slot] = .valid r → r.species ≠ ch.species.val →
        exec (.kilnStart tag [byteOf k]) s = .next (s.after [] (replyTo 0x13 tag [0x02])))

/-- KILN-ADVANCE (R65 to R67): to the next step, or to EQUALISE from the last. Its KILN-STATE names the schedule as cause
(log entry 14). -/
def Obligations.KilnAdvanceMovesTheStep : Prop :=
  ∀ (s : State) (tag : Byte) (k : Fin 6), s.takesAtOnce →
    (s.kilns[k].state ≠ .run → exec (.kilnAdvance tag [byteOf k]) s = .next (s.after [] (replyTo 0x14 tag [0x03]))) ∧
    ∀ d : DryingRun, s.kilns[k].state = .run → s.kilns[k].drying = some d →
      (∀ (st : ScheduleStep) (d' : DryingRun), d.schedule.steps[d.stepIndex + 1]? = some st →
        d' = { d with
          stepIndex := d.stepIndex + 1, stepElapsed := 0, overtimeReported := false, stepTarget := st.target
          depression := st.depression } →
        exec (.kilnAdvance tag [byteOf k]) s =
          .next (({ s with kilns := s.kilns.set k { s.kilns[k] with drying := some d' } } : State).after
            [.kilnStep k s.kilns[k].charge (some (d.stepIndex + 1)) .operator s.kilns[k].figures.controlling d.totalElapsed]
            (replyTo 0x14 tag [0x00]))) ∧
      ∀ new : Kiln, d.schedule.steps[d.stepIndex + 1]? = none →
        new = { s.kilns[k] with
          state := .equalise, drying := some { d with stepElapsed := 0, depression := d.schedule.equaliseDepression } } →
        exec (.kilnAdvance tag [byteOf k]) s =
          .next (({ s with kilns := s.kilns.set k new } : State).after
            [.kilnStep k s.kilns[k].charge none .operator s.kilns[k].figures.controlling d.totalElapsed,
              new.report k .schedule]
            (replyTo 0x14 tag [0x00]))

/-- KILN-HOLD and KILN-PARK (R71 to R73): a running kiln is held or parked at level 1 and its phase kept for the resume, a held
kiln is parked by KILN-PARK, and what already stands at a level stays. -/
def Obligations.KilnHoldAndPark : Prop :=
  ∀ (s : State) (tag : Byte) (k : Fin 6), s.takesAtOnce → s.bus.settled →
    (∀ (ph : Phase) (stop : KilnState → Kiln), s.kilns[k].state = ph.state →
      (∀ st, stop st = { s.kilns[k] with state := st, resume := some ph, level := 1 }) →
      exec (.kilnHold tag [byteOf k]) s =
        .next (({ s with kilns := s.kilns.set k (stop .hold), bus := s.bus.climateJoined k (stop .hold) } : State).after
          [(stop .hold).report k .request] (replyTo 0x15 tag [0x00])) ∧
      exec (.kilnPark tag [byteOf k]) s =
        .next (({ s with kilns := s.kilns.set k (stop .park), bus := s.bus.climateJoined k (stop .park) } : State).after
          [(stop .park).report k .request] (replyTo 0x16 tag [0x00]))) ∧
    (∀ new : Kiln, s.kilns[k].state = .hold → 1 ≤ s.kilns[k].level → new = { s.kilns[k] with state := .park } →
      exec (.kilnHold tag [byteOf k]) s = .next (s.after [] (replyTo 0x15 tag [0x00])) ∧
      exec (.kilnPark tag [byteOf k]) s =
        .next (({ s with kilns := s.kilns.set k new, bus := s.bus.climateJoined k new } : State).after
          [new.report k .request] (replyTo 0x16 tag [0x00]))) ∧
    (s.kilns[k].state = .park → 1 ≤ s.kilns[k].level →
      exec (.kilnHold tag [byteOf k]) s = .next (s.after [] (replyTo 0x15 tag [0x00])) ∧
      exec (.kilnPark tag [byteOf k]) s = .next (s.after [] (replyTo 0x16 tag [0x00]))) ∧
    (s.kilns[k].state = .idle ∨ s.kilns[k].state = .loaded ∨ s.kilns[k].state = .done →
      exec (.kilnHold tag [byteOf k]) s = .next (s.after [] (replyTo 0x15 tag [0x03])) ∧
      exec (.kilnPark tag [byteOf k]) s = .next (s.after [] (replyTo 0x16 tag [0x03])))

/-- KILN-RESUME (R74): the state, the latch and the level are checked in this order, and an accepted resume returns to the
phase held. -/
def Obligations.KilnResumeReturnsToThePhase : Prop :=
  ∀ (s : State) (tag : Byte) (payload : List Byte) (k : Fin 6) (clearance : Nat), s.takesAtOnce → s.bus.settled →
    readResume payload = some (k, clearance) →
    (s.kilns[k].state.held = false ∨ s.port.latchHolds = true →
      exec (.kilnResume tag payload) s = .next (s.after [] (replyTo 0x17 tag [0x03]))) ∧
    (s.kilns[k].state.held = true → s.port.latchHolds = false →
      (clearance < s.kilns[k].level → exec (.kilnResume tag payload) s = .next (s.after [] (replyTo 0x17 tag [0x06]))) ∧
      ∀ (ph : Phase) (new : Kiln), s.kilns[k].level ≤ clearance → s.kilns[k].resume = some ph →
        new = { s.kilns[k] with state := ph.state, resume := none, level := 0, deviation := 0 } →
        exec (.kilnResume tag payload) s =
          .next (({ s with kilns := s.kilns.set k new, bus := s.bus.climateJoined k new } : State).after
            [new.report k .request] (replyTo 0x17 tag [0x00])))

/-- KILN-UNLOAD (R38, R40, R70, R84, R86): the context is emptied, the occupancy mark moves, and the charge goes where the
state it was unloaded from sends it. A running kiln and an IDLE one refuse. That CHARGE-STATE is queued before KILN-STATE is
the model's reading (log entry 13). -/
def Obligations.KilnUnloadReleasesTheCharge : Prop :=
  (∀ (s : State) (tag : Byte) (k : Fin 6), s.takesAtOnce → s.kilns[k].state.running = true ∨ s.kilns[k].state = .idle →
    exec (.kilnUnload tag [byteOf k]) s = .next (s.after [] (replyTo 0x18 tag [0x03]))) ∧
  ∀ (s : State) (tag : Byte) (k : Fin 6) (n : Nat) (ch : ChargeRecord) (new : Kiln) (bus : Bus), s.takesAtOnce →
    s.bus.settled → s.kilns[k].charge = some n → s.charge? n = some ch →
    new = { s.kilns[k] with
      state := .idle, resume := none, level := 0, charge := none, drying := none, conditionRemaining := none
      deviation := 0, samples := Vector.replicate 8 none, figures := ⟨none, none, none⟩, samplesLost := false } →
    bus = s.bus.setLink k { s.bus.links[k] with mark := (s.bus.links[k].mark + 1) % 256, scanTimer := none } →
    (s.kilns[k].state = .loaded →
      exec (.kilnUnload tag [byteOf k]) s =
        .next ((({ s with kilns := s.kilns.set k new, bus := bus } : State).modCharge n
            fun c => { c with state := .created, kiln := none }).after
          [({ ch with state := .created, kiln := none } : ChargeRecord).report, new.report k .request]
          (replyTo 0x18 tag [0x00]))) ∧
    (s.kilns[k].state = .done →
      exec (.kilnUnload tag [byteOf k]) s =
        .next ((({ s with kilns := s.kilns.set k new, bus := bus } : State).modCharge n
            fun c => { c with state := .released, kiln := none }).after
          [({ ch with state := .released, kiln := none } : ChargeRecord).report, new.report k .request]
          (replyTo 0x18 tag [0x00]))) ∧
    (∀ final : Option FinalMC, s.kilns[k].state.held = true → final = finalMC (activeMCs s.kilns[k].samples) →
      exec (.kilnUnload tag [byteOf k]) s =
        .next ((({ s with kilns := s.kilns.set k new, bus := bus.climateJoined k new } : State).modCharge n
            fun c => { c with
              state := .released, kiln := none, incomplete := true, dried := some s.now, finalMC := final }).after
          [({ ch with
              state := .released, kiln := none, incomplete := true, dried := some s.now, finalMC := final } :
              ChargeRecord).report,
            new.report k .request]
          (replyTo 0x18 tag [0x00])))

/-- One minute of a kiln in a running phase (R62, R77): the ramp and the two elapsed counts. In RUN, where no fault of the
minute is raised, the deviation count and the leave of a TIME step into the step after it, or from the last step into EQUALISE,
whose KILN-STATE stands after the KILN-STEP (R63, R65, R67). In RUN with the step overtime, STEP_OVERTIME is raised once, and a
kiln that its actions hold makes no further part of its minute (R63, log entry 10). The deviation count raises CLIMATE_DEVIATION
at its limit and starts again at 0 (R78). In CONDITION the count falls by one, and at 0 the kiln is DONE: its charge is DRIED
with its final MC, its scan timer is absent and a climate poll falls due (R24, R39, R68, R69, R75, R86); CHARGE-STATE before
KILN-STATE is log entry 13. -/
def Obligations.MinuteOfARunningKiln : Prop :=
  ∀ (s : State) (k : Fin 6) (c : Kiln) (d d' : DryingRun), s.kilns[k] = c → c.drying = some d → d.totalElapsed < 4294967295 →
    d' = { d with
      setpoint :=
        if d.setpoint < d.stepTarget then min d.stepTarget (d.setpoint + d.schedule.rampRate)
        else if d.stepTarget < d.setpoint then max d.stepTarget (d.setpoint - d.schedule.rampRate) else d.setpoint
      stepElapsed := min 65535 (d.stepElapsed + 1), totalElapsed := d.totalElapsed + 1 } →
    ∀ (measured : Option Measured) (quiet : Prop), measured = c.measured.map (fun m => { m with age := min 65535 (m.age + 1) }) →
    (quiet ↔ ∀ m, c.measured = some m → m.stale = true) →
    (∀ st : ScheduleStep, c.state = .run → d.schedule.steps[d.stepIndex]? = some st →
      (c.deviation + 1 < c.config.deviationLimit → (d.overtimeReported = true ∨ ∀ m, st.maxDuration = some m → d'.stepElapsed < m) →
        ∀ final : DryingRun → Kiln,
          (∀ x, final x = { c with
            drying := some x, measured := measured
            deviation := match c.measured with
              | some m => if m.stale then c.deviation
                else if c.config.deviationBand < (m.dryBulb - d'.setpoint).natAbs then c.deviation + 1 else 0
              | none => c.deviation }) →
          ((∀ m, st.leave = .time m → d'.stepElapsed < m) →
            minuteTick k s = { s with kilns := s.kilns.set k (final d') }) ∧
          ∀ m : Nat, st.leave = .time m → m ≤ d'.stepElapsed →
            (∀ st' : ScheduleStep, d.schedule.steps[d.stepIndex + 1]? = some st' →
              minuteTick k s =
                queueReport
                  (.kilnStep k c.charge (some (d.stepIndex + 1)) .time c.figures.controlling (d.totalElapsed + 1))
                  { s with kilns := s.kilns.set k (final { d' with
                      stepIndex := d.stepIndex + 1, stepElapsed := 0, overtimeReported := false, stepTarget := st'.target
                      depression := st'.depression }) }) ∧
            ∀ e : Kiln, d.schedule.steps[d.stepIndex + 1]? = none →
              e = { final { d' with stepElapsed := 0, depression := d.schedule.equaliseDepression } with state := .equalise } →
              minuteTick k s =
                queueReport (e.report k .schedule)
                  (queueReport (.kilnStep k c.charge none .time c.figures.controlling (d.totalElapsed + 1))
                    { s with kilns := s.kilns.set k e })) ∧
      ∀ (m : Nat) (late : Kiln) (u : State), d.overtimeReported = false → st.maxDuration = some m → m ≤ d'.stepElapsed →
        late = { c with drying := some { d' with overtimeReported := true }, measured := measured } →
        u = raise .stepOvertime (.kiln k) late.context { s with kilns := s.kilns.set k late } →
        u.kilns[k].state.held = true ∨ (quiet ∧ ∃ t, st.leave = .mc t) → minuteTick k s = u) ∧
    (∀ (m : Measured) (x : Kiln), c.measured = some m → m.stale = false →
      c.config.deviationBand < (m.dryBulb - d'.setpoint).natAbs → c.config.deviationLimit ≤ c.deviation + 1 →
      c.state = .equalise ∨
        (c.state = .run ∧ ∃ st t, d.schedule.steps[d.stepIndex]? = some st ∧ st.leave = .mc t ∧ st.maxDuration = none) →
      x = { c with drying := some d', measured := measured, deviation := 0 } →
      minuteTick k s = raise .climateDeviation (.kiln k) x.context { s with kilns := s.kilns.set k x }) ∧
    ∀ (n : Nat) (x : Kiln), c.state = .condition → c.conditionRemaining = some n → quiet →
      x = { c with drying := some d', measured := measured } →
      (2 ≤ n → minuteTick k s = { s with kilns := s.kilns.set k { x with conditionRemaining := some (n - 1) } }) ∧
      ∀ (i : Nat) (ch dried : ChargeRecord) (new : Kiln), n ≤ 1 → c.charge = some i → s.charge? i = some ch →
        dried = { ch with state := .dried, dried := some s.now, finalMC := finalMC (activeMCs c.samples) } →
        new = { x with state := .done, conditionRemaining := none } →
        minuteTick k s =
          queueReport (new.report k .schedule)
            (queueReport dried.report
              (({ s with
                kilns := s.kilns.set k new
                bus := (s.bus.setLink k { s.bus.links[k] with scanTimer := none }).joined k .climate } : State).modCharge i
                fun ch => { ch with
                  state := .dried, dried := some s.now, finalMC := finalMC (activeMCs c.samples) }))

/-- A kiln minute while no kiln is in a running phase and no scan timer reaches its interval (R62, R77, R86, R194); that this
command alone also sets the minute divider to 0 is the model's choice (log entry 5). And a second tick in which no timer
reaches its end (R85, R188, R194): the plant clock and the divider, each climate timer, the supervision countdown unless
the latch or the standby pause stops it, and, where the divider wraps, the kiln minute. With running kilns and with timers that
end, each kiln has its climate timer (R85), its minute (R62; `minuteTick`, stated of its own) and its scan timer (R86), and the
supervision countdown follows (R188). The order of these within one second, kiln by kiln, climate timer, minute, scan timer, then
the countdown, and that the standby pause is judged after the kilns' changes, are given by no rule: they are the model's (DEDUCED,
log entry 5), and the states of this statement rest on them. The polls that fall due stand in kiln order, a kiln's climate poll
before its scan, and are served (R87, R88). A second in which the supervision countdown ends, and no other timer, is the expiry
after it (R188, R190); that SUPERVISION_EXPIRY by itself is that event without a second tick is the model's choice (log entry 5). -/
def Obligations.TicksCount : Prop :=
  (∀ s : State, s.port.dropOwed = none → s.bus.settled → (∀ k : Fin 6, s.kilns[k].state.running = false) →
    (∀ (k : Fin 6) (n : Nat), s.bus.links[k].scanTimer = some n → n + 1 < s.kilns[k].config.sampleInterval) →
      exec .kilnMinuteTick s =
        .next (({ s with
            kilns := vmap (fun c => { c with measured := c.measured.map fun m => { m with age := min 65535 (m.age + 1) } })
              s.kilns
            bus := { s.bus with links := vmap (fun l => { l with scanTimer := l.scanTimer.map (· + 1) }) s.bus.links }
            port := { s.port with divider := 0 } } : State).after [] none)) ∧
  (∀ (s : State) (port : Port), s.port.dropOwed = none → s.bus.settled → s.port.divider ≤ 59 →
    (∀ k : Fin 6, s.bus.links[k].climateTimer + 1 < s.kilns[k].config.pollPeriod) →
    (∀ v, s.port.supervision = some v → 2 ≤ v.remaining) →
    port = { s.port with
      clock := (s.port.clock + 1) % 4294967296
      divider := (s.port.divider + 1) % 60
      supervision := s.port.supervision.map fun v =>
        if s.port.latch = true ∨ s.frozen = true then v else { v with remaining := v.remaining - 1 } } →
    (s.port.divider < 59 →
      exec .secondTick s =
        .next (({ s with
            bus := { s.bus with links := vmap (fun l => { l with climateTimer := l.climateTimer + 1 }) s.bus.links }
            port := port } : State).after [] none)) ∧
    (s.port.divider = 59 → (∀ k : Fin 6, s.kilns[k].state.running = false) →
      (∀ (k : Fin 6) (n : Nat), s.bus.links[k].scanTimer = some n → n + 1 < s.kilns[k].config.sampleInterval) →
      exec .secondTick s =
        .next (({ s with
            kilns := vmap (fun c => { c with measured := c.measured.map fun m => { m with age := min 65535 (m.age + 1) } })
              s.kilns
            bus :=
              { s.bus with
                links := vmap (fun l => { l with climateTimer := l.climateTimer + 1, scanTimer := l.scanTimer.map (· + 1) })
                  s.bus.links }
            port := port } : State).after [] none))) ∧
  (∀ (s : State) (second minute : Fin 6 → State → State), s.port.dropOwed = none →
    (∀ k x, second k x =
      if x.kilns[k].config.pollPeriod ≤ x.bus.links[k].climateTimer + 1 then
        { x with bus := (x.bus.setLink k { x.bus.links[k] with climateTimer := 0 }).joined k .climate }
      else { x with bus := x.bus.setLink k { x.bus.links[k] with climateTimer := x.bus.links[k].climateTimer + 1 } }) →
    (∀ k x y, y = minuteTick k x → minute k x =
      match y.bus.links[k].scanTimer with
      | none => y
      | some n =>
        if y.kilns[k].config.sampleInterval ≤ n + 1 then
          { y with bus := (y.bus.setLink k { y.bus.links[k] with scanTimer := some 0 }).joined k .scan }
        else { y with bus := y.bus.setLink k { y.bus.links[k] with scanTimer := some (n + 1) } }) →
    (∃ t : State,
      (([0, 1, 2, 3, 4, 5] : List (Fin 6)).foldl (fun x k => minute k x)
        { s with port := { s.port with divider := 0 } }).begins t ∧
      exec .kilnMinuteTick s = .next (t.after [] none)) ∧
    ∀ u : State, s.port.divider ≤ 59 →
      u = ([0, 1, 2, 3, 4, 5] : List (Fin 6)).foldl
        (fun x k => if s.port.divider = 59 then minute k (second k x) else second k x)
        { s with port := { s.port with
          clock := (s.port.clock + 1) % 4294967296, divider := (s.port.divider + 1) % 60 } } →
      (∀ v, u.port.supervision = some v → u.port.latch = true ∨ u.frozen = true ∨ 2 ≤ v.remaining) →
      ∃ (joined : List PollEntry) (t : State), joined.Perm (u.bus.pendingPolls.drop s.bus.pendingPolls.length) ∧
        joined.Pairwise (fun a b => a.kiln < b.kiln ∨ (a.kiln = b.kiln ∧ (a.kind = .scan → b.kind = .scan))) ∧
        ({ u with
            bus := { u.bus with pendingPolls := u.bus.pendingPolls.take s.bus.pendingPolls.length ++ joined }
            port := { u.port with
              supervision := u.port.supervision.map fun v =>
                if u.port.latch = true ∨ u.frozen = true then v else { v with remaining := v.remaining - 1 } } } :
          State).begins t ∧
        exec .secondTick s = .next (t.after [] none)) ∧
  ∀ (s : State) (v : Supervision), s.port.dropOwed = none → s.bus.settled → s.port.divider < 59 →
    (∀ k : Fin 6, s.bus.links[k].climateTimer + 1 < s.kilns[k].config.pollPeriod) →
    s.port.supervision = some v → s.port.latch = false → s.frozen = false → v.remaining ≤ 1 →
      exec .secondTick s = exec .supervisionExpiry { s with
        bus := { s.bus with links := vmap (fun l => { l with climateTimer := l.climateTimer + 1 }) s.bus.links }
        port := { s.port with clock := (s.port.clock + 1) % 4294967296, divider := s.port.divider + 1 } }

/-! ## Field bus controller -/

/-- A climate timer at its period and a scan timer at its interval (R85 to R88): the timer starts again and the poll joins the
list, or begins at once on a free bus. The commands stand for that moment whatever the timer shows (the model's choice, log
entry 5), and SCAN_DUE of a kiln without a scan timer changes nothing (log entry 2). -/
def Obligations.TimersMakePollsFallDue : Prop :=
  ∀ (s : State) (k : Fin 6), s.port.dropOwed = none → s.bus.settled →
    exec (.climatePollDue k) s =
      .next (({ s with
          bus := (s.bus.setLink k { s.bus.links[k] with climateTimer := 0 }).climateJoined k s.kilns[k] } : State).after
        [] none) ∧
    (s.bus.links[k].scanTimer = none → exec (.scanDue k) s = .next (s.after [] none)) ∧
    ∀ (n : Nat) (bus : Bus), s.bus.links[k].scanTimer = some n →
      bus = s.bus.setLink k { s.bus.links[k] with scanTimer := some 0 } →
      (s.bus.current ≠ none → exec (.scanDue k) s = .next (({ s with bus := bus.joined k .scan } : State).after [] none)) ∧
      ∀ (p : Fin 8) (rest : List (Fin 8)), s.bus.current = none → s.kilns[k].state.scanning = true →
        positionsOf s.kilns[k].samples = p :: rest →
        exec (.scanDue k) s =
          .next ((({ s with bus := bus } : State).setPoll
            (some ⟨⟨k, .scan, s.bus.links[k].mark⟩, 1, s.kilns[k].config.address, .scan (p :: rest) 0⟩)).after [] none)

/-- A climate exchange delivered to the kiln it was begun for, one whose kiln has been emptied since, and one whose kiln has
another address since (R76, R93 to R95). A dry-bulb past the limits of R79 raises OVERTEMP before the link is settled, and a
kiln that its actions hold or park begins its next climate poll at once (R71, R75, R87, R88). That MODULE-RESTORED stands behind
the reports of the delivery is log entry 20. -/
def Obligations.ClimateExchangeSettlesThePoll : Prop :=
  ∀ (s : State) (p : CurrentPoll) (command : ModuleCommand) (dry wet : BitVec 16) (status : Byte) (k : Fin 6) (new : Kiln)
    (bus : Bus) (reports : List Report), s.port.dropOwed = none → s.bus.current = some p → p.work = .climate command →
    s.bus.pendingPolls = [] → p.entry.kiln = k →
    new = { s.kilns[k] with
      measured := some ⟨dry.toInt, wet.toInt, status, 0, false⟩
      deviation := match s.kilns[k].drying with
        | some d => if s.kilns[k].state.running = true ∧ (dry.toInt - d.setpoint).natAbs ≤ s.kilns[k].config.deviationBand
          then 0 else s.kilns[k].deviation
        | none => s.kilns[k].deviation } →
    bus = ({ s.bus with current := none } : Bus).setLink k { s.bus.links[k] with
      goodPolls := (s.bus.links[k].goodPolls + 1) % 4294967296, failures := 0, link := .up } →
    reports = (if s.bus.links[k].link = .lost then [.moduleRestored k p.address p.entry.kind] else []) →
    (s.kilns[k].config.address = p.address → s.bus.links[k].mark = p.entry.mark → new.overheated dry.toInt = false →
      exec (.climateExchangeDone dry wet status) s =
        .next (({ s with kilns := s.kilns.set k new, bus := bus } : State).after reports none)) ∧
    (∀ w : State, s.kilns[k].config.address = p.address → s.bus.links[k].mark = p.entry.mark →
      (s.kilns[k].state ≠ .idle ∧ 1250 < dry.toInt) ∨
        (s.kilns[k].state ≠ .idle ∧ s.kilns[k].state ≠ .loaded ∧
          ∃ d, s.kilns[k].drying = some d ∧ d.setpoint + 150 < dry.toInt) →
      w = raise .overtemp (.kiln k) new.context { s with kilns := s.kilns.set k new } →
      (w.kilns[k].state = s.kilns[k].state →
        exec (.climateExchangeDone dry wet status) s = .next (({ w with bus := bus } : State).after reports none)) ∧
      (w.kilns[k].state ≠ s.kilns[k].state →
        exec (.climateExchangeDone dry wet status) s =
          .next (({ w with bus := bus.climateJoined k w.kilns[k] } : State).after reports none))) ∧
    (s.kilns[k].config.address = p.address → s.bus.links[k].mark ≠ p.entry.mark →
      exec (.climateExchangeDone dry wet status) s = .next (({ s with bus := bus } : State).after reports none)) ∧
    (s.kilns[k].config.address ≠ p.address →
      exec (.climateExchangeDone dry wet status) s =
        .next (({ s with bus := { s.bus with current := none } } : State).after [] none))

/-- A plausible weigh reading (R18, R20, R90, R92): the sample takes it and the scan goes on, or ends with the figures formed and
SAMPLE-UPDATE (R23, R59, R93). That end tests the MC step of a kiln in RUN and the tolerance of one in EQUALISE, which enters
CONDITION and, where its duration is 0, DONE (R64, R65, R67 to R69, R86), and raises SAMPLES_LOST where no controlling MC is
formed any more (R59). An implausible reading counts, raises SAMPLE_IMPLAUSIBLE and, as the third, SAMPLE_FAILED, on a DEFINED
sample alone (R18, R19, R21). A scan whose kiln no longer stands for it delivers nothing (R94). That MODULE-RESTORED stands
behind the reports of the scan is log entry 20, CHARGE-STATE before KILN-STATE log entry 13. -/
def Obligations.WeighReadingReachesItsSample : Prop :=
  ∀ (s : State) (p : CurrentPoll) (positions : List (Fin 8)) (i : Nat) (q : Fin 8) (w : BitVec 16) (k : Fin 6) (link : KilnLink)
    (bus : Bus) (reports : List Report), s.port.dropOwed = none → s.bus.current = some p → p.work = .scan positions i →
    positions[i]? = some q → p.entry.kiln = k → s.bus.pendingPolls = [] →
    link = { s.bus.links[k] with goodPolls := (s.bus.links[k].goodPolls + 1) % 4294967296, failures := 0, link := .up } →
    bus = ({ s.bus with current := none } : Bus).setLink k link →
    reports = (if s.bus.links[k].link = .lost then [.moduleRestored k p.address p.entry.kind] else []) →
    (∀ (old new : Sample) (mc : Nat) (c : Kiln), s.scanStands p.entry = true → s.kilns[k].samples[q] = some old →
      1 ≤ w.toNat → w.toNat ≤ 60000 → old.odWeight * 95 ≤ w.toNat * 100 → w.toNat * 100 ≤ old.greenWeight * 102 →
      mc = (if w.toNat ≤ old.odWeight then 0
        else ((w.toNat - old.odWeight) * 1000 + old.odWeight / 2) / old.odWeight) →
      new = { old with
        weight := some w.toNat, mc := some (min mc 2000), saturated := decide (2000 < mc)
        implausible := if old.standing = .defined then 0 else old.implausible } →
      c = { s.kilns[k] with samples := s.kilns[k].samples.set q (some new) } →
      (i + 1 < positions.length →
        exec (.weighDone w) s =
          .next (({ s with
              kilns := s.kilns.set k c
              bus := { s.bus with current := some { p with attempt := 1, work := .scan positions (i + 1) } } } : State).after
            [] none)) ∧
      ∀ ends : Kiln → List Report → Prop, i + 1 = positions.length → s.kilns[k].config.address = p.address →
        (∀ f more, ends f more ↔
          exec (.weighDone w) s =
            .next (({ s with kilns := s.kilns.set k f, bus := bus } : State).after
              (c.formed.sampleReport k :: (more ++ reports)) none)) →
        (c.state.held = true ∨ c.state = .condition → ends c.formed []) ∧
        (∀ (d : DryingRun) (st : ScheduleStep) (figure : Nat), c.state = .run → c.drying = some d →
          d.schedule.steps[d.stepIndex]? = some st → c.formed.figures.controlling = some figure →
          ((∃ m, st.leave = .time m) ∨ (∃ m, st.leave = .mc m ∧ m < figure) → ends c.formed []) ∧
          ∀ m, st.leave = .mc m → figure ≤ m →
            (∀ st', d.schedule.steps[d.stepIndex + 1]? = some st' →
              ends { c.formed with drying := some { d with
                  stepIndex := d.stepIndex + 1, stepElapsed := 0, overtimeReported := false, stepTarget := st'.target
                  depression := st'.depression } }
                [.kilnStep k c.charge (some (d.stepIndex + 1)) .mc (some figure) d.totalElapsed]) ∧
            ∀ e : Kiln, d.schedule.steps[d.stepIndex + 1]? = none →
              e = { c.formed with
                state := .equalise
                drying := some { d with stepElapsed := 0, depression := d.schedule.equaliseDepression } } →
              ends e [.kilnStep k c.charge none .mc (some figure) d.totalElapsed, e.report k .schedule]) ∧
        (∀ (d : DryingRun) (wettest : Nat) (e : Kiln), c.state = .equalise → c.drying = some d →
          c.formed.figures.controlling ≠ none → c.formed.figures.wettest = some wettest →
          e = { c.formed with
            state := .condition, conditionRemaining := some d.schedule.conditionDuration
            drying := some { d with depression := d.schedule.conditionDepression, stepElapsed := 0 } } →
          (d.schedule.finalTarget + d.schedule.equaliseTolerance < wettest → ends c.formed []) ∧
          (wettest ≤ d.schedule.finalTarget + d.schedule.equaliseTolerance →
            (d.schedule.conditionDuration ≠ 0 → ends e [e.report k .schedule]) ∧
            ∀ (n : Nat) (ch : ChargeRecord) (dry : ChargeRecord → ChargeRecord) (new : Kiln),
              d.schedule.conditionDuration = 0 → c.charge = some n → s.charge? n = some ch →
              (∀ x, dry x = { x with state := .dried, dried := some s.now, finalMC := finalMC (activeMCs c.samples) }) →
              new = { e with state := .done, conditionRemaining := none } →
              exec (.weighDone w) s =
                .next ((({ s with
                    kilns := s.kilns.set k new
                    bus := (bus.setLink k { link with scanTimer := none }).climateJoined k new } : State).modCharge n dry).after
                  ([c.formed.sampleReport k, e.report k .schedule, (dry ch).report, new.report k .schedule] ++ reports)
                  none))) ∧
        ∀ (lost : Kiln) (u : State), c.state = .run ∨ c.state = .equalise → c.formed.figures.controlling = none →
          c.samplesLost = false → lost = { c.formed with samplesLost := true } →
          u = raise .samplesLost (.kiln k) lost.context { s with kilns := s.kilns.set k lost } →
          exec (.weighDone w) s =
            .next (({ u with
                bus := if u.kilns[k].state = c.state then bus else bus.climateJoined k u.kilns[k] } : State).after
              (lost.sampleReport k :: reports) none)) ∧
    (∀ (old : Sample) (weight : Nat) (reads : Sample → Kiln) (goesOn : State → Prop), s.scanStands p.entry = true →
      s.kilns[k].samples[q] = some old → i + 1 < positions.length → weight = (if 60000 < w.toNat then 0 else w.toNat) →
      weight = 0 ∨ old.greenWeight * 102 < weight * 100 ∨ weight * 100 < old.odWeight * 95 →
      (∀ x, reads x = { s.kilns[k] with
        samples := s.kilns[k].samples.set q (some { x with weight := if weight = 0 then old.weight else some weight }) }) →
      (∀ u, goesOn u ↔
        exec (.weighDone w) s =
          .next (({ u with
              bus := { u.bus with current := some { p with attempt := 1, work := .scan positions (i + 1) } } } :
                State).after [] none)) →
      (old.standing ≠ .defined → goesOn { s with kilns := s.kilns.set k (reads old) }) ∧
      ∀ (c : Kiln) (u : State), old.standing = .defined →
        c = reads { old with
          implausible := old.implausible + 1, standing := if 3 ≤ old.implausible + 1 then .failed else .defined } →
        u = raise .sampleImplausible (.kiln k) c.context { s with kilns := s.kilns.set k c } →
        (old.implausible + 1 < 3 → goesOn u) ∧
        (3 ≤ old.implausible + 1 → goesOn (raise .sampleFailed (.kiln k) u.kilns[k].context u))) ∧
    (s.scanStands p.entry = false → s.kilns[k].config.address = p.address →
      exec (.weighDone w) s = .next (({ s with bus := bus } : State).after reports none))

/-- A failed transfer attempt (R91, R93): BUS_NACK or BUS_STOP is raised with the address the poll was begun with, the failed
attempts are counted, and the third attempt of the poll fails it. The third failed poll loses the module: the measured values
become stale (R77) and MODULE_LOST is raised with its actions (R166, R167); a kiln that they hold or park begins its next climate
poll at once (R71, R75, R87, R88). A poll whose kiln has had its address changed fails in the same way and settles nothing (R95);
that its failed attempts are added to its kiln, at every attempt, is the model's choice (log entry 20). -/
def Obligations.FailedAttemptsFailThePoll : Prop :=
  ∀ (s t : State) (p : CurrentPoll) (k : Fin 6) (f : BusFailure), s.port.dropOwed = none → s.bus.current = some p →
    p.entry.kiln = k →
    t = raise (match f with | .nack => .busNack | .unexpectedStop => .busStop) .links (.links (some p.address) none) s →
    (p.attempt < 3 →
      exec (.transferAttemptFailed f) s =
        .next (({ t with
            bus := ({ s.bus with current := some { p with attempt := p.attempt + 1 } } : Bus).setLink k
              { s.bus.links[k] with failedAttempts := (s.bus.links[k].failedAttempts + 1) % 4294967296 } } : State).after
          [] none)) ∧
    (3 ≤ p.attempt → s.bus.pendingPolls = [] → s.kilns[k].config.address ≠ p.address →
      exec (.transferAttemptFailed f) s =
        .next (({ t with
            bus := ({ s.bus with current := none } : Bus).setLink k
              { s.bus.links[k] with failedAttempts := (s.bus.links[k].failedAttempts + 1) % 4294967296 } } : State).after
          [] none)) ∧
    (3 ≤ p.attempt → s.bus.pendingPolls = [] → s.kilns[k].config.address = p.address →
      (s.bus.links[k].failures + 1 < 3 →
        exec (.transferAttemptFailed f) s =
          .next (({ t with
              bus := ({ s.bus with current := none } : Bus).setLink k
                { s.bus.links[k] with
                  failedAttempts := (s.bus.links[k].failedAttempts + 1) % 4294967296
                  failures := s.bus.links[k].failures + 1 } } : State).after [] none)) ∧
      ∀ (c : Kiln) (bus : Bus) (w : State), s.bus.links[k].failures = 2 →
        c = { s.kilns[k] with measured := s.kilns[k].measured.map fun m => { m with stale := true } } →
        bus = ({ s.bus with current := none } : Bus).setLink k
          { s.bus.links[k] with
            failedAttempts := (s.bus.links[k].failedAttempts + 1) % 4294967296, failures := 0, link := .lost } →
        w = raise .moduleLost (.kiln k) c.context { t with kilns := s.kilns.set k c } →
        (s.faults.kinds[FaultKind.moduleLost.index].masked = true → w = { t with kilns := s.kilns.set k c }) ∧
        (w.kilns[k].state = s.kilns[k].state →
          exec (.transferAttemptFailed f) s = .next (({ w with bus := bus } : State).after [] none)) ∧
        (w.kilns[k].state ≠ s.kilns[k].state →
          exec (.transferAttemptFailed f) s =
            .next (({ w with bus := bus.climateJoined k w.kilns[k] } : State).after [] none)))

/-! ## Line terminals -/

/-- An accepted TERMINAL-ASSIGN of a terminal that held no eye (R101): an output's pin is driven through the new polarity at the
stored level or the demand, an input's pin is released (R99, R106), and an eye's view and the infeed condition are settled
(R120, R122). And its checks after the ranges, in their order (R100). The counter of free values is the model's own, and the
first conversion of an analogue function and the level of a pin just released are two of them (log entry 8). -/
def Obligations.TerminalAssignTakesTheFunction : Prop :=
  (∀ (s : State) (tag : Byte) (payload : List Byte) (a : Assignment) (old : Terminal) (taken : Terminal → State),
    s.takesAtOnce → readAssignment payload = some a → old = s.terminals[a.terminal] →
    (a.fn.analogue = true → 12 ≤ a.terminal.val) →
    (∀ u : Fin 16, u ≠ a.terminal → a.fn.isLine = true → s.terminals[u].fn ≠ a.fn) →
    (a.fn.isLine = true ∨ old.fn.isLine = true → s.line.state.atRest = true) →
    old.fn ≠ .infeedEye → old.fn ≠ .outfeedEye →
    (∀ t, taken t = { s with terminals := s.terminals.set a.terminal t, freeCount := s.freeCount + 1 }) →
    (∀ level : Bool,
      (a.fn = .generalOut ∧ level = old.stored) ∨ (a.fn = .redryGate ∧ level = s.line.redryDemand) ∨
        (a.fn = .rejectGate ∧ level = s.line.rejectDemand) ∨ (a.fn = .lineStop ∧ level = s.line.stopDemand) →
      exec (.terminalAssign tag payload) s =
        .next ((taken { old with
          fn := a.fn, polarity := a.polarity, edges := a.edges, conversion := none, waiting := none
          input := level, drive := some (a.polarity.through level) }).after [] (replyTo 0x1B tag [0x00]))) ∧
    (a.fn.analogue = true →
      exec (.terminalAssign tag payload) s =
        .next ((taken { old with
          fn := a.fn, polarity := a.polarity, edges := a.edges, waiting := none, input := false, drive := none
          conversion := some (Config.firstConversion s.freeCount).toNat }).after [] (replyTo 0x1B tag [0x00]))) ∧
    ∀ (high level : Bool) (new : Terminal),
      high = (if old.fn.digitalInput then old.pinHigh else Config.releasedPinHigh s.freeCount) →
      level = a.polarity.through high →
      new = { old with
        fn := a.fn, polarity := a.polarity, edges := a.edges, conversion := none, waiting := none, pinHigh := high
        input := level, drive := none } →
      (a.fn = .generalIn ∨ a.fn = .encoder ∨ a.fn = .meterFault →
        exec (.terminalAssign tag payload) s = .next ((taken new).after [] (replyTo 0x1B tag [0x00]))) ∧
      (a.fn = .outfeedEye →
        exec (.terminalAssign tag payload) s =
          .next (({ taken new with line := { s.line with outfeed := ⟨level, none⟩ } } : State).after []
            (replyTo 0x1B tag [0x00]))) ∧
      (a.fn = .infeedEye → s.line.infeedCondition ≠ .tracked →
        exec (.terminalAssign tag payload) s =
          .next (({ taken new with
              line :=
                { s.line with
                  infeed := ⟨level, none⟩
                  infeedCondition := if level then .untracked else .clear } } : State).after []
            (replyTo 0x1B tag [0x00])))) ∧
  ∀ (s : State) (tag : Byte) (payload : List Byte) (a : Assignment), s.takesAtOnce → readAssignment payload = some a →
    (a.fn.analogue = true → a.terminal.val < 12 →
      exec (.terminalAssign tag payload) s = .next (s.after [] (replyTo 0x1B tag [0x02]))) ∧
    ((a.fn.analogue = true → 12 ≤ a.terminal.val) →
      (∀ u : Fin 16, u ≠ a.terminal → a.fn.isLine = true → s.terminals[u].fn = a.fn →
        exec (.terminalAssign tag payload) s = .next (s.after [] (replyTo 0x1B tag [0x08]))) ∧
      ((∀ u : Fin 16, u ≠ a.terminal → a.fn.isLine = true → s.terminals[u].fn ≠ a.fn) →
        a.fn.isLine = true ∨ s.terminals[a.terminal].fn.isLine = true → s.line.state.atRest = false →
        exec (.terminalAssign tag payload) s = .next (s.after [] (replyTo 0x1B tag [0x03]))))

/-- TERMINAL-SET (R99, R102): GENERAL_OUT is driven at the level through its polarity, GENERAL_IN stores, and every line
function refuses. -/
def Obligations.TerminalSetStoresTheLevel : Prop :=
  ∀ (s : State) (tag : Byte) (payload : List Byte) (t : Fin 16) (level : Bool), s.takesAtOnce →
    readLevel payload = some (t, level) →
    (s.terminals[t].fn = .generalOut →
      exec (.terminalSet tag payload) s =
        .next (({ s with
            terminals := s.terminals.set t
              { s.terminals[t] with
                stored := level, input := level, drive := some (s.terminals[t].polarity.through level) } } : State).after []
          (replyTo 0x1C tag [0x00]))) ∧
    (s.terminals[t].fn = .generalIn →
      exec (.terminalSet tag payload) s =
        .next (({ s with terminals := s.terminals.set t { s.terminals[t] with stored := level } } : State).after []
          (replyTo 0x1C tag [0x00]))) ∧
    (s.terminals[t].fn.isLine = true → exec (.terminalSet tag payload) s = .next (s.after [] (replyTo 0x1C tag [0x0A])))

/-- A GENERAL_IN pin and its 5 ms filter (R103): a level waits, a return to the taken level drops it, and a level held is taken,
counted and reported where the selection matches. METER_FAULT follows its pin with no edge handed on (R104), a conversion is
held by the terminal of its converter (R105), and a falling edge of ENCODER moves the input level alone (R104, R119). -/
def Obligations.InputsFollowTheirPins : Prop :=
  (∀ (s : State) (t : Fin 16) (r : Terminal), s.port.dropOwed = none → r = s.terminals[t] → r.fn = .generalIn →
    (∀ high : Bool, r.pinHigh ≠ high →
      exec (.generalInPinChange t high) s =
        .next (({ s with
            terminals := s.terminals.set t
              { r with
                pinHigh := high
                waiting := if r.polarity.through high = r.input then none else some high } } : State).after [] none)) ∧
    (r.waiting = none → exec (.generalInFilterExpiry t) s = .next (s.after [] none)) ∧
    ∀ high level : Bool, r.waiting = some high → level = r.polarity.through high → level ≠ r.input →
      (r.edges = .both ∨ (r.edges = .rising ∧ level = true) ∨ (r.edges = .falling ∧ level = false) →
        exec (.generalInFilterExpiry t) s =
          .next (({ s with
              terminals := s.terminals.set t
                { r with waiting := none, input := level, edgeCount := (r.edgeCount + 1) % 65536 } } : State).after
            [.terminalEdge t level ((r.edgeCount + 1) % 65536) s.now] none)) ∧
      (r.edges = .none ∨ (r.edges = .rising ∧ level = false) ∨ (r.edges = .falling ∧ level = true) →
        exec (.generalInFilterExpiry t) s =
          .next (({ s with terminals := s.terminals.set t { r with waiting := none, input := level } } : State).after
            [] none))) ∧
  ∀ (s : State) (high : Bool) (conv : Converter) (count : BitVec 12), s.port.dropOwed = none →
    (exec (.meterFaultInputChange high) s = .next (match s.holder .meterFault with
      | some t => ({ s with
          terminals := s.terminals.set t
            { s.terminals[t] with pinHigh := high, input := s.terminals[t].polarity.through high } } : State).after [] none
      | none => s.after [] none)) ∧
    (exec (.conversionComplete conv count) s =
      .next (match s.holder (match conv with | .a => .meterIn | .b => .tempIn) with
        | some t => ({ s with terminals := s.terminals.set t { s.terminals[t] with conversion := some count.toNat } } :
            State).after [] none
        | none => s.after [] none)) ∧
    (exec .encoderFallingEdge s = .next (match s.holder .encoder with
      | some t => ({ s with
          terminals := s.terminals.set t
            { s.terminals[t] with input := false, pinHigh := s.terminals[t].polarity.through false } } : State).after [] none
      | none => s.after [] none))

/-! ## Board tracker -/

/-- A pin change of an eye with a filter distance above 0 (R104, R120): the change waits from the position where it began, and
a return to the taken level drops it. -/
def Obligations.EyeChangeWaitsInItsFilter : Prop :=
  ∀ (s : State) (e : Eye) (high : Bool) (fn : TermFn), s.port.dropOwed = none →
    fn = (match e with | .infeed => .infeedEye | .outfeed => .outfeedEye) →
    (s.holder fn = none → exec (.eyeChange e high) s = .next (s.after [] none)) ∧
    ∀ (t : Fin 16) (level : Bool) (u : State), s.holder fn = some t → level = s.terminals[t].polarity.through high →
      u = { s with terminals := s.terminals.set t { s.terminals[t] with pinHigh := high, input := level } } →
      (level = s.terminals[t].input → exec (.eyeChange e high) s = .next (u.after [] none)) ∧
      (level ≠ s.terminals[t].input → level = (s.line.filter e).taken →
        exec (.eyeChange e high) s =
          .next (({ u with line := s.line.setFilter e ⟨level, none⟩ } : State).after [] none)) ∧
      (level ≠ s.terminals[t].input → level ≠ (s.line.filter e).taken → s.line.config.eyeFilter ≠ 0 →
        exec (.eyeChange e high) s =
          .next (({ u with
              line := s.line.setFilter e
                ⟨(s.line.filter e).taken, some ((s.line.filter e).waiting.getD s.line.position)⟩ } : State).after [] none))

/-- Leading and trailing edges of the infeed eye, taken by a pin change with a filter distance of 0 or by the encoder advance that
ends the filter distance (R44, R119 to R122): a board enters the queue with the feed charge or as NO_CHARGE, at the position where
the change began, a full queue raises TRACK_OVERFLOW, and a trailing edge gives the tail board its length. -/
def Obligations.InfeedEdgesEnterAndMeasureBoards : Prop :=
  ∀ (s : State) (level : Bool) (edge : Nat) (command : Instr) (u : State), s.port.dropOwed = none →
    s.takes .infeed level edge command u →
    (∀ c : ChargeRecord, level = true → s.line.queue.length < 16 → s.feedCharge = some c →
      exec command s =
        .next ((({ u with
            line :=
              { u.line with
                queue := s.line.queue ++ [newBoard s.line.nextBoard (some c.number) edge]
                nextBoard := nextBoardNumber s.line.nextBoard, infeedCondition := .tracked } } : State).modCharge c.number
              ChargeRecord.entered).after [] none)) ∧
    (∀ b : Board, level = true → s.line.queue.length < 16 → s.feedCharge = none →
      b = newBoard s.line.nextBoard none edge →
      exec command s =
        .next (({ u with
            line :=
              { u.line with
                queue := s.line.queue ++ [b], nextBoard := nextBoardNumber s.line.nextBoard, infeedCondition := .tracked
                uncharged := min 4294967295 (s.line.uncharged + 1) } } : State).after
          [.boardDecided b.number none none (.reject .noCharge) 0 none false (distanceMm edge u.line.position)] none)) ∧
    (∀ c : ChargeRecord, level = true → 16 ≤ s.line.queue.length → s.feedCharge = some c →
      exec command s =
        .next ((raise .trackOverflow .line (.line none (some c.number) (edge / 100))
          (({ u with line := { u.line with infeedCondition := .untracked } } : State).modCharge c.number
            ChargeRecord.overran)).after [] none)) ∧
    (level = true → 16 ≤ s.line.queue.length → s.feedCharge = none →
      exec command s =
        .next ((raise .trackOverflow .line (.line none none (edge / 100))
          { u with
            line :=
              { u.line with
                infeedCondition := .untracked, uncharged := min 4294967295 (s.line.uncharged + 1) } }).after [] none)) ∧
    (∀ (earlier : List Board) (b : Board), level = false → s.line.infeedCondition = .tracked →
      s.line.queue = earlier ++ [b] →
      exec command s =
        .next (({ u with
            line :=
              { u.line with
                queue := earlier ++ [{ b with
                  trailing := some edge, length := some (min 65535 (distanceMm b.entry edge)) }]
                infeedCondition := .clear } } : State).after [] none)) ∧
    (level = false → s.line.infeedCondition ≠ .tracked →
      exec command s =
        .next (({ u with line := { u.line with infeedCondition := .clear } } : State).after [] none))

/-- A rising encoder edge completes in every state: the position rises by the resolution, modulo 2^48, where a terminal holds
ENCODER, and stays where none does (R104, R110, R119). Where no board reaches a point and no waiting change has travelled the
filter distance (R120), that is all. The points of the one board of a queue (R119; that each is an event of its own is log entry
13): a PENDING board under the meter head takes a sample pair at its next sample point, or METER_FAULT is raised once for it
(R105, R123); its trailing edge at the meter head takes its decision, and a board still PENDING at the redry gate is forced LATE
(R124, R125; `passMeter` and `forceLate` are stated of their own). A REDRY board opens the redry gate with its leading edge, a
REJECT or UNMEASURED one the reject gate; with its trailing edge past that gate it leaves the queue and the gate is released,
its charge has one board less in flight and is freed where nothing holds it, and a DRAINING line with nothing left stops (R43,
R46, R106, R117, R126; log entries 13 and 16 order these). -/
def Obligations.EncoderPulseMovesTheBoards : Prop :=
  (∀ s : State, ∃ t : State, exec .encoderPulse s = .next t ∧
    (s.holder .encoder = none → t.line.position = s.line.position) ∧
    ∀ n : Fin 16, s.holder .encoder = some n →
      t.line.position = (s.line.position + s.line.config.resolution) % 2 ^ 48 ∧
      t.terminals[n] = { s.terminals[n] with input := true, pinHigh := s.terminals[n].polarity.through true }) ∧
  (∀ s : State, s.port.dropOwed = none →
    (s.holder .encoder = none → exec .encoderPulse s = .next (s.after [] none)) ∧
    ∀ (n : Fin 16) (u : State), s.holder .encoder = some n → u = s.pulsed n → (∀ b ∈ s.line.queue, u.atNoPoint b) →
      (∀ e edge, (s.line.filter e).waiting = some edge → distanceMm edge u.line.position < s.line.config.eyeFilter) →
      exec .encoderPulse s = .next (u.after [] none)) ∧
  ∀ (s u : State) (n : Fin 16) (b : Board) (cfg : LineConfig) (behind : Nat → Prop), s.port.dropOwed = none →
    s.holder .encoder = some n → s.line.queue = [b] → s.line.infeed.waiting = none → s.line.outfeed.waiting = none →
    u = s.pulsed n → cfg = s.line.config → cfg.redryGate < cfg.rejectGate →
    (∀ gate, behind gate ↔ ∀ x, b.trailing = some x → distanceMm x u.line.position < gate) →
    (b.decision = .redry → b.pastMeter = true → s.line.rejectDemand = false → b.spansReject = false →
      b.marks = ⟨false, false, false, false⟩ → s.line.redryDemand = false → cfg.redryGate ≤ u.leading b →
      u.leading b < cfg.rejectGate → behind cfg.redryGate →
      exec .encoderPulse s =
        .next (({ u with
            terminals := vmap (fun r => if r.fn = .redryGate then r.driven true else r) u.terminals
            line := { u.line with
              queue := [{ b with marks := ⟨true, false, false, false⟩, spansRedry := true }], redryDemand := true } } :
            State).after [] none)) ∧
    (∀ past : Bool, b.decision = .unmeasured ∨ (∃ reason, b.decision = .reject reason) →
      b.pastMeter = true ∨ behind cfg.meterPosition → s.line.redryDemand = false → b.spansRedry = false →
      b.marks = ⟨true, past, false, false⟩ → s.line.rejectDemand = false → cfg.rejectGate ≤ u.leading b →
      past = true ∨ behind cfg.redryGate → behind cfg.rejectGate →
      exec .encoderPulse s =
        .next (({ u with
            terminals := vmap (fun r => if r.fn = .rejectGate then r.driven true else r) u.terminals
            line := { u.line with
              queue := [{ b with marks := ⟨true, past, true, false⟩, spansReject := true }], rejectDemand := true } } :
            State).after [] none)) ∧
    (∀ (x : Nat) (w v : State) (freed : List Report), b.decision ≠ .pending → b.pastMeter = true → b.trailing = some x →
      (b.spansRedry = true ∧ b.marks = ⟨true, false, false, false⟩ ∧ s.line.redryDemand = true ∧
          s.line.rejectDemand = false ∧ u.leading b < cfg.rejectGate ∧
          cfg.redryGate ≤ distanceMm x u.line.position ∧
          w = { u with
            terminals := vmap (fun r => if r.fn = .redryGate then r.driven false else r) u.terminals
            line := { u.line with queue := [], redryDemand := false } }) ∨
        (b.spansReject = true ∧ b.marks = ⟨true, true, true, false⟩ ∧ s.line.rejectDemand = true ∧
          s.line.redryDemand = false ∧ cfg.rejectGate ≤ distanceMm x u.line.position ∧
          w = { u with
            terminals := vmap (fun r => if r.fn = .rejectGate then r.driven false else r) u.terminals
            line := { u.line with queue := [], rejectDemand := false } }) →
      w.landed b.charge v freed →
      (s.line.state ≠ .draining ∨ s.packs.held ≠ [] → exec .encoderPulse s = .next (v.after freed none)) ∧
      (s.line.state = .draining → s.packs.held = [] →
        exec .encoderPulse s =
          .next ((v.lineIn .stopped none).after (freed ++ [(v.lineIn .stopped none).lineReport .drained]) none))) ∧
    (b.marks = ⟨false, false, false, false⟩ → u.leading b < cfg.redryGate →
      (∀ put : Board → State, b.decision = .pending → b.trailing = none →
        cfg.meterPosition + b.nextSample * cfg.spacing ≤ u.leading b →
        u.leading b < cfg.meterPosition + (b.nextSample + 1) * cfg.spacing →
        (∀ x, put x = { u with line := { u.line with queue := [x] } }) →
        (∀ (m : Fin 16) (v : Nat) (temp : Option Nat),
          (∀ f, s.holder .meterFault = some f → s.terminals[f].input = false) → s.holder .meterIn = some m →
          s.terminals[m].conversion = some v →
          temp = (match s.holder .tempIn with
            | some y => s.terminals[y].conversion
            | none => none) →
          b.pairs.length < 32 →
          exec .encoderPulse s =
            .next ((put { b with pairs := b.pairs ++ [⟨v, temp⟩], nextSample := b.nextSample + 1 }).after [] none)) ∧
        ∀ f : Fin 16, s.holder .meterFault = some f → s.terminals[f].input = true →
          (b.meterFault = true →
            exec .encoderPulse s = .next ((put { b with nextSample := b.nextSample + 1 }).after [] none)) ∧
          (b.meterFault = false →
            exec .encoderPulse s =
              .next ((raise .meterFault .line (.line (some b.number) b.charge (u.leading b))
                (put { b with meterFault := true, nextSample := b.nextSample + 1 })).after [] none))) ∧
      ∀ (x : Nat) (length : Nat), b.pastMeter = false → b.trailing = some x → b.length = some length →
        cfg.meterPosition ≤ distanceMm x u.line.position → behind cfg.redryGate →
        (b.decision = .pending → length ≤ b.nextSample * cfg.spacing) →
        exec .encoderPulse s = .next ((passMeter 0 b u).after [] none)) ∧
    (b.decision = .pending → b.marks = ⟨false, false, false, false⟩ → b.trailing = none → cfg.redryGate ≤ u.leading b →
      u.leading b < cfg.rejectGate → u.leading b < cfg.meterPosition + b.nextSample * cfg.spacing →
      exec .encoderPulse s =
        .next ((forceLate 0 { b with marks := ⟨true, false, false, false⟩ } u).after [] none))

/-- Board temperature of a sample pair (R27): half up of (count × 1000) / 4095, less 200, between −20.0 °C and 80.0 °C; 20.0 °C
and no correction where the count is absent. -/
def Obligations.BoardTemperature : Prop :=
  (∀ r : Nat, r ≤ 4095 →
    (∃ q : Nat, boardTemperature (some r) = (q : Int) - 200 ∧ 2 * (r * 1000) < 4095 * (2 * q + 1) ∧
      4095 * (2 * q) ≤ 2 * (r * 1000) + 4095) ∧
    -200 ≤ boardTemperature (some r) ∧ boardTemperature (some r) ≤ 800) ∧
  boardTemperature (some 0) = -200 ∧ boardTemperature (some 4095) = 800 ∧ boardTemperature none = 200 ∧
    ∀ c : Nat, correction (boardTemperature none) c = 0

/-- The decision order (R30) and the length classes (R31). -/
def Obligations.DecisionOrder : Prop :=
  ∀ (c : LineConfig) (length : Nat) (entry : Option SpeciesEntry) (figures : BoardFigures),
    (length < 600 → decideBoard c length entry figures = .reject .short) ∧
    (600 ≤ length →
      (entry = none ∨ figures.moisture = none → decideBoard c length entry figures = .unmeasured) ∧
      ∀ (e : SpeciesEntry) (m : BoardMoisture), entry = some e → figures.moisture = some m →
        (e.wetLimit < m.mean ∨ e.spotLimit < m.max → decideBoard c length entry figures = .redry) ∧
        (m.mean ≤ e.wetLimit → m.max ≤ e.spotLimit →
          (m.mean < e.dryLimit → decideBoard c length entry figures = .reject .overdry) ∧
          (e.dryLimit ≤ m.mean →
            (length < c.b1 → decideBoard c length entry figures = .accept 0) ∧
            (c.b1 ≤ length → length < c.b2 → decideBoard c length entry figures = .accept 1) ∧
            (c.b1 ≤ length → c.b2 ≤ length → length < c.b3 → decideBoard c length entry figures = .accept 2) ∧
            (c.b1 ≤ length → c.b2 ≤ length → c.b3 ≤ length → decideBoard c length entry figures = .accept 3))))

/-- A PENDING board of a charge at the meter head (R29, R30, R45, R124): the decision and figures are written, counted into the
charge and, for REDRY, into the tally; REDRY_HIGH is raised by the decision whose rate exceeds the limit (R32); the board is
reported; and an ACCEPT whose class has no place raises BAY_BLOCK and blocks a RUNNING or DRAINING line (R118). A board forced
LATE at the redry gate (R125). And what the trailing edge at the meter head makes of any board: the planed length and
KNIFE_SERVICE (R124, R128). The order of the raises and the report is the model's reading (log entry 13). -/
def Obligations.DecisionIsCountedAndReported : Prop :=
  (∀ (s : State) (i : Nat) (b b' : Board) (n : Nat) (c : ChargeRecord) (f : BoardFigures) (d : Decision)
    (counts : PlanerCounts), b.charge = some n → s.charge? n = some c →
    f = boardFigures (s.entryInForce c.species) b.pairs →
    d = decideBoard s.line.config (b.length.getD 0) (s.entryInForce c.species) f →
    b' = { b with decision := d, figures := some f } → counts = (c.decided d (f.moisture.map (·.mean))).counts →
      ∃ u v w : State, u = (s.modBoard i fun _ => b').modCharge n (ChargeRecord.decided d (f.moisture.map (·.mean))) ∧
        v = (if d = .redry then
          { u with
            charges :=
              { u.charges with
                tally := u.charges.tally.set c.species
                  (if u.charges.tally[c.species] < 65535 then u.charges.tally[c.species] + 1
                    else u.charges.tally[c.species]) } }
          else u) ∧
        w = (if c.redryHigh = false ∧ d ≠ .unmeasured ∧ 20 ≤ counts.accepted + counts.redry + counts.rejected ∧
            s.line.config.redryLimit * (counts.accepted + counts.redry + counts.rejected) < counts.redry * 1000 then
          raise .redryHigh .line (.line (some b.number) (some n) (s.leading b))
            (v.modCharge n fun c => { c with redryHigh := true })
          else v) ∧
        ((∀ cls, d = .accept cls → s.packs.hasPlace cls = true) →
          judgeBoard i b s = queueReport (s.boardReport b') w) ∧
        ∀ (cls : Fin 4) (x : State), d = .accept cls → s.packs.hasPlace cls = false →
          x = raise .bayBlock .packing (.packing none s.labels.queue.length) (queueReport (s.boardReport b') w) →
          (∀ ret : ReturnState, x.line.state = ret.state →
            judgeBoard i b s =
              queueReport ((x.lineIn .blocked (some ret)).lineReport .bay) (x.lineIn .blocked (some ret))) ∧
          (x.line.state ≠ .running → x.line.state ≠ .draining → judgeBoard i b s = x)) ∧
  (∀ (s : State) (i : Nat) (b b' : Board) (n : Nat) (c : ChargeRecord) (counts : PlanerCounts), b.charge = some n →
    s.charge? n = some c → b.figures = none → b' = { b with decision := .reject .late } →
    counts = (c.decided (.reject .late) none).counts →
      ∃ u : State, u = (raise .lateDecision .line (.line (some b.number) (some n) s.line.config.redryGate)
          (s.modBoard i fun _ => b')).modCharge n (ChargeRecord.decided (.reject .late) none) ∧
        forceLate i b s = queueReport (s.boardReport b')
          (if c.redryHigh = false ∧ 20 ≤ counts.accepted + counts.redry + counts.rejected ∧
              s.line.config.redryLimit * (counts.accepted + counts.redry + counts.rejected) < counts.redry * 1000 then
            raise .redryHigh .line (.line (some b.number) (some n) (s.leading b))
              (u.modCharge n fun c => { c with redryHigh := true })
            else u)) ∧
  ∀ (s : State) (i : Nat) (b b' : Board) (planed : Nat), s.line.queue[i]? = some b → b' = { b with pastMeter := true } →
    planed = min 4294967295 (s.line.planedLength + b.length.getD 0) →
      ∃ u x : State, u = { s with line := { s.line with queue := s.line.queue.set i b', planedLength := planed } } ∧
        x = (if s.line.knifeFlag = false ∧ s.line.config.knifeThreshold * 1000000 ≤ planed then
          raise .knifeService .line (.line (some b.number) b.charge s.line.config.meterPosition)
            { u with line := { u.line with knifeFlag := true } }
          else u) ∧
        passMeter i b s = if b.decision = .pending then judgeBoard i b' x else x

/-- LINE-CONFIG and KNIFE-RESET (R109, R128). LINE-START (R112, R113): its checks, the start of a STOPPED or TRIPPED line with a
feed charge, the start that clears the tracking, of boards of no charge and of boards of charges, each settled in its record and
a CLOSED record that nothing holds freed (R43, R48), and the start of a TRIPPED line without a feed charge, which drains (R117).
Several freed records are reported in queue order (log entry 16). -/
def Obligations.LineConfigAndStartByState : Prop :=
  (∀ (s : State) (tag : Byte) (payload : List Byte), s.takesAtOnce →
    (∀ cfg : LineConfig, readLineConfig payload = some cfg →
      exec (.lineConfig tag payload) s = .next (
        if s.line.state = .stopped ∨ s.line.state = .tripped then
          ({ s with line := { s.line with config := cfg } } : State).after [] (replyTo 0x1E tag [0x00])
        else s.after [] (replyTo 0x1E tag [0x03]))) ∧
    exec (.knifeReset tag payload) s =
      .next (({ s with line := { s.line with planedLength := 0, knifeFlag := false } } : State).after []
        (replyTo 0x21 tag [0x00]))) ∧
  ∀ (s : State) (tag : Byte) (payload : List Byte) (clear : Bool), s.takesAtOnce →
    readClearTracking payload = some clear →
    (s.line.state = .running ∨ s.line.state = .draining ∨ s.line.state = .blocked ∨ s.port.latchHolds = true ∨
        s.functionsHeld = false ∨ (s.line.state = .stopped ∧ s.feedCharge = none) ∨
        (s.line.state = .tripped ∧ s.line.queue ≠ [] ∧ clear = false) →
      exec (.lineStart tag payload) s = .next (s.after [] (replyTo 0x1F tag [0x03]))) ∧
    (s.port.latchHolds = false → s.functionsHeld = true →
      (clear = false → s.feedCharge.isSome = true →
        s.line.state = .stopped ∨ (s.line.state = .tripped ∧ s.line.queue = []) →
        exec (.lineStart tag payload) s =
          .next ((s.lineIn .running none).after [(s.lineIn .running none).lineReport .request] (replyTo 0x1F tag [0x00]))) ∧
      (∀ u : State, clear = true → s.feedCharge.isSome = true → s.line.state = .stopped ∨ s.line.state = .tripped →
        (∀ b ∈ s.line.queue, b.charge = none) → s.line.redryDemand = false → s.line.rejectDemand = false →
        u = { s with
          line :=
            { s.line with
              queue := []
              infeedCondition := if s.line.infeedCondition = .tracked then .untracked else s.line.infeedCondition } } →
        exec (.lineStart tag payload) s =
          .next ((u.lineIn .running none).after [(u.lineIn .running none).lineReport .request] (replyTo 0x1F tag [0x00]))) ∧
      (∀ (freedNow : ChargeRecord → Bool) (u : State) (freed : List Report), clear = true →
        (s.line.state = .stopped ∧ s.feedCharge.isSome = true) ∨ s.line.state = .tripped → s.numbersApart →
        (∀ (i : Fin 12) (c : ChargeRecord), s.charges.records[i] = some c →
          c.counts.untracked + s.pendingOf c.number ≤ 4294967295) →
        (∀ c, freedNow c = true ↔ (∃ b ∈ s.line.queue, b.charge = some c.number) ∧ c.state = .closed ∧
          (s.settledRecord c).inFlight = 0 ∧ c.packRefs = 0) →
        u = { s with
          line :=
            { s.line with
              queue := [], redryDemand := false, rejectDemand := false
              infeedCondition := if s.line.infeedCondition = .tracked then .untracked else s.line.infeedCondition }
          terminals := vmap
            (fun r => if (r.fn = .redryGate ∧ s.line.redryDemand = true) ∨ (r.fn = .rejectGate ∧ s.line.rejectDemand = true)
              then r.driven false else r) s.terminals
          charges :=
            { s.charges with
              records := vmap (fun o => o.bind fun c => if freedNow c then none else some (s.settledRecord c))
                s.charges.records } } →
        freed = (s.line.queue.filterMap (·.charge)).eraseDups.filterMap (fun n =>
          (s.charge? n).bind fun c => if freedNow c then some (s.settledRecord c).freedReport else none) →
        (s.feedCharge.isSome = true →
          exec (.lineStart tag payload) s =
            .next ((u.lineIn .running none).after (freed ++ [(u.lineIn .running none).lineReport .request])
              (replyTo 0x1F tag [0x00]))) ∧
        (s.feedCharge = none → s.packs.held ≠ [] →
          exec (.lineStart tag payload) s =
            .next ((u.lineIn .draining none).after (freed ++ [(u.lineIn .draining none).lineReport .request])
              (replyTo 0x1F tag [0x00]))) ∧
        (s.feedCharge = none → s.packs.held = [] →
          exec (.lineStart tag payload) s =
            .next (((u.lineIn .draining none).lineIn .stopped none).after
              (freed ++ [(u.lineIn .draining none).lineReport .request,
                ((u.lineIn .draining none).lineIn .stopped none).lineReport .drained])
              (replyTo 0x1F tag [0x00])))) ∧
      (clear = false → s.feedCharge = none → s.line.state = .tripped → s.line.queue = [] →
        (s.packs.held ≠ [] →
          exec (.lineStart tag payload) s =
            .next ((s.lineIn .draining none).after [(s.lineIn .draining none).lineReport .request]
              (replyTo 0x1F tag [0x00]))) ∧
        (s.packs.held = [] →
          exec (.lineStart tag payload) s =
            .next (((s.lineIn .draining none).lineIn .stopped none).after
              [(s.lineIn .draining none).lineReport .request,
                ((s.lineIn .draining none).lineIn .stopped none).lineReport .drained]
              (replyTo 0x1F tag [0x00])))))

/-- LINE-STOP in every line state (R114). -/
def Obligations.LineStopByState : Prop :=
  ∀ (s : State) (tag : Byte) (payload : List Byte), s.takesAtOnce →
    (s.line.state = .running ∨ s.line.state = .draining ∨ s.line.state = .blocked →
      exec (.lineStop tag payload) s =
        .next ((s.lineIn .stopped none).after [(s.lineIn .stopped none).lineReport .request] (replyTo 0x20 tag [0x00]))) ∧
    (s.line.state = .stopped → exec (.lineStop tag payload) s = .next (s.after [] (replyTo 0x20 tag [0x00]))) ∧
    (s.line.state = .tripped → exec (.lineStop tag payload) s = .next (s.after [] (replyTo 0x20 tag [0x03])))

/-! ## Pack builder -/

/-- PACK-CLOSE of an OPEN pack (R136, R137) and the admission of its label (R148): behind other labels; in an empty queue, where
its record is composed and its transmission begins (R150 to R152); and with a full queue, where the pack waits and
LABEL_QUEUE_FULL is raised before PACK-CLOSED is queued (log entry 13). The bays that refuse it, and PACK-TARGET (R138). -/
def Obligations.PackCloseAndTarget : Prop :=
  (∀ (s : State) (tag : Byte) (b : Fin 8), s.takesAtOnce →
    ((s.packs.bays[b] = none ∨ ∃ p, s.packs.bays[b] = some p ∧ p.state ≠ .opened) →
      exec (.packClose tag [byteOf b]) s = .next (s.after [] (replyTo 0x23 tag [0x03]))) ∧
    ∀ (p : Pack) (closed : LabelState → Pack) (entry : LabelEntry) (put : LabelState → State),
      s.packs.bays[b] = some p → p.state = .opened →
      (∀ l, closed l = { p with
        state := .closed, closing := some ⟨gatherFlags s p.lineage, .request, s.now, l, 0⟩ }) →
      (∀ l, put l = { s with packs := { s.packs with bays := s.packs.bays.set b (some (closed l)) } }) →
      entry = ⟨b, p.number, false, 0, false, false⟩ →
      (s.labels.queue ≠ [] → s.labels.queue.length < 4 →
        exec (.packClose tag [byteOf b]) s =
          .next (({ put .queued with labels := { s.labels with queue := s.labels.queue ++ [entry] } } : State).after
            [.packClosed b (closed .queued)] (replyTo 0x23 tag [0x00]))) ∧
      (∀ (e : LineageEntry) (rest : List LineageEntry) (first : ChargeRecord) (record : LabelRecord),
        s.labels.queue = [] → p.lineage = e :: rest → s.charge? e.charge = some first →
        record =
          { pack := p.number, cls := p.cls, speciesNumber := first.species
            speciesName := (s.entryInForce first.species).map (·.name)
            thicknessClass := match s.store.slots[first.slot] with
              | .valid r => some r.thicknessClass
              | .empty | .writing | .invalid => none
            pieces := p.pieces, lengthTenths := roundHalfUp p.lengthSum 100, volumeDm3 := volumeDm3 p.volume
            mcMean := roundHalfUp p.meanSum p.pieces, mcMax := p.highestMax
            charges := p.lineage.filterMap fun e =>
              (s.charge? e.charge).map fun c => ⟨e.charge, c.species, c.dryingKiln, c.dried, e.pieces⟩
            mixed := if p.mixed then some p.unlisted else none, flags := gatherFlags s p.lineage, closeReason := .request
            closeTime := s.now, time := s.now, reprint := none } →
        exec (.packClose tag [byteOf b]) s =
          .next (({ put .queued with labels := s.labels.sends (some record) entry [] } : State).after
            [.packClosed b (closed .queued)] (replyTo 0x23 tag [0x00]))) ∧
      (4 ≤ s.labels.queue.length →
        exec (.packClose tag [byteOf b]) s =
          .next ((raise .labelQueueFull .packing (.packing (some p.number) s.labels.queue.length)
            { put .waitingSlot with
              labels := { s.labels with waiting := s.labels.waiting ++ [⟨b, p.number⟩] } }).after
            [.packClosed b (closed .waitingSlot)] (replyTo 0x23 tag [0x00])))) ∧
  ∀ (s : State) (tag : Byte) (payload : List Byte), s.takesAtOnce →
    (∀ (c : Fin 4) (t : Nat), readTarget payload = some (c, t) →
      exec (.packTarget tag payload) s =
        .next (({ s with packs := { s.packs with targets := s.packs.targets.set c t } } : State).after []
          (replyTo 0x24 tag [0x00]))) ∧
    (readTarget payload = none → exec (.packTarget tag payload) s = .next (s.after [] (replyTo 0x24 tag [0x02])))

/-- BAY-CLEARED (R47, R141, R142): the bay becomes FREE, the listed charges lose a reference, a BLOCKED line with every accepted
board placed goes back to its return state, and a CLOSED charge that nothing holds any more is freed, in lineage order (R43; log
entry 16). A board held for the class opens a pack in the FREE bay (R134, R140). -/
def Obligations.BayClearedFreesTheBay : Prop :=
  ∀ (s : State) (tag : Byte) (b : Fin 8), s.takesAtOnce →
    ((s.packs.bays[b] = none ∨ ∃ p, s.packs.bays[b] = some p ∧ p.printed = false) →
      exec (.bayCleared tag [byteOf b]) s = .next (s.after [] (replyTo 0x25 tag [0x03]))) ∧
    ∀ (p : Pack) (u : State), s.packs.bays[b] = some p → p.printed = true →
      u = (p.lineage.map (·.charge)).foldl
        (fun s n => s.modCharge n fun c => { c with packRefs := c.packRefs - 1 })
        { s with packs := { s.packs with bays := s.packs.bays.set b none } } →
      (∀ (freeable : Nat → Bool) (free : State → State) (freed : List Report), s.packs.held = [] →
        (p.lineage.map (·.charge)).Nodup →
        (∀ n, freeable n = true ↔ ∃ c, u.charge? n = some c ∧ c.state = .closed ∧ c.inFlight = 0 ∧ c.packRefs = 0) →
        (∀ x, free x = ((p.lineage.map (·.charge)).filter freeable).foldl (fun y n => y.dropCharge n) x) →
        freed = ((p.lineage.map (·.charge)).filter freeable).filterMap
          (fun n => (u.charge? n).map ChargeRecord.freedReport) →
        (s.line.state ≠ .blocked →
          exec (.bayCleared tag [byteOf b]) s = .next ((free u).after freed (replyTo 0x25 tag [0x00]))) ∧
        (s.line.state = .blocked → s.line.returnTo = some .running →
          (∀ x ∈ s.line.queue, ∀ c, x.decision = .accept c → u.packs.hasPlace c = true) →
          exec (.bayCleared tag [byteOf b]) s =
            .next ((free (u.lineIn .running none)).after ((u.lineIn .running none).lineReport .bay :: freed)
              (replyTo 0x25 tag [0x00]))) ∧
        (s.line.state = .blocked → (∃ x ∈ s.line.queue, ∃ c, x.decision = .accept c ∧ u.packs.hasPlace c = false) →
          exec (.bayCleared tag [byteOf b]) s = .next ((free u).after freed (replyTo 0x25 tag [0x00]))) ∧
        ∀ v : State, v = u.lineIn .draining none → s.line.state = .blocked → s.line.returnTo = some .draining →
          (∀ x ∈ s.line.queue, ∀ c, x.decision = .accept c → u.packs.hasPlace c = true) →
          (s.line.queue ≠ [] →
            exec (.bayCleared tag [byteOf b]) s =
              .next ((free v).after (v.lineReport .bay :: freed) (replyTo 0x25 tag [0x00]))) ∧
          (s.line.queue = [] →
            exec (.bayCleared tag [byteOf b]) s =
              .next ((free (v.lineIn .stopped none)).after
                (v.lineReport .bay :: (v.lineIn .stopped none).lineReport .drained :: freed) (replyTo 0x25 tag [0x00])))) ∧
      ∀ (h : HeldBoard) (f : Fin 8) (c : ChargeRecord) (v : State),
        (∀ e ∈ p.lineage, ∀ c, s.charge? e.charge = some c → c.state ≠ .closed) → s.packs.held = [h] → h.cls = bayClass b →
        u.packs.openBay h.cls = none → u.packs.freeBay h.cls = some f → s.charge? h.charge = some c → c.state ≠ .closed →
        s.packs.targets[h.cls] ≠ 1 →
        v = ({ u with
            store := { s.store with nextPack := nextPack s.store.nextPack }
            packs :=
              { u.packs with
                held := []
                bays := u.packs.bays.set f (some
                  { number := s.store.nextPack, cls := h.cls, state := .opened, target := s.packs.targets[h.cls]
                    pieces := 1, lengthSum := h.length, volume := h.length * c.width * c.thickness, meanSum := h.mean
                    highestMax := h.max, firstBoard := s.now, lastBoard := s.now, lineage := [⟨h.charge, 1⟩]
                    mixed := false, unlisted := 0, closing := none }) } } : State).modCharge h.charge
          (fun c => { c with inFlight := c.inFlight - 1, packRefs := c.packRefs + 1 }) →
        (s.line.state = .stopped ∨ s.line.state = .running ∨ s.line.state = .tripped →
          exec (.bayCleared tag [byteOf b]) s = .next (v.after [] (replyTo 0x25 tag [0x00]))) ∧
        (s.line.state = .draining → s.line.queue = [] →
          exec (.bayCleared tag [byteOf b]) s =
            .next ((v.lineIn .stopped none).after [(v.lineIn .stopped none).lineReport .drained]
              (replyTo 0x25 tag [0x00]))) ∧
        (s.line.state = .blocked → (∃ x ∈ s.line.queue, ∃ c, x.decision = .accept c ∧ v.packs.hasPlace c = false) →
          exec (.bayCleared tag [byteOf b]) s = .next (v.after [] (replyTo 0x25 tag [0x00]))) ∧
        (s.line.state = .blocked → s.line.returnTo = some .running →
          (∀ x ∈ s.line.queue, ∀ c, x.decision = .accept c → v.packs.hasPlace c = true) →
          exec (.bayCleared tag [byteOf b]) s =
            .next ((v.lineIn .running none).after [(v.lineIn .running none).lineReport .bay] (replyTo 0x25 tag [0x00])))

/-- A board that leaves the outfeed eye joins the OPEN pack of its class (R133, R135): pieces, sums, lineage, and the counts of
its charge; where it fills the pack, the pack closes by COUNT (R136, R148). With no OPEN pack it opens one in the first FREE
bay (R134); with no place it joins the hold list, or is counted as overflow where that is full and BAY_BLOCK is raised (R139).
At the outfeed eye (R127), by a pin change with a filter distance of 0 or by the encoder advance that ends the filter distance
(R119, R120): an ACCEPT head past the reject gate leaves the queue for the pack builder and the drain test follows (R117); any
other head, or none, raises TRACK_MISMATCH and trips the line (R115). -/
def Obligations.BoardJoinsTheOpenPack : Prop :=
  (∀ (s : State) (h : HeldBoard) (b : Fin 8) (p new : Pack) (c : ChargeRecord), s.packs.openBay h.cls = some b →
    s.packs.bays[b] = some p → s.charge? h.charge = some c → c.state ≠ .closed → 0 < p.pieces →
    (∀ lineage mixed unlisted, new = { p with
        pieces := p.pieces + 1, lengthSum := p.lengthSum + h.length
        volume := p.volume + h.length * c.width * c.thickness, meanSum := p.meanSum + h.mean
        highestMax := max p.highestMax h.max, lastBoard := s.now
        lineage := lineage, mixed := mixed, unlisted := unlisted } →
      (∀ (before after : List LineageEntry) (n : Nat) (u : State), p.lineage = before ++ ⟨h.charge, n⟩ :: after →
        (∀ e ∈ before ++ after, e.charge ≠ h.charge) → lineage = before ++ ⟨h.charge, n + 1⟩ :: after → mixed = p.mixed →
        unlisted = p.unlisted →
        u = ({ s with packs := { s.packs with bays := s.packs.bays.set b (some new) } } : State).modCharge h.charge
          (fun c => { c with inFlight := c.inFlight - 1 }) →
        (p.pieces + 1 ≠ p.target → placeBoard h s = u) ∧
        ∀ closed : Pack, p.pieces + 1 = p.target → s.labels.queue ≠ [] → s.labels.queue.length < 4 →
          closed = { new with
            state := .closed, closing := some ⟨gatherFlags s lineage, .count, s.now, .queued, 0⟩ } →
          placeBoard h s = queueReport (.packClosed b closed)
            { u with
              packs := { u.packs with bays := s.packs.bays.set b (some closed) }
              labels := { s.labels with queue := s.labels.queue ++ [⟨b, p.number, false, 0, false, false⟩] } }) ∧
      ((∀ e ∈ p.lineage, e.charge ≠ h.charge) → p.lineage.length < 4 → lineage = p.lineage ++ [⟨h.charge, 1⟩] →
        mixed = p.mixed → unlisted = p.unlisted → p.pieces + 1 ≠ p.target →
        placeBoard h s = ({ s with packs := { s.packs with bays := s.packs.bays.set b (some new) } } : State).modCharge
          h.charge fun c => { c with inFlight := c.inFlight - 1, packRefs := c.packRefs + 1 }) ∧
      ((∀ e ∈ p.lineage, e.charge ≠ h.charge) → 4 ≤ p.lineage.length → lineage = p.lineage → mixed = true →
        unlisted = p.unlisted + 1 → p.pieces + 1 ≠ p.target →
        placeBoard h s = ({ s with packs := { s.packs with bays := s.packs.bays.set b (some new) } } : State).modCharge
          h.charge fun c => { c with inFlight := c.inFlight - 1 }))) ∧
  (∀ (s : State) (h : HeldBoard) (c : ChargeRecord), s.packs.openBay h.cls = none → s.charge? h.charge = some c →
    (∀ f : Fin 8, s.packs.freeBay h.cls = some f → s.packs.targets[h.cls] ≠ 1 →
      placeBoard h s = ({ s with
          store := { s.store with nextPack := nextPack s.store.nextPack }
          packs := { s.packs with bays := s.packs.bays.set f (some
            { number := s.store.nextPack, cls := h.cls, state := .opened, target := s.packs.targets[h.cls]
              pieces := 1, lengthSum := h.length, volume := h.length * c.width * c.thickness, meanSum := h.mean
              highestMax := h.max, firstBoard := s.now, lastBoard := s.now, lineage := [⟨h.charge, 1⟩], mixed := false
              unlisted := 0, closing := none }) } } : State).modCharge h.charge
        fun c => { c with inFlight := c.inFlight - 1, packRefs := c.packRefs + 1 }) ∧
    (s.packs.freeBay h.cls = none → s.packs.held.length < 16 →
      placeBoard h s = { s with packs := { s.packs with held := s.packs.held ++ [h] } }) ∧
    (s.packs.freeBay h.cls = none → 16 ≤ s.packs.held.length → c.state ≠ .closed →
      placeBoard h s = raise .bayBlock .packing (.packing none s.labels.queue.length)
        (({ s with packs := { s.packs with overflow := min 65535 (s.packs.overflow + 1) } } : State).modCharge h.charge
          fun c => { c with inFlight := c.inFlight - 1 }))) ∧
  ∀ (s : State) (level : Bool) (edge : Nat) (command : Instr) (u : State), s.port.dropOwed = none →
    s.takes .outfeed level edge command u →
    (level = false → exec command s = .next (u.after [] none)) ∧
    (∀ (b : Board) (rest : List Board) (c : Fin 4) (n : Nat) (m : BoardMoisture) (f : BoardFigures) (v : State),
      level = true → s.line.queue = b :: rest → b.decision = .accept c → s.line.config.rejectGate ≤ u.leading b →
      b.charge = some n → b.figures = some f → f.moisture = some m →
      s.line.redryDemand = rest.any (·.spansRedry) → s.line.rejectDemand = rest.any (·.spansReject) →
      v = placeBoard ⟨b.number, n, c, b.length.getD 0, m.mean, m.max⟩ { u with line := { u.line with queue := rest } } →
      (v.line.state ≠ .draining ∨ rest ≠ [] ∨ v.packs.held ≠ [] →
        exec command s = .next (v.after [] none)) ∧
      (v.line.state = .draining → rest = [] → v.packs.held = [] →
        exec command s =
          .next ((v.lineIn .stopped none).after [(v.lineIn .stopped none).lineReport .drained] none))) ∧
    ∀ (board charge : Option Nat) (v : State), level = true →
      (s.line.queue = [] ∧ board = none ∧ charge = none) ∨
        (∃ (b : Board) (rest : List Board), s.line.queue = b :: rest ∧ board = some b.number ∧ charge = b.charge ∧
          ((∀ c, b.decision ≠ .accept c) ∨ u.leading b < s.line.config.rejectGate)) →
      v = raise .trackMismatch .line (.line board charge s.line.config.outfeed) u →
      (v.line.state = .tripped → exec command s = .next (v.after [] none)) ∧
      (v.line.state ≠ .tripped →
        exec command s =
          .next ((v.lineIn .tripped none).after [(v.lineIn .tripped none).lineReport .fault] none))

/-! ## Label unit -/

/-- The exchange with the printer (R152 to R155): after the END line the answer is awaited; each awaited NAK raises PRINTER_NAK,
the first of an entry sends the record again, and a later one is a failed transmission, as BUSY and the answer timer are:
PRINTER_TIMEOUT is raised once for the entry and a retry waited for. The retry timer sends the record again, and another line does
nothing. An awaited ACK makes the pack LABELLED and PRINTED; the pack at the head of the waiting list takes the freed place (R149); the new
head is composed and its transmission begins (R150 to R152), and the link rests where no label waits. -/
def Obligations.LabelExchange : Prop :=
  (∀ (s : State) (e : LabelEntry) (rest : List LabelEntry) (sent : LabelEntry → LabelUnit), s.port.dropOwed = none →
    s.labels.queue = e :: rest →
    (∀ x, sent x = { s.labels with
      queue := { x with transmissions := min 65535 (x.transmissions + 1) } :: rest, link := .sending, answerTimer := none
      retryTimer := some 0 }) →
    (s.labels.link = .sending →
      exec .labelEndSent s =
        .next (({ s with labels := { s.labels with link := .answerWait, answerTimer := some 0 } } : State).after [] none)) ∧
    (s.labels.link = .retryWait →
      exec .retryTimerExpiry s = .next (({ s with labels := sent e } : State).after [] none)) ∧
    (s.labels.link = .answerWait →
      (∀ u : State, u = raise .printerNak .packing (.packing (some e.pack) s.labels.queue.length) s →
        (e.nakResendUsed = false →
          exec .nakReceived s =
            .next (({ u with labels := sent { e with nakResendUsed := true } } : State).after [] none)) ∧
        (e.nakResendUsed = true → e.timeoutReported = true →
          exec .nakReceived s =
            .next (({ u with labels := { s.labels with link := .retryWait, answerTimer := none } } : State).after [] none)) ∧
        ∀ w : State, e.nakResendUsed = true → e.timeoutReported = false →
          w = raise .printerTimeout .packing (.packing (some e.pack) s.labels.queue.length)
            { u with labels := { s.labels with queue := { e with timeoutReported := true } :: rest } } →
          exec .nakReceived s =
            .next (({ w with labels := { w.labels with link := .retryWait, answerTimer := none } } : State).after [] none)) ∧
      (e.timeoutReported = true →
        exec .busyReceived s =
          .next (({ s with labels := { s.labels with link := .retryWait, answerTimer := none } } : State).after [] none) ∧
        exec .answerTimeout s =
          .next (({ s with labels := { s.labels with link := .retryWait, answerTimer := none } } : State).after [] none)) ∧
      ∀ u : State, e.timeoutReported = false →
        u = raise .printerTimeout .packing (.packing (some e.pack) s.labels.queue.length)
          { s with labels := { s.labels with queue := { e with timeoutReported := true } :: rest } } →
        exec .busyReceived s =
          .next (({ u with labels := { u.labels with link := .retryWait, answerTimer := none } } : State).after [] none) ∧
        exec .answerTimeout s =
          .next (({ u with labels := { u.labels with link := .retryWait, answerTimer := none } } : State).after [] none)) ∧
    ∀ line : List Byte, printerAnswer line = none → exec (.printerLineOther line) s = .next (s.after [] none)) ∧
  ∀ (s : State) (e : LabelEntry) (rest : List LabelEntry) (p new : Pack) (c : Closing) (u : State) (done : Report),
    s.port.dropOwed = none → s.labels.link = .answerWait → s.labels.queue = e :: rest →
    s.packs.bays[e.bay] = some p → p.closing = some c →
    new = { p with state := .labelled, closing := some { c with label := .printed } } →
    u = { s with packs := { s.packs with bays := s.packs.bays.set e.bay (some new) } } →
    done = .labelDone e.bay e.pack e.reprint c.reprints e.transmissions →
    (s.labels.waiting = [] →
      (rest = [] →
        exec .ackReceived s =
          .next (({ u with labels := ⟨[], [], none, .idle, none, none⟩ } : State).after [done] none)) ∧
      ∀ (h : LabelEntry) (tail : List LabelEntry), rest = h :: tail →
        exec .ackReceived s =
          .next (({ u with labels := s.labels.sends (composeLabel h u) h tail } : State).after [done] none)) ∧
    ∀ (w : WaitingPack) (ws : List WaitingPack) (q : Pack) (d : Closing) (v : State) (h : LabelEntry)
      (tail : List LabelEntry), s.labels.waiting = w :: ws → w.bay ≠ e.bay → s.packs.bays[w.bay] = some q →
      q.closing = some d →
      v = { u with
        packs := { u.packs with
          bays := u.packs.bays.set w.bay (some { q with closing := some { d with label := .queued } }) } } →
      rest ++ [⟨w.bay, w.pack, false, 0, false, false⟩] = h :: tail →
      exec .ackReceived s =
        .next (({ v with labels := { s.labels.sends (composeLabel h v) h tail with waiting := ws } } : State).after
          [done] none)

/-- REPRINT (R156) of a printed pack, behind other labels or into an empty queue, where its record is composed and its
transmission begins (R150, R152); refused where no bay holds a printed pack of the number, and where the queue is full. Where
two bays hold one, it takes the first: the model's choice (log entry 17). -/
def Obligations.ReprintQueuesTheLabelAgain : Prop :=
  ∀ (s : State) (tag : Byte) (n : Nat), s.takesAtOnce → n < 4294967296 →
    ((∀ (b : Fin 8) (p : Pack), s.packs.bays[b] = some p → p.number = n → p.printed = false) →
      exec (.reprint tag (le 4 n)) s = .next (s.after [] (replyTo 0x28 tag [0x09]))) ∧
    ∀ (b : Fin 8) (p : Pack), s.packs.bays[b] = some p → p.number = n → p.printed = true →
      (4 ≤ s.labels.queue.length →
        exec (.reprint tag (le 4 n)) s = .next (s.after [] (replyTo 0x28 tag [0x05]))) ∧
      ∀ (c : Closing) (new : Pack) (u : State) (entry : LabelEntry), p.closing = some c →
        (∀ (b' : Fin 8) (q : Pack), b' < b → s.packs.bays[b'] = some q → q.number = n → q.printed = false) →
        new = { p with closing := some { c with label := .queued, reprints := min 255 (c.reprints + 1) } } →
        u = { s with packs := { s.packs with bays := s.packs.bays.set b (some new) } } →
        entry = ⟨b, n, true, 0, false, false⟩ →
        (s.labels.queue ≠ [] → s.labels.queue.length < 4 →
          exec (.reprint tag (le 4 n)) s =
            .next (({ u with labels := { s.labels with queue := s.labels.queue ++ [entry] } } : State).after []
              (replyTo 0x28 tag [0x00]))) ∧
        (s.labels.queue = [] →
          exec (.reprint tag (le 4 n)) s =
            .next (({ u with labels := s.labels.sends (composeLabel entry u) entry [] } : State).after []
              (replyTo 0x28 tag [0x00])))

/-! ## Fault unit -/

/-- FAULT-CONFIG, FAULT-ACTIONS, FAULT-LOG-CLEAR and FAULT-COUNT-CLEAR (R160, R161, R170, R171). -/
def Obligations.FaultRequestsWriteTheirTables : Prop :=
  ∀ (s : State) (tag : Byte) (payload : List Byte), s.takesAtOnce →
    (∀ (k : FaultKind) (cfg : KindConfig), readKindConfig payload = some (k, cfg) →
      (k.fixed = false →
        exec (.faultConfig tag payload) s =
          .next (({ s with faults := { s.faults with kinds := s.faults.kinds.set k.index cfg } } : State).after []
            (replyTo 0x2A tag [0x00]))) ∧
      (k.fixed = true →
        exec (.faultConfig tag payload) s =
          .next (s.after [] (replyTo 0x2A tag [if cfg = ⟨.critical, false, true⟩ then 0x00 else 0x07])))) ∧
    (readKindConfig payload = none → exec (.faultConfig tag payload) s = .next (s.after [] (replyTo 0x2A tag [0x02]))) ∧
    (∀ (v : Severity) (a : ActionSet), readActions payload = some (v, a) →
      exec (.faultActions tag payload) s =
        .next (({ s with faults := { s.faults with actions := s.faults.actions.set v.index a } } : State).after []
          (replyTo 0x2B tag [0x00]))) ∧
    ∀ d : Fin 10,
      exec (.faultLogClear tag [byteOf d]) s =
        .next (({ s with
            faults := { s.faults with logs := s.faults.logs.set d { s.faults.logs[d] with first := none, next := none } } } :
          State).after [] (replyTo 0x2C tag [0x00])) ∧
      exec (.faultCountClear tag [byteOf d]) s =
        .next (({ s with
            faults := { s.faults with logs := s.faults.logs.set d { s.faults.logs[d] with counter := 0, overflow := false } } } :
          State).after [] (replyTo 0x2D tag [0x00]))

/-- A raise (R162 to R168): a masked kind is ignored whole; an unmasked one is logged in the first free record, counted where
selected, and acted on by the action set of its severity at the kilns of its domain and at the line. Its FAULT report, with
the placement, the counter and the action set, is queued before LINE-STATE of a trip and KILN-STATE of a hold or park
(R71, R75, R80, R111, R115, R168). -/
def Obligations.RaiseIsLoggedCountedAndActedOn : Prop :=
  ∀ (kind : FaultKind) (d : Domain) (x : FaultContext) (s : State) (cfg : KindConfig) (a : ActionSet) (old new : DomainLog),
    cfg = s.faults.kinds[kind.index] → a = s.faults.actions[cfg.severity.index] → old = s.faults.logs[d.index] →
    new = (raise kind d x s).faults.logs[d.index] →
    (cfg.masked = true → raise kind d x s = s) ∧
    (cfg.masked = false →
      (raise kind d x s).faults = { s.faults with logs := s.faults.logs.set d.index new } ∧
      (old.first = none → new.first = some ⟨kind, cfg.severity, s.now, x⟩ ∧ new.next = old.next) ∧
      (old.first ≠ none → new.first = old.first ∧
        new.next = if old.next = none then some ⟨kind, cfg.severity, s.now, x⟩ else old.next) ∧
      (cfg.counted = false → new.counter = old.counter ∧ new.overflow = old.overflow) ∧
      (cfg.counted = true → old.counter < 127 → new.counter = old.counter + 1 ∧ new.overflow = old.overflow) ∧
      (cfg.counted = true → old.counter = 127 → new.counter = 127 ∧ new.overflow = true) ∧
      (kind = .supervisionExpired → (raise kind d x s).kilns = s.kilns ∧ (raise kind d x s).line = s.line) ∧
      (kind ≠ .supervisionExpired →
        (a.stopLine = true → (raise kind d x s).line.state = .tripped) ∧
        (a.stopLine = false → (raise kind d x s).line = s.line) ∧
        (d = .line ∨ d = .packing ∨ d = .links ∨ (a.holdKiln = false ∧ a.parkKiln = false) →
          (raise kind d x s).kilns = s.kilns) ∧
        ∀ k : Fin 6,
          (∀ j : Fin 6, d = .kiln j → j ≠ k → (raise kind d x s).kilns[k] = s.kilns[k]) ∧
          (d = .kiln k ∨ d = .system →
            (∀ ph : Phase, s.kilns[k].state = ph.state → a.holdKiln = true ∨ a.parkKiln = true →
              (raise kind d x s).kilns[k] = { s.kilns[k] with
                state := if a.parkKiln = true then .park else .hold, resume := some ph
                level := match cfg.severity with | .advisory => 1 | .degrade => 2 | .critical => 3 }) ∧
            (s.kilns[k].state = .hold ∨ s.kilns[k].state = .park → a.holdKiln = true ∨ a.parkKiln = true →
              (raise kind d x s).kilns[k] = { s.kilns[k] with
                state := if a.parkKiln = true then .park else s.kilns[k].state
                level := max s.kilns[k].level (match cfg.severity with | .advisory => 1 | .degrade => 2 | .critical => 3) }) ∧
            (s.kilns[k].state = .idle ∨ s.kilns[k].state = .loaded ∨ s.kilns[k].state = .done →
              (raise kind d x s).kilns[k] = s.kilns[k]))) ∧
      ∀ f : State, kind ≠ .supervisionExpired →
        f = (if a.report then queueReport
            (.fault d ⟨kind, cfg.severity, s.now, x⟩
              (if old.first = none then .first else if old.next = none then .next else .none) new.counter new.overflow a)
            { s with faults := (raise kind d x s).faults }
          else { s with faults := (raise kind d x s).faults }) →
        (d = .line ∨ d = .packing ∨ d = .links →
          (a.stopLine = false ∨ s.line.state = .tripped → raise kind d x s = f) ∧
          (a.stopLine = true → s.line.state ≠ .tripped →
            raise kind d x s = queueReport ((f.lineIn .tripped none).lineReport .fault) (f.lineIn .tripped none))) ∧
        ∀ (k : Fin 6) (ph : Phase) (c : Kiln), d = .kiln k → s.kilns[k].state = ph.state →
          a.holdKiln = true ∨ a.parkKiln = true → a.stopLine = false → c = (raise kind d x s).kilns[k] →
          raise kind d x s = queueReport (c.report k .fault)
            { f with kilns := s.kilns.set k c, bus := s.bus.joined k .climate })

/-! ## Message port -/

/-- A request frame whose check holds runs the command its kind names, when the port can take it at once (R176, R179, R180). A
frame whose check fails or whose kind is not a request's raises FRAME_CHECK, one that cannot be taken waits, and one that
finds the buffer full raises RX_OVERRUN (R179). A request of an unassigned kind is answered UNKNOWN (R180). -/
def Obligations.FrameRunsTheRequestItNames : Prop :=
  (∀ (s : State) (kind tag : Byte) (payload : List Byte), s.takesAtOnce → s.port.receiver = .hunt → s.port.begin = s.port →
    kind.toNat < 0x80 →
      exec (.frameReceived kind tag payload (Frame.crc ⟨kind, tag, payload⟩)) s = exec (requestOf kind tag payload) s) ∧
  ∀ (s : State) (kind tag : Byte) (payload : List Byte) (check : BitVec 16), s.port.dropOwed = none →
    s.port.receiver = .hunt →
    (s.port.requests = [] → check ≠ Frame.crc ⟨kind, tag, payload⟩ ∨ 0x80 ≤ kind.toNat →
      exec (.frameReceived kind tag payload check) s =
        .next ((raise .frameCheck .links (.links none (some kind)) s).after [] none)) ∧
    (check = Frame.crc ⟨kind, tag, payload⟩ → kind.toNat < 0x80 → s.port.replies.length = 4 → s.port.sending ≠ none →
      (s.port.requests.length < 4 →
        exec (.frameReceived kind tag payload check) s =
          .next ({ s with port := { s.port with requests := s.port.requests ++ [⟨kind, tag, payload⟩] } })) ∧
      (s.port.requests.length = 4 →
        exec (.frameReceived kind tag payload check) s =
          .next (raise .rxOverrun .links (.links none (some kind)) s))) ∧
    (s.takesAtOnce →
      exec (.unknownRequest kind tag payload) s = .next (s.after [] (some ⟨0x80, tag, [0x01]⟩)))

/-- What a byte, a gap, a byte without its stop bit and the idle line make of the receiver (R178, R192). -/
def Obligations.ReceiverPhases : Prop :=
  ∀ (s : State) (b : Byte) (put : Receiver → State), s.port.dropOwed = none →
    (∀ r, put r = ({ s with port := { s.port with receiver := r } } : State).after [] none) →
    (s.port.receiver = .hunt →
      exec (.hostByteReceived b) s = .next (put (if b = 0xA5 then .length else .hunt)) ∧
      exec .frameGapTimeout s = .next (put .hunt) ∧ exec .byteWithoutStopBit s = .next (put .hunt) ∧
      exec .receiveLineIdle s = .next (put .hunt)) ∧
    (s.port.receiver = .huntAfterGap → exec (.hostByteReceived b) s = .next (put .hunt)) ∧
    (s.port.receiver = .length →
      exec (.hostByteReceived b) s = .next (put (if b.toNat ≤ 240 then .body b [] else .hunt)) ∧
      exec .frameGapTimeout s = .next (put .huntAfterGap) ∧ exec .byteWithoutStopBit s = .next (put .hunt)) ∧
    (∀ (len : Byte) (taken : List Byte), s.port.receiver = .body len taken →
      exec (.hostByteReceived b) s =
        .next (put (if taken.length + 1 = len.toNat + 2 then .check len (taken ++ [b]) none else .body len (taken ++ [b]))) ∧
      exec .frameGapTimeout s = .next (put .huntAfterGap) ∧ exec .byteWithoutStopBit s = .next (put .hunt)) ∧
    (∀ (len : Byte) (taken : List Byte), s.port.receiver = .check len taken none →
      exec (.hostByteReceived b) s = .next (put (.check len taken (some b))) ∧
      exec .frameGapTimeout s = .next (put .huntAfterGap) ∧ exec .byteWithoutStopBit s = .next (put .hunt)) ∧
    (s.port.receiver = .ignoring →
      exec (.hostByteReceived b) s = .next (put .ignoring) ∧ exec .frameGapTimeout s = .next (put .ignoring) ∧
      exec .byteWithoutStopBit s = .next (put .ignoring) ∧ exec .receiveLineIdle s = .next (put .hunt))

/-- The bytes of a frame, taken one by one from HUNT, are the frame received (R175, R178): start byte, length, kind, tag,
payload, and the check with its low byte first. -/
def Obligations.BytesOfAFrameAreTheFrame : Prop :=
  ∀ (s : State) (kind tag : Byte) (payload : List Byte) (check : BitVec 16), s.port.dropOwed = none →
    s.port.receiver = .hunt → s.port.begin = s.port → payload.length ≤ 240 →
      receiveBytes (0xA5 :: byteOf payload.length :: kind :: tag :: payload ++
          [check.extractLsb' 0 8, check.extractLsb' 8 8]) s =
        exec (.frameReceived kind tag payload check) s

/-- The transmitter at the end of a frame (R182, R185): the head reply first, then the oldest HIGH report, then the oldest LOW
one, with GAP as the gap flag stands. Behind RESTART only replies are begun, and once its own reply has been sent the start is due
(R192). A reply that leaves its queue makes room: the request that waits alone is taken and runs the command its kind names, and
of several the oldest is taken first (R180), shown by one of an unassigned kind, which is answered UNKNOWN. -/
def Obligations.TransmitterTakesTheNextFrame : Prop :=
  ∀ (s : State) (m : Sending) (put : Port → State), s.port.dropOwed = none → s.port.sending = some m →
    (∀ p, put p = { s with port := p }) →
    (s.port.requests = [] → s.port.restart = .none →
      (∀ (f : Frame) (rest : List Frame), s.port.replies = f :: rest →
        exec .transmitComplete s = .next (put { s.port with sending := some (.reply f), replies := rest })) ∧
      (∀ (older younger : List ReportEntry) (e : ReportEntry), s.port.replies = [] →
        s.port.reports = older ++ e :: younger →
        (e.high = true ∧ ∀ x ∈ older, x.high = false) ∨ (older = [] ∧ ∀ x ∈ e :: younger, x.high = false) →
        exec .transmitComplete s =
          .next (put { s.port with
            sending := some (.report e.report s.port.gap), reports := older ++ younger, gap := false })) ∧
      (s.port.replies = [] → s.port.reports = [] →
        exec .transmitComplete s = .next (put { s.port with sending := none }))) ∧
    (s.port.restart = .awaitingReply →
      (∀ f : Frame, m = .reply f → f.kind = 0xB6 → s.port.replies = [] →
        exec .transmitComplete s = .next (put { s.port with sending := none, restart := .due })) ∧
      ∀ (f : Frame) (rest : List Frame), (∀ g : Frame, m = .reply g → g.kind ≠ 0xB6) → s.port.replies = f :: rest →
        exec .transmitComplete s = .next (put { s.port with sending := some (.reply f), replies := rest })) ∧
    ∀ (f r : Frame) (rest : List Frame), s.port.restart = .none → s.port.replies = f :: rest →
      (rest.length < 4 → r.kind.toNat < 0x80 → s.port.requests = [r] →
        exec .transmitComplete s =
          exec (requestOf r.kind r.tag r.payload)
            (put { s.port with sending := some (.reply f), replies := rest, requests := [] })) ∧
      ∀ waiting : List Frame, rest.length = 3 → 0x36 < r.kind.toNat → s.port.requests = r :: waiting →
        exec .transmitComplete s =
          .next (put { s.port with
            sending := some (.reply f), replies := rest ++ [⟨0x80, r.tag, [0x01]⟩], requests := waiting })

/-- What a queued report makes of the report queue (R183, R184), and REPORTS_DROPPED taken for a gap (R184). -/
def Obligations.ReportsAreQueuedOrDropped : Prop :=
  (∀ (p : Port) (r : Report) (high : Bool), high = p.highKinds.getLsbD r.kind.index →
    (p.subscribed.getLsbD r.kind.index = false → p.queue r = p) ∧
    (p.subscribed.getLsbD r.kind.index = true →
      (p.reports.length < 32 → p.queue r = { p with reports := p.reports ++ [⟨r, high⟩] }) ∧
      (32 ≤ p.reports.length →
        (high = false ∨ (∀ e ∈ p.reports, e.high = true) →
          p.queue r = if p.gap then p else { p with gap := true, dropOwed := some r.kind }) ∧
        ∀ (older younger : List ReportEntry) (e : ReportEntry), high = true → p.reports = older ++ e :: younger →
          (∀ x ∈ older, x.high = true) → e.high = false →
          p.queue r = { p with
            reports := older ++ younger ++ [⟨r, true⟩], gap := true
            dropOwed := if p.gap then p.dropOwed else some e.report.kind }))) ∧
  ∀ s : State,
    (s.port.dropOwed = none → exec .reportsDropped s = .next (s.after [] none)) ∧
    ∀ k : ReportKind, s.port.dropOwed = some k →
      exec .reportsDropped s =
        .next ((raise .reportsDropped .links (.links none (some (byteOf (0xC0 + k.index))))
          { s with port := { s.port with dropOwed := none } }).after [] none)

/-- SUBSCRIBE, SET-CLOCK, CLEAR-START-CAUSES and RESTART (R186, R191, R192, R194). -/
def Obligations.PortRequestsWriteTheirItems : Prop :=
  ∀ (s : State) (tag : Byte) (payload : List Byte) (put : Port → State), s.takesAtOnce → (∀ p, put p = { s with port := p }) →
    (∀ (r : Subscription) (kinds : BitVec 16), readSubscription payload = some r →
      kinds = (if r.replace then r.kinds else s.port.subscribed ||| r.kinds) →
      exec (.subscribe tag payload) s =
        .next ((put { s.port with subscribed := kinds, highKinds := r.high }).after []
          (replyTo 0x30 tag (0x00 :: le 2 kinds.toNat ++ le 2 r.high.toNat)))) ∧
    (readSubscription payload = none → exec (.subscribe tag payload) s = .next (s.after [] (replyTo 0x30 tag [0x02]))) ∧
    (∀ n : Nat, n < 4294967296 →
      exec (.setClock tag (le 4 n)) s =
        .next ((put { s.port with clock := n, clockSet := true }).after [] (replyTo 0x33 tag [0x00]))) ∧
    exec (.clearStartCauses tag payload) s =
      .next ((put { s.port with causes := ⟨false, false, false, false⟩ }).after [] (replyTo 0x34 tag [0x00])) ∧
    exec (.restart tag payload) s =
      .next ((put { s.port with restart := .awaitingReply }).after [] (replyTo 0x36 tag [0x00]))

/-- The supervision timer (R187, R189, R190): arming and its refusals in their order, refresh with and without the latch, and what
an expiry sets, holds and reports, in HOLD_ALL mode the KILN-STATE of each kiln that the hold reaches and the LINE-STATE of the trip
(R71, R80, R111, R115). SUPERVISION_EXPIRY is stated whatever remaining shows, since the command stands for the moment at which it
reaches 0: that is the model's choice (log entry 5). R189 names only the event of the CLEARED report: that it carries mode, unit and
count as an expiry's does is the model's choice (log entry 7). -/
def Obligations.SupervisionTimer : Prop :=
  ∀ (s : State) (tag : Byte) (payload : List Byte) (put : Port → State), s.port.dropOwed = none → s.bus.settled →
    (∀ p, put p = { s with port := p }) →
    (s.takesAtOnce →
      (readSupervision payload = none →
        exec (.superviseArm tag payload) s = .next (s.after [] (replyTo 0x31 tag [0x02]))) ∧
      (∀ v : Supervision, readSupervision payload = some v → s.port.supervision = none →
        exec (.superviseArm tag payload) s =
          .next ((put { s.port with supervision := some { v with remaining := v.count * v.unit } }).after []
            (replyTo 0x31 tag [0x00]))) ∧
      (∀ v : Supervision, readSupervision payload = some v → s.port.supervision ≠ none →
        exec (.superviseArm tag payload) s = .next (s.after [] (replyTo 0x31 tag [0x07]))) ∧
      (s.port.supervision = none →
        exec (.superviseRefresh tag payload) s = .next (s.after [] (replyTo 0x32 tag [0x03]))) ∧
      ∀ v : Supervision, s.port.supervision = some v →
        exec (.superviseRefresh tag payload) s =
          .next ((put { s.port with supervision := some { v with remaining := v.count * v.unit }, latch := false }).after
            (if s.port.latch then [.supervision .cleared v.mode v.unit v.count] else []) (replyTo 0x32 tag [0x00]))) ∧
    ∀ (v : Supervision) (u : State), s.port.supervision = some v → s.port.latch = false →
      u = raise .supervisionExpired .system (.system none)
        (put { s.port with latch := true, expiredSinceCold := true, supervision := some { v with remaining := 0 } }) →
      (v.mode = .notify →
        exec .supervisionExpiry s = .next (u.after [.supervision .expired .notify v.unit v.count] none)) ∧
      (v.mode = .holdAll →
        ∃ t : State, exec .supervisionExpiry s = .next t ∧ t.line.state = .tripped ∧
          (s.line.state ≠ .tripped → t.line.stopDemand = true ∧ t.line.returnTo = none) ∧
          t.port.latch = true ∧ t.port.expiredSinceCold = true ∧ t.port.supervision = some { v with remaining := 0 } ∧
          t.store = s.store ∧ t.charges = s.charges ∧ t.packs = s.packs ∧ t.labels = s.labels ∧ t.faults = u.faults ∧
          t.port = u.port.after (.supervision .expired .holdAll v.unit v.count ::
            ([0, 1, 2, 3, 4, 5] : List (Fin 6)).filterMap (fun k =>
              if t.kilns[k] = s.kilns[k] then none else some (t.kilns[k].report k .supervision)) ++
            if s.line.state = .tripped then [] else [t.lineReport .supervision]) none ∧
          ∀ k : Fin 6,
            (∀ ph : Phase, s.kilns[k].state = ph.state →
              t.kilns[k] = { s.kilns[k] with state := .hold, resume := some ph, level := 3 }) ∧
            (s.kilns[k].state = .hold ∨ s.kilns[k].state = .park →
              t.kilns[k] = { s.kilns[k] with level := max s.kilns[k].level 3 }) ∧
            (s.kilns[k].state = .idle ∨ s.kilns[k].state = .loaded ∨ s.kilns[k].state = .done → t.kilns[k] = s.kilns[k]))

/-! ## Starts -/

/-- A POWER start clears the start causes and sets its own, a PIN start keeps the others (R191); both settle every block as a
cold start does (R14, R51, R82, R97, R98, R130, R145, R158, R173, R193). -/
def Obligations.ColdStartsSettleEveryBlock : Prop :=
  ∀ (s : State) (i : StartInputs),
    (∃ t : State, exec (.powerColdStart i) s = .next t ∧ s.coldStarted i .power ⟨true, false, false, false⟩ t) ∧
    ∃ t : State, exec (.pinColdStart i) s = .next t ∧ s.coldStarted i .pin { s.port.causes with pin := true } t

/-- The warm start of a BREAK, and that of a RESTART, which waits until its reply has been sent (R192); both complete and keep
what a warm start keeps (R14, R83, R97, R108, R131, R146, R158, R174, R191, R193). A slot or species entry that is WRITING or fails
its check value becomes INVALID, and every other is kept (R1, R14). The records are kept, each settled for its boards that leave
the tracking queue: in flight falls by their number, untracked rises for each that stood PENDING, and a CLOSED record that nothing
holds any more is freed (R43, R48, R52); an untracked count past its range is a free value (log entry 9). The receiver hunts after
the receive line is idle (R193): that a RESTART may find it idle at once is the model's reading (log entry 22), and that
RESTART_WARM_START changes nothing when none is due is its choice (log entry 2). -/
def Obligations.WarmStartsKeepTheRecords : Prop :=
  ∀ (s : State) (i : StartInputs), s.port.dropOwed = none →
    (∃ t : State, exec (.breakWarmStart i) s = .next t ∧
      s.warmStarted i .lineBreak { s.port.causes with lineBreak := true } .ignoring t) ∧
    (s.port.restart = .due → ∃ t : State, exec (.restartWarmStart i) s = .next t ∧
      s.warmStarted i .restart { s.port.causes with restart := true } (if i.lineIdle then .hunt else .ignoring) t) ∧
    (s.port.restart ≠ .due → exec (.restartWarmStart i) s = .next (s.after [] none))

/-! ## Invariants -/

/-- Every step keeps the capacities of the port (R179, R180, R183), a transmitter that begins what it can (R182), and the
soundness of the fault unit: counters within 0..127, a next record behind a first alone, the fixed kinds as they are (R159,
R164, R165). -/
def Obligations.StepKeepsPortAndFaultUnit : Prop :=
  ∀ s t : State, s.port.bounded → s.port.transmits → s.faults.sound → step s = .next t →
    t.port.bounded ∧ t.port.transmits ∧ t.faults.sound

/-- Every step keeps the poll list (at most one entry of a kiln and kind, empty while no poll is in service; R87, R88) and the
kiln contexts (what each state holds, the hold levels, the scan timer in scanning states; R53, R71, R86). -/
def Obligations.StepKeepsKilnsAndBus : Prop :=
  ∀ s t : State, s.kilnsSound → s.bus.sound → step s = .next t → t.kilnsSound ∧ t.bus.sound

/-- Every step keeps the LINE_STOP demand and return state of the line (R110, R111), the levels at which the pins of the output
terminals are driven (R99, R102, R106), the capacities of the planer side (R110, R132, R147), and the piece counts and
classes of the packs (R132, R134, R135). -/
def Obligations.StepKeepsThePlanerSide : Prop :=
  ∀ s t : State, s.line.sound → s.outputsFollow → s.planerBounded → s.packsSound → step s = .next t →
    t.line.sound ∧ t.outputsFollow ∧ t.planerBounded ∧ t.packsSound

/-- While the supervision latch is set in HOLD_ALL mode, no kiln is in RUN, EQUALISE or CONDITION and the line is at rest; every
step keeps this (R190). -/
def Obligations.StepKeepsTheLatch : Prop :=
  ∀ s t : State, s.latchKept → step s = .next t → t.latchKept

/-- The machine after reset meets every invariant. -/
def Obligations.ResetMeetsTheInvariants : Prop :=
  State.reset.port.bounded ∧ State.reset.port.transmits ∧ State.reset.faults.sound ∧ State.reset.kilnsSound ∧
    State.reset.bus.sound ∧ State.reset.line.sound ∧ State.reset.outputsFollow ∧ State.reset.planerBounded ∧
    State.reset.packsSound ∧ State.reset.latchKept ∧ State.reset.boardsSound

end Statements
end

