-- ==== Sys2Proof/Laws/State.lean ====
section
/-! SUPPORT. One lemma per field per update of the state, true by rfl, and what `vmod` and `vmap` read as. -/

namespace Sys2Proof.Machine

/-! ## Vectors -/

@[simp] theorem vmap_getElem {α β : Type} {n : Nat} (f : α → β) (v : Vector α n) (i : Nat) (h : i < n) :
    (vmap f v)[i] = f v[i] := by
  simp [vmap, Vector.getElem_mk]

@[simp] theorem vmod_getElem_self {α : Type} {n : Nat} (v : Vector α n) (i : Fin n) (f : α → α) :
    (vmod v i f)[i.val] = f v[i.val] := by
  simp [vmod]

theorem vmod_getElem {α : Type} {n : Nat} (v : Vector α n) (i j : Fin n) (f : α → α) :
    (vmod v i f)[j.val] = if i = j then f v[j.val] else v[j.val] := by
  by_cases h : i = j
  · subst h; simp
  · have h' : i.val ≠ j.val := fun e => h (Fin.ext e)
    simp [vmod, h, h']

/-! ## Updates of one block -/

@[simp] theorem modKiln_pending (k : Fin 6) (f : Kiln → Kiln) (s : State) : (s.modKiln k f).pending = s.pending := rfl
@[simp] theorem modKiln_store (k : Fin 6) (f : Kiln → Kiln) (s : State) : (s.modKiln k f).store = s.store := rfl
@[simp] theorem modKiln_charges (k : Fin 6) (f : Kiln → Kiln) (s : State) : (s.modKiln k f).charges = s.charges := rfl
@[simp] theorem modKiln_kilns (k : Fin 6) (f : Kiln → Kiln) (s : State) : (s.modKiln k f).kilns = vmod s.kilns k f := rfl
@[simp] theorem modKiln_bus (k : Fin 6) (f : Kiln → Kiln) (s : State) : (s.modKiln k f).bus = s.bus := rfl
@[simp] theorem modKiln_terminals (k : Fin 6) (f : Kiln → Kiln) (s : State) : (s.modKiln k f).terminals = s.terminals := rfl
@[simp] theorem modKiln_line (k : Fin 6) (f : Kiln → Kiln) (s : State) : (s.modKiln k f).line = s.line := rfl
@[simp] theorem modKiln_packs (k : Fin 6) (f : Kiln → Kiln) (s : State) : (s.modKiln k f).packs = s.packs := rfl
@[simp] theorem modKiln_labels (k : Fin 6) (f : Kiln → Kiln) (s : State) : (s.modKiln k f).labels = s.labels := rfl
@[simp] theorem modKiln_faults (k : Fin 6) (f : Kiln → Kiln) (s : State) : (s.modKiln k f).faults = s.faults := rfl
@[simp] theorem modKiln_port (k : Fin 6) (f : Kiln → Kiln) (s : State) : (s.modKiln k f).port = s.port := rfl
@[simp] theorem modKiln_freeCount (k : Fin 6) (f : Kiln → Kiln) (s : State) : (s.modKiln k f).freeCount = s.freeCount := rfl

@[simp] theorem modLink_pending (k : Fin 6) (f : KilnLink → KilnLink) (s : State) : (s.modLink k f).pending = s.pending := rfl
@[simp] theorem modLink_store (k : Fin 6) (f : KilnLink → KilnLink) (s : State) : (s.modLink k f).store = s.store := rfl
@[simp] theorem modLink_charges (k : Fin 6) (f : KilnLink → KilnLink) (s : State) : (s.modLink k f).charges = s.charges := rfl
@[simp] theorem modLink_kilns (k : Fin 6) (f : KilnLink → KilnLink) (s : State) : (s.modLink k f).kilns = s.kilns := rfl
@[simp] theorem modLink_bus (k : Fin 6) (f : KilnLink → KilnLink) (s : State) : (s.modLink k f).bus = { s.bus with links := vmod s.bus.links k f } := rfl
@[simp] theorem modLink_terminals (k : Fin 6) (f : KilnLink → KilnLink) (s : State) : (s.modLink k f).terminals = s.terminals := rfl
@[simp] theorem modLink_line (k : Fin 6) (f : KilnLink → KilnLink) (s : State) : (s.modLink k f).line = s.line := rfl
@[simp] theorem modLink_packs (k : Fin 6) (f : KilnLink → KilnLink) (s : State) : (s.modLink k f).packs = s.packs := rfl
@[simp] theorem modLink_labels (k : Fin 6) (f : KilnLink → KilnLink) (s : State) : (s.modLink k f).labels = s.labels := rfl
@[simp] theorem modLink_faults (k : Fin 6) (f : KilnLink → KilnLink) (s : State) : (s.modLink k f).faults = s.faults := rfl
@[simp] theorem modLink_port (k : Fin 6) (f : KilnLink → KilnLink) (s : State) : (s.modLink k f).port = s.port := rfl
@[simp] theorem modLink_freeCount (k : Fin 6) (f : KilnLink → KilnLink) (s : State) : (s.modLink k f).freeCount = s.freeCount := rfl

@[simp] theorem modTerminal_pending (t : Fin 16) (f : Terminal → Terminal) (s : State) : (s.modTerminal t f).pending = s.pending := rfl
@[simp] theorem modTerminal_store (t : Fin 16) (f : Terminal → Terminal) (s : State) : (s.modTerminal t f).store = s.store := rfl
@[simp] theorem modTerminal_charges (t : Fin 16) (f : Terminal → Terminal) (s : State) : (s.modTerminal t f).charges = s.charges := rfl
@[simp] theorem modTerminal_kilns (t : Fin 16) (f : Terminal → Terminal) (s : State) : (s.modTerminal t f).kilns = s.kilns := rfl
@[simp] theorem modTerminal_bus (t : Fin 16) (f : Terminal → Terminal) (s : State) : (s.modTerminal t f).bus = s.bus := rfl
@[simp] theorem modTerminal_terminals (t : Fin 16) (f : Terminal → Terminal) (s : State) : (s.modTerminal t f).terminals = vmod s.terminals t f := rfl
@[simp] theorem modTerminal_line (t : Fin 16) (f : Terminal → Terminal) (s : State) : (s.modTerminal t f).line = s.line := rfl
@[simp] theorem modTerminal_packs (t : Fin 16) (f : Terminal → Terminal) (s : State) : (s.modTerminal t f).packs = s.packs := rfl
@[simp] theorem modTerminal_labels (t : Fin 16) (f : Terminal → Terminal) (s : State) : (s.modTerminal t f).labels = s.labels := rfl
@[simp] theorem modTerminal_faults (t : Fin 16) (f : Terminal → Terminal) (s : State) : (s.modTerminal t f).faults = s.faults := rfl
@[simp] theorem modTerminal_port (t : Fin 16) (f : Terminal → Terminal) (s : State) : (s.modTerminal t f).port = s.port := rfl
@[simp] theorem modTerminal_freeCount (t : Fin 16) (f : Terminal → Terminal) (s : State) : (s.modTerminal t f).freeCount = s.freeCount := rfl

@[simp] theorem modPort_pending (f : Port → Port) (s : State) : (s.modPort f).pending = s.pending := rfl
@[simp] theorem modPort_store (f : Port → Port) (s : State) : (s.modPort f).store = s.store := rfl
@[simp] theorem modPort_charges (f : Port → Port) (s : State) : (s.modPort f).charges = s.charges := rfl
@[simp] theorem modPort_kilns (f : Port → Port) (s : State) : (s.modPort f).kilns = s.kilns := rfl
@[simp] theorem modPort_bus (f : Port → Port) (s : State) : (s.modPort f).bus = s.bus := rfl
@[simp] theorem modPort_terminals (f : Port → Port) (s : State) : (s.modPort f).terminals = s.terminals := rfl
@[simp] theorem modPort_line (f : Port → Port) (s : State) : (s.modPort f).line = s.line := rfl
@[simp] theorem modPort_packs (f : Port → Port) (s : State) : (s.modPort f).packs = s.packs := rfl
@[simp] theorem modPort_labels (f : Port → Port) (s : State) : (s.modPort f).labels = s.labels := rfl
@[simp] theorem modPort_faults (f : Port → Port) (s : State) : (s.modPort f).faults = s.faults := rfl
@[simp] theorem modPort_port (f : Port → Port) (s : State) : (s.modPort f).port = f s.port := rfl
@[simp] theorem modPort_freeCount (f : Port → Port) (s : State) : (s.modPort f).freeCount = s.freeCount := rfl

@[simp] theorem modLine_pending (f : Line → Line) (s : State) : (s.modLine f).pending = s.pending := rfl
@[simp] theorem modLine_store (f : Line → Line) (s : State) : (s.modLine f).store = s.store := rfl
@[simp] theorem modLine_charges (f : Line → Line) (s : State) : (s.modLine f).charges = s.charges := rfl
@[simp] theorem modLine_kilns (f : Line → Line) (s : State) : (s.modLine f).kilns = s.kilns := rfl
@[simp] theorem modLine_bus (f : Line → Line) (s : State) : (s.modLine f).bus = s.bus := rfl
@[simp] theorem modLine_terminals (f : Line → Line) (s : State) : (s.modLine f).terminals = s.terminals := rfl
@[simp] theorem modLine_line (f : Line → Line) (s : State) : (s.modLine f).line = f s.line := rfl
@[simp] theorem modLine_packs (f : Line → Line) (s : State) : (s.modLine f).packs = s.packs := rfl
@[simp] theorem modLine_labels (f : Line → Line) (s : State) : (s.modLine f).labels = s.labels := rfl
@[simp] theorem modLine_faults (f : Line → Line) (s : State) : (s.modLine f).faults = s.faults := rfl
@[simp] theorem modLine_port (f : Line → Line) (s : State) : (s.modLine f).port = s.port := rfl
@[simp] theorem modLine_freeCount (f : Line → Line) (s : State) : (s.modLine f).freeCount = s.freeCount := rfl

@[simp] theorem modLabels_pending (f : LabelUnit → LabelUnit) (s : State) : (s.modLabels f).pending = s.pending := rfl
@[simp] theorem modLabels_store (f : LabelUnit → LabelUnit) (s : State) : (s.modLabels f).store = s.store := rfl
@[simp] theorem modLabels_charges (f : LabelUnit → LabelUnit) (s : State) : (s.modLabels f).charges = s.charges := rfl
@[simp] theorem modLabels_kilns (f : LabelUnit → LabelUnit) (s : State) : (s.modLabels f).kilns = s.kilns := rfl
@[simp] theorem modLabels_bus (f : LabelUnit → LabelUnit) (s : State) : (s.modLabels f).bus = s.bus := rfl
@[simp] theorem modLabels_terminals (f : LabelUnit → LabelUnit) (s : State) : (s.modLabels f).terminals = s.terminals := rfl
@[simp] theorem modLabels_line (f : LabelUnit → LabelUnit) (s : State) : (s.modLabels f).line = s.line := rfl
@[simp] theorem modLabels_packs (f : LabelUnit → LabelUnit) (s : State) : (s.modLabels f).packs = s.packs := rfl
@[simp] theorem modLabels_labels (f : LabelUnit → LabelUnit) (s : State) : (s.modLabels f).labels = f s.labels := rfl
@[simp] theorem modLabels_faults (f : LabelUnit → LabelUnit) (s : State) : (s.modLabels f).faults = s.faults := rfl
@[simp] theorem modLabels_port (f : LabelUnit → LabelUnit) (s : State) : (s.modLabels f).port = s.port := rfl
@[simp] theorem modLabels_freeCount (f : LabelUnit → LabelUnit) (s : State) : (s.modLabels f).freeCount = s.freeCount := rfl

@[simp] theorem modStore_pending (f : Store → Store) (s : State) : (s.modStore f).pending = s.pending := rfl
@[simp] theorem modStore_store (f : Store → Store) (s : State) : (s.modStore f).store = f s.store := rfl
@[simp] theorem modStore_charges (f : Store → Store) (s : State) : (s.modStore f).charges = s.charges := rfl
@[simp] theorem modStore_kilns (f : Store → Store) (s : State) : (s.modStore f).kilns = s.kilns := rfl
@[simp] theorem modStore_bus (f : Store → Store) (s : State) : (s.modStore f).bus = s.bus := rfl
@[simp] theorem modStore_terminals (f : Store → Store) (s : State) : (s.modStore f).terminals = s.terminals := rfl
@[simp] theorem modStore_line (f : Store → Store) (s : State) : (s.modStore f).line = s.line := rfl
@[simp] theorem modStore_packs (f : Store → Store) (s : State) : (s.modStore f).packs = s.packs := rfl
@[simp] theorem modStore_labels (f : Store → Store) (s : State) : (s.modStore f).labels = s.labels := rfl
@[simp] theorem modStore_faults (f : Store → Store) (s : State) : (s.modStore f).faults = s.faults := rfl
@[simp] theorem modStore_port (f : Store → Store) (s : State) : (s.modStore f).port = s.port := rfl
@[simp] theorem modStore_freeCount (f : Store → Store) (s : State) : (s.modStore f).freeCount = s.freeCount := rfl

@[simp] theorem modCharge_pending (n : Nat) (f : ChargeRecord → ChargeRecord) (s : State) : (s.modCharge n f).pending = s.pending := rfl
@[simp] theorem modCharge_store (n : Nat) (f : ChargeRecord → ChargeRecord) (s : State) : (s.modCharge n f).store = s.store := rfl
@[simp] theorem modCharge_charges (n : Nat) (f : ChargeRecord → ChargeRecord) (s : State) : (s.modCharge n f).charges = { s.charges with
      records := vmap (Option.map fun c => if c.number = n then f c else c) s.charges.records } := rfl
@[simp] theorem modCharge_kilns (n : Nat) (f : ChargeRecord → ChargeRecord) (s : State) : (s.modCharge n f).kilns = s.kilns := rfl
@[simp] theorem modCharge_bus (n : Nat) (f : ChargeRecord → ChargeRecord) (s : State) : (s.modCharge n f).bus = s.bus := rfl
@[simp] theorem modCharge_terminals (n : Nat) (f : ChargeRecord → ChargeRecord) (s : State) : (s.modCharge n f).terminals = s.terminals := rfl
@[simp] theorem modCharge_line (n : Nat) (f : ChargeRecord → ChargeRecord) (s : State) : (s.modCharge n f).line = s.line := rfl
@[simp] theorem modCharge_packs (n : Nat) (f : ChargeRecord → ChargeRecord) (s : State) : (s.modCharge n f).packs = s.packs := rfl
@[simp] theorem modCharge_labels (n : Nat) (f : ChargeRecord → ChargeRecord) (s : State) : (s.modCharge n f).labels = s.labels := rfl
@[simp] theorem modCharge_faults (n : Nat) (f : ChargeRecord → ChargeRecord) (s : State) : (s.modCharge n f).faults = s.faults := rfl
@[simp] theorem modCharge_port (n : Nat) (f : ChargeRecord → ChargeRecord) (s : State) : (s.modCharge n f).port = s.port := rfl
@[simp] theorem modCharge_freeCount (n : Nat) (f : ChargeRecord → ChargeRecord) (s : State) : (s.modCharge n f).freeCount = s.freeCount := rfl

@[simp] theorem setBay_pending (b : Fin 8) (p : Option Pack) (s : State) : (s.setBay b p).pending = s.pending := rfl
@[simp] theorem setBay_store (b : Fin 8) (p : Option Pack) (s : State) : (s.setBay b p).store = s.store := rfl
@[simp] theorem setBay_charges (b : Fin 8) (p : Option Pack) (s : State) : (s.setBay b p).charges = s.charges := rfl
@[simp] theorem setBay_kilns (b : Fin 8) (p : Option Pack) (s : State) : (s.setBay b p).kilns = s.kilns := rfl
@[simp] theorem setBay_bus (b : Fin 8) (p : Option Pack) (s : State) : (s.setBay b p).bus = s.bus := rfl
@[simp] theorem setBay_terminals (b : Fin 8) (p : Option Pack) (s : State) : (s.setBay b p).terminals = s.terminals := rfl
@[simp] theorem setBay_line (b : Fin 8) (p : Option Pack) (s : State) : (s.setBay b p).line = s.line := rfl
@[simp] theorem setBay_packs (b : Fin 8) (p : Option Pack) (s : State) : (s.setBay b p).packs = { s.packs with bays := s.packs.bays.set b p } := rfl
@[simp] theorem setBay_labels (b : Fin 8) (p : Option Pack) (s : State) : (s.setBay b p).labels = s.labels := rfl
@[simp] theorem setBay_faults (b : Fin 8) (p : Option Pack) (s : State) : (s.setBay b p).faults = s.faults := rfl
@[simp] theorem setBay_port (b : Fin 8) (p : Option Pack) (s : State) : (s.setBay b p).port = s.port := rfl
@[simp] theorem setBay_freeCount (b : Fin 8) (p : Option Pack) (s : State) : (s.setBay b p).freeCount = s.freeCount := rfl

@[simp] theorem modBay_pending (b : Fin 8) (f : Pack → Pack) (s : State) : (s.modBay b f).pending = s.pending := rfl
@[simp] theorem modBay_store (b : Fin 8) (f : Pack → Pack) (s : State) : (s.modBay b f).store = s.store := rfl
@[simp] theorem modBay_charges (b : Fin 8) (f : Pack → Pack) (s : State) : (s.modBay b f).charges = s.charges := rfl
@[simp] theorem modBay_kilns (b : Fin 8) (f : Pack → Pack) (s : State) : (s.modBay b f).kilns = s.kilns := rfl
@[simp] theorem modBay_bus (b : Fin 8) (f : Pack → Pack) (s : State) : (s.modBay b f).bus = s.bus := rfl
@[simp] theorem modBay_terminals (b : Fin 8) (f : Pack → Pack) (s : State) : (s.modBay b f).terminals = s.terminals := rfl
@[simp] theorem modBay_line (b : Fin 8) (f : Pack → Pack) (s : State) : (s.modBay b f).line = s.line := rfl
@[simp] theorem modBay_packs (b : Fin 8) (f : Pack → Pack) (s : State) : (s.modBay b f).packs = { s.packs with bays := vmod s.packs.bays b (Option.map f) } := rfl
@[simp] theorem modBay_labels (b : Fin 8) (f : Pack → Pack) (s : State) : (s.modBay b f).labels = s.labels := rfl
@[simp] theorem modBay_faults (b : Fin 8) (f : Pack → Pack) (s : State) : (s.modBay b f).faults = s.faults := rfl
@[simp] theorem modBay_port (b : Fin 8) (f : Pack → Pack) (s : State) : (s.modBay b f).port = s.port := rfl
@[simp] theorem modBay_freeCount (b : Fin 8) (f : Pack → Pack) (s : State) : (s.modBay b f).freeCount = s.freeCount := rfl

/-! ## A driven pin -/

@[simp] theorem driven_fn (level : Bool) (t : Terminal) : (t.driven level).fn = t.fn := rfl
@[simp] theorem driven_polarity (level : Bool) (t : Terminal) : (t.driven level).polarity = t.polarity := rfl
@[simp] theorem driven_edges (level : Bool) (t : Terminal) : (t.driven level).edges = t.edges := rfl
@[simp] theorem driven_stored (level : Bool) (t : Terminal) : (t.driven level).stored = t.stored := rfl
@[simp] theorem driven_input (level : Bool) (t : Terminal) : (t.driven level).input = level := rfl
@[simp] theorem driven_edgeCount (level : Bool) (t : Terminal) : (t.driven level).edgeCount = t.edgeCount := rfl
@[simp] theorem driven_conversion (level : Bool) (t : Terminal) : (t.driven level).conversion = t.conversion := rfl
@[simp] theorem driven_pinHigh (level : Bool) (t : Terminal) : (t.driven level).pinHigh = t.pinHigh := rfl
@[simp] theorem driven_drive (level : Bool) (t : Terminal) : (t.driven level).drive = some (t.polarity.through level) := rfl
@[simp] theorem driven_waiting (level : Bool) (t : Terminal) : (t.driven level).waiting = t.waiting := rfl

end Sys2Proof.Machine
end

