-- ==== Sys2Proof/Laws/Frames.lean ====
section
/-! SUPPORT. What each shared operation leaves alone: one lemma per operation and untouched block. -/

namespace Sys2Proof.Machine

@[simp] theorem queueReport_pending (r : Report) (s : State) : (queueReport r s).pending = s.pending := rfl
@[simp] theorem queueReport_store (r : Report) (s : State) : (queueReport r s).store = s.store := rfl
@[simp] theorem queueReport_charges (r : Report) (s : State) : (queueReport r s).charges = s.charges := rfl
@[simp] theorem queueReport_kilns (r : Report) (s : State) : (queueReport r s).kilns = s.kilns := rfl
@[simp] theorem queueReport_bus (r : Report) (s : State) : (queueReport r s).bus = s.bus := rfl
@[simp] theorem queueReport_terminals (r : Report) (s : State) : (queueReport r s).terminals = s.terminals := rfl
@[simp] theorem queueReport_line (r : Report) (s : State) : (queueReport r s).line = s.line := rfl
@[simp] theorem queueReport_packs (r : Report) (s : State) : (queueReport r s).packs = s.packs := rfl
@[simp] theorem queueReport_labels (r : Report) (s : State) : (queueReport r s).labels = s.labels := rfl
@[simp] theorem queueReport_faults (r : Report) (s : State) : (queueReport r s).faults = s.faults := rfl
@[simp] theorem queueReport_freeCount (r : Report) (s : State) : (queueReport r s).freeCount = s.freeCount := rfl

@[simp] theorem pollDue_pending (k : Fin 6) (kind : PollKind) (s : State) : (pollDue k kind s).pending = s.pending := by unfold pollDue; split <;> rfl
@[simp] theorem pollDue_store (k : Fin 6) (kind : PollKind) (s : State) : (pollDue k kind s).store = s.store := by unfold pollDue; split <;> rfl
@[simp] theorem pollDue_charges (k : Fin 6) (kind : PollKind) (s : State) : (pollDue k kind s).charges = s.charges := by unfold pollDue; split <;> rfl
@[simp] theorem pollDue_kilns (k : Fin 6) (kind : PollKind) (s : State) : (pollDue k kind s).kilns = s.kilns := by unfold pollDue; split <;> rfl
@[simp] theorem pollDue_terminals (k : Fin 6) (kind : PollKind) (s : State) : (pollDue k kind s).terminals = s.terminals := by unfold pollDue; split <;> rfl
@[simp] theorem pollDue_line (k : Fin 6) (kind : PollKind) (s : State) : (pollDue k kind s).line = s.line := by unfold pollDue; split <;> rfl
@[simp] theorem pollDue_packs (k : Fin 6) (kind : PollKind) (s : State) : (pollDue k kind s).packs = s.packs := by unfold pollDue; split <;> rfl
@[simp] theorem pollDue_labels (k : Fin 6) (kind : PollKind) (s : State) : (pollDue k kind s).labels = s.labels := by unfold pollDue; split <;> rfl
@[simp] theorem pollDue_faults (k : Fin 6) (kind : PollKind) (s : State) : (pollDue k kind s).faults = s.faults := by unfold pollDue; split <;> rfl
@[simp] theorem pollDue_port (k : Fin 6) (kind : PollKind) (s : State) : (pollDue k kind s).port = s.port := by unfold pollDue; split <;> rfl
@[simp] theorem pollDue_freeCount (k : Fin 6) (kind : PollKind) (s : State) : (pollDue k kind s).freeCount = s.freeCount := by unfold pollDue; split <;> rfl

@[simp] theorem driveOutput_pending (g : TermFn) (d : Bool) (s : State) : (driveOutput g d s).pending = s.pending := rfl
@[simp] theorem driveOutput_store (g : TermFn) (d : Bool) (s : State) : (driveOutput g d s).store = s.store := rfl
@[simp] theorem driveOutput_charges (g : TermFn) (d : Bool) (s : State) : (driveOutput g d s).charges = s.charges := rfl
@[simp] theorem driveOutput_kilns (g : TermFn) (d : Bool) (s : State) : (driveOutput g d s).kilns = s.kilns := rfl
@[simp] theorem driveOutput_bus (g : TermFn) (d : Bool) (s : State) : (driveOutput g d s).bus = s.bus := rfl
@[simp] theorem driveOutput_line (g : TermFn) (d : Bool) (s : State) : (driveOutput g d s).line = s.line := rfl
@[simp] theorem driveOutput_packs (g : TermFn) (d : Bool) (s : State) : (driveOutput g d s).packs = s.packs := rfl
@[simp] theorem driveOutput_labels (g : TermFn) (d : Bool) (s : State) : (driveOutput g d s).labels = s.labels := rfl
@[simp] theorem driveOutput_faults (g : TermFn) (d : Bool) (s : State) : (driveOutput g d s).faults = s.faults := rfl
@[simp] theorem driveOutput_port (g : TermFn) (d : Bool) (s : State) : (driveOutput g d s).port = s.port := rfl
@[simp] theorem driveOutput_freeCount (g : TermFn) (d : Bool) (s : State) : (driveOutput g d s).freeCount = s.freeCount := rfl

@[simp] theorem reportLine_pending (c : LineCause) (s : State) : (reportLine c s).pending = s.pending := rfl
@[simp] theorem reportLine_store (c : LineCause) (s : State) : (reportLine c s).store = s.store := rfl
@[simp] theorem reportLine_charges (c : LineCause) (s : State) : (reportLine c s).charges = s.charges := rfl
@[simp] theorem reportLine_kilns (c : LineCause) (s : State) : (reportLine c s).kilns = s.kilns := rfl
@[simp] theorem reportLine_bus (c : LineCause) (s : State) : (reportLine c s).bus = s.bus := rfl
@[simp] theorem reportLine_terminals (c : LineCause) (s : State) : (reportLine c s).terminals = s.terminals := rfl
@[simp] theorem reportLine_line (c : LineCause) (s : State) : (reportLine c s).line = s.line := rfl
@[simp] theorem reportLine_packs (c : LineCause) (s : State) : (reportLine c s).packs = s.packs := rfl
@[simp] theorem reportLine_labels (c : LineCause) (s : State) : (reportLine c s).labels = s.labels := rfl
@[simp] theorem reportLine_faults (c : LineCause) (s : State) : (reportLine c s).faults = s.faults := rfl
@[simp] theorem reportLine_freeCount (c : LineCause) (s : State) : (reportLine c s).freeCount = s.freeCount := rfl

@[simp] theorem enterLine_pending (st : LineState) (r : Option ReturnState) (c : LineCause) (s : State) : (enterLine st r c s).pending = s.pending := rfl
@[simp] theorem enterLine_store (st : LineState) (r : Option ReturnState) (c : LineCause) (s : State) : (enterLine st r c s).store = s.store := rfl
@[simp] theorem enterLine_charges (st : LineState) (r : Option ReturnState) (c : LineCause) (s : State) : (enterLine st r c s).charges = s.charges := rfl
@[simp] theorem enterLine_kilns (st : LineState) (r : Option ReturnState) (c : LineCause) (s : State) : (enterLine st r c s).kilns = s.kilns := rfl
@[simp] theorem enterLine_bus (st : LineState) (r : Option ReturnState) (c : LineCause) (s : State) : (enterLine st r c s).bus = s.bus := rfl
@[simp] theorem enterLine_packs (st : LineState) (r : Option ReturnState) (c : LineCause) (s : State) : (enterLine st r c s).packs = s.packs := rfl
@[simp] theorem enterLine_labels (st : LineState) (r : Option ReturnState) (c : LineCause) (s : State) : (enterLine st r c s).labels = s.labels := rfl
@[simp] theorem enterLine_faults (st : LineState) (r : Option ReturnState) (c : LineCause) (s : State) : (enterLine st r c s).faults = s.faults := rfl
@[simp] theorem enterLine_freeCount (st : LineState) (r : Option ReturnState) (c : LineCause) (s : State) : (enterLine st r c s).freeCount = s.freeCount := rfl

@[simp] theorem trip_pending (c : LineCause) (s : State) : (trip c s).pending = s.pending := by unfold trip; split <;> simp
@[simp] theorem trip_store (c : LineCause) (s : State) : (trip c s).store = s.store := by unfold trip; split <;> simp
@[simp] theorem trip_charges (c : LineCause) (s : State) : (trip c s).charges = s.charges := by unfold trip; split <;> simp
@[simp] theorem trip_kilns (c : LineCause) (s : State) : (trip c s).kilns = s.kilns := by unfold trip; split <;> simp
@[simp] theorem trip_bus (c : LineCause) (s : State) : (trip c s).bus = s.bus := by unfold trip; split <;> simp
@[simp] theorem trip_packs (c : LineCause) (s : State) : (trip c s).packs = s.packs := by unfold trip; split <;> simp
@[simp] theorem trip_labels (c : LineCause) (s : State) : (trip c s).labels = s.labels := by unfold trip; split <;> simp
@[simp] theorem trip_faults (c : LineCause) (s : State) : (trip c s).faults = s.faults := by unfold trip; split <;> simp
@[simp] theorem trip_freeCount (c : LineCause) (s : State) : (trip c s).freeCount = s.freeCount := by unfold trip; split <;> simp

@[simp] theorem reportKiln_pending (k : Fin 6) (c : KilnCause) (s : State) : (reportKiln k c s).pending = s.pending := rfl
@[simp] theorem reportKiln_store (k : Fin 6) (c : KilnCause) (s : State) : (reportKiln k c s).store = s.store := rfl
@[simp] theorem reportKiln_charges (k : Fin 6) (c : KilnCause) (s : State) : (reportKiln k c s).charges = s.charges := rfl
@[simp] theorem reportKiln_kilns (k : Fin 6) (c : KilnCause) (s : State) : (reportKiln k c s).kilns = s.kilns := rfl
@[simp] theorem reportKiln_bus (k : Fin 6) (c : KilnCause) (s : State) : (reportKiln k c s).bus = s.bus := rfl
@[simp] theorem reportKiln_terminals (k : Fin 6) (c : KilnCause) (s : State) : (reportKiln k c s).terminals = s.terminals := rfl
@[simp] theorem reportKiln_line (k : Fin 6) (c : KilnCause) (s : State) : (reportKiln k c s).line = s.line := rfl
@[simp] theorem reportKiln_packs (k : Fin 6) (c : KilnCause) (s : State) : (reportKiln k c s).packs = s.packs := rfl
@[simp] theorem reportKiln_labels (k : Fin 6) (c : KilnCause) (s : State) : (reportKiln k c s).labels = s.labels := rfl
@[simp] theorem reportKiln_faults (k : Fin 6) (c : KilnCause) (s : State) : (reportKiln k c s).faults = s.faults := rfl
@[simp] theorem reportKiln_freeCount (k : Fin 6) (c : KilnCause) (s : State) : (reportKiln k c s).freeCount = s.freeCount := rfl

@[simp] theorem applyCause_pending (k : Fin 6) (kind : HoldKind) (n : Nat) (c : KilnCause) (s : State) : (applyCause k kind n c s).pending = s.pending := by
  unfold applyCause; dsimp only; split
  · rfl
  · split <;> simp
@[simp] theorem applyCause_store (k : Fin 6) (kind : HoldKind) (n : Nat) (c : KilnCause) (s : State) : (applyCause k kind n c s).store = s.store := by
  unfold applyCause; dsimp only; split
  · rfl
  · split <;> simp
@[simp] theorem applyCause_charges (k : Fin 6) (kind : HoldKind) (n : Nat) (c : KilnCause) (s : State) : (applyCause k kind n c s).charges = s.charges := by
  unfold applyCause; dsimp only; split
  · rfl
  · split <;> simp
@[simp] theorem applyCause_terminals (k : Fin 6) (kind : HoldKind) (n : Nat) (c : KilnCause) (s : State) : (applyCause k kind n c s).terminals = s.terminals := by
  unfold applyCause; dsimp only; split
  · rfl
  · split <;> simp
@[simp] theorem applyCause_line (k : Fin 6) (kind : HoldKind) (n : Nat) (c : KilnCause) (s : State) : (applyCause k kind n c s).line = s.line := by
  unfold applyCause; dsimp only; split
  · rfl
  · split <;> simp
@[simp] theorem applyCause_packs (k : Fin 6) (kind : HoldKind) (n : Nat) (c : KilnCause) (s : State) : (applyCause k kind n c s).packs = s.packs := by
  unfold applyCause; dsimp only; split
  · rfl
  · split <;> simp
@[simp] theorem applyCause_labels (k : Fin 6) (kind : HoldKind) (n : Nat) (c : KilnCause) (s : State) : (applyCause k kind n c s).labels = s.labels := by
  unfold applyCause; dsimp only; split
  · rfl
  · split <;> simp
@[simp] theorem applyCause_faults (k : Fin 6) (kind : HoldKind) (n : Nat) (c : KilnCause) (s : State) : (applyCause k kind n c s).faults = s.faults := by
  unfold applyCause; dsimp only; split
  · rfl
  · split <;> simp
@[simp] theorem applyCause_freeCount (k : Fin 6) (kind : HoldKind) (n : Nat) (c : KilnCause) (s : State) : (applyCause k kind n c s).freeCount = s.freeCount := by
  unfold applyCause; dsimp only; split
  · rfl
  · split <;> simp

@[simp] theorem applyCauses_pending (kind : HoldKind) (n : Nat) (c : KilnCause) (ks : List (Fin 6)) (s : State) : (applyCauses kind n c ks s).pending = s.pending := by
  unfold applyCauses
  induction ks generalizing s with
  | nil => rfl
  | cons k ks ih => simp [ih]
@[simp] theorem applyCauses_store (kind : HoldKind) (n : Nat) (c : KilnCause) (ks : List (Fin 6)) (s : State) : (applyCauses kind n c ks s).store = s.store := by
  unfold applyCauses
  induction ks generalizing s with
  | nil => rfl
  | cons k ks ih => simp [ih]
@[simp] theorem applyCauses_charges (kind : HoldKind) (n : Nat) (c : KilnCause) (ks : List (Fin 6)) (s : State) : (applyCauses kind n c ks s).charges = s.charges := by
  unfold applyCauses
  induction ks generalizing s with
  | nil => rfl
  | cons k ks ih => simp [ih]
@[simp] theorem applyCauses_terminals (kind : HoldKind) (n : Nat) (c : KilnCause) (ks : List (Fin 6)) (s : State) : (applyCauses kind n c ks s).terminals = s.terminals := by
  unfold applyCauses
  induction ks generalizing s with
  | nil => rfl
  | cons k ks ih => simp [ih]
@[simp] theorem applyCauses_line (kind : HoldKind) (n : Nat) (c : KilnCause) (ks : List (Fin 6)) (s : State) : (applyCauses kind n c ks s).line = s.line := by
  unfold applyCauses
  induction ks generalizing s with
  | nil => rfl
  | cons k ks ih => simp [ih]
@[simp] theorem applyCauses_packs (kind : HoldKind) (n : Nat) (c : KilnCause) (ks : List (Fin 6)) (s : State) : (applyCauses kind n c ks s).packs = s.packs := by
  unfold applyCauses
  induction ks generalizing s with
  | nil => rfl
  | cons k ks ih => simp [ih]
@[simp] theorem applyCauses_labels (kind : HoldKind) (n : Nat) (c : KilnCause) (ks : List (Fin 6)) (s : State) : (applyCauses kind n c ks s).labels = s.labels := by
  unfold applyCauses
  induction ks generalizing s with
  | nil => rfl
  | cons k ks ih => simp [ih]
@[simp] theorem applyCauses_faults (kind : HoldKind) (n : Nat) (c : KilnCause) (ks : List (Fin 6)) (s : State) : (applyCauses kind n c ks s).faults = s.faults := by
  unfold applyCauses
  induction ks generalizing s with
  | nil => rfl
  | cons k ks ih => simp [ih]
@[simp] theorem applyCauses_freeCount (kind : HoldKind) (n : Nat) (c : KilnCause) (ks : List (Fin 6)) (s : State) : (applyCauses kind n c ks s).freeCount = s.freeCount := by
  unfold applyCauses
  induction ks generalizing s with
  | nil => rfl
  | cons k ks ih => simp [ih]

@[simp] theorem applyActions_pending (d : Domain) (r : FaultRecord) (l : DomainLog × Placement) (a : ActionSet) (s : State) : (applyActions d r l a s).pending = s.pending := by
  unfold applyActions; dsimp only; repeat' split
  all_goals simp
@[simp] theorem applyActions_store (d : Domain) (r : FaultRecord) (l : DomainLog × Placement) (a : ActionSet) (s : State) : (applyActions d r l a s).store = s.store := by
  unfold applyActions; dsimp only; repeat' split
  all_goals simp
@[simp] theorem applyActions_charges (d : Domain) (r : FaultRecord) (l : DomainLog × Placement) (a : ActionSet) (s : State) : (applyActions d r l a s).charges = s.charges := by
  unfold applyActions; dsimp only; repeat' split
  all_goals simp
@[simp] theorem applyActions_packs (d : Domain) (r : FaultRecord) (l : DomainLog × Placement) (a : ActionSet) (s : State) : (applyActions d r l a s).packs = s.packs := by
  unfold applyActions; dsimp only; repeat' split
  all_goals simp
@[simp] theorem applyActions_labels (d : Domain) (r : FaultRecord) (l : DomainLog × Placement) (a : ActionSet) (s : State) : (applyActions d r l a s).labels = s.labels := by
  unfold applyActions; dsimp only; repeat' split
  all_goals simp
@[simp] theorem applyActions_faults (d : Domain) (r : FaultRecord) (l : DomainLog × Placement) (a : ActionSet) (s : State) : (applyActions d r l a s).faults = s.faults := by
  unfold applyActions; dsimp only; repeat' split
  all_goals simp
@[simp] theorem applyActions_freeCount (d : Domain) (r : FaultRecord) (l : DomainLog × Placement) (a : ActionSet) (s : State) : (applyActions d r l a s).freeCount = s.freeCount := by
  unfold applyActions; dsimp only; repeat' split
  all_goals simp

@[simp] theorem raise_pending (k : FaultKind) (d : Domain) (x : FaultContext) (s : State) : (raise k d x s).pending = s.pending := by
  unfold raise; dsimp only; split
  · rfl
  · split <;> simp
@[simp] theorem raise_store (k : FaultKind) (d : Domain) (x : FaultContext) (s : State) : (raise k d x s).store = s.store := by
  unfold raise; dsimp only; split
  · rfl
  · split <;> simp
@[simp] theorem raise_charges (k : FaultKind) (d : Domain) (x : FaultContext) (s : State) : (raise k d x s).charges = s.charges := by
  unfold raise; dsimp only; split
  · rfl
  · split <;> simp
@[simp] theorem raise_packs (k : FaultKind) (d : Domain) (x : FaultContext) (s : State) : (raise k d x s).packs = s.packs := by
  unfold raise; dsimp only; split
  · rfl
  · split <;> simp
@[simp] theorem raise_labels (k : FaultKind) (d : Domain) (x : FaultContext) (s : State) : (raise k d x s).labels = s.labels := by
  unfold raise; dsimp only; split
  · rfl
  · split <;> simp
@[simp] theorem raise_freeCount (k : FaultKind) (d : Domain) (x : FaultContext) (s : State) : (raise k d x s).freeCount = s.freeCount := by
  unfold raise; dsimp only; split
  · rfl
  · split <;> simp

@[simp] theorem raiseKiln_pending (kind : FaultKind) (k : Fin 6) (s : State) : (raiseKiln kind k s).pending = s.pending := by simp [raiseKiln]
@[simp] theorem raiseKiln_store (kind : FaultKind) (k : Fin 6) (s : State) : (raiseKiln kind k s).store = s.store := by simp [raiseKiln]
@[simp] theorem raiseKiln_charges (kind : FaultKind) (k : Fin 6) (s : State) : (raiseKiln kind k s).charges = s.charges := by simp [raiseKiln]
@[simp] theorem raiseKiln_packs (kind : FaultKind) (k : Fin 6) (s : State) : (raiseKiln kind k s).packs = s.packs := by simp [raiseKiln]
@[simp] theorem raiseKiln_labels (kind : FaultKind) (k : Fin 6) (s : State) : (raiseKiln kind k s).labels = s.labels := by simp [raiseKiln]
@[simp] theorem raiseKiln_freeCount (kind : FaultKind) (k : Fin 6) (s : State) : (raiseKiln kind k s).freeCount = s.freeCount := by simp [raiseKiln]

@[simp] theorem raiseLine_pending (kind : FaultKind) (b c : Option Nat) (p : Nat) (s : State) : (raiseLine kind b c p s).pending = s.pending := by simp [raiseLine]
@[simp] theorem raiseLine_store (kind : FaultKind) (b c : Option Nat) (p : Nat) (s : State) : (raiseLine kind b c p s).store = s.store := by simp [raiseLine]
@[simp] theorem raiseLine_charges (kind : FaultKind) (b c : Option Nat) (p : Nat) (s : State) : (raiseLine kind b c p s).charges = s.charges := by simp [raiseLine]
@[simp] theorem raiseLine_packs (kind : FaultKind) (b c : Option Nat) (p : Nat) (s : State) : (raiseLine kind b c p s).packs = s.packs := by simp [raiseLine]
@[simp] theorem raiseLine_labels (kind : FaultKind) (b c : Option Nat) (p : Nat) (s : State) : (raiseLine kind b c p s).labels = s.labels := by simp [raiseLine]
@[simp] theorem raiseLine_freeCount (kind : FaultKind) (b c : Option Nat) (p : Nat) (s : State) : (raiseLine kind b c p s).freeCount = s.freeCount := by simp [raiseLine]

@[simp] theorem raisePacking_pending (kind : FaultKind) (p : Option Nat) (s : State) : (raisePacking kind p s).pending = s.pending := by simp [raisePacking]
@[simp] theorem raisePacking_store (kind : FaultKind) (p : Option Nat) (s : State) : (raisePacking kind p s).store = s.store := by simp [raisePacking]
@[simp] theorem raisePacking_charges (kind : FaultKind) (p : Option Nat) (s : State) : (raisePacking kind p s).charges = s.charges := by simp [raisePacking]
@[simp] theorem raisePacking_packs (kind : FaultKind) (p : Option Nat) (s : State) : (raisePacking kind p s).packs = s.packs := by simp [raisePacking]
@[simp] theorem raisePacking_labels (kind : FaultKind) (p : Option Nat) (s : State) : (raisePacking kind p s).labels = s.labels := by simp [raisePacking]
@[simp] theorem raisePacking_freeCount (kind : FaultKind) (p : Option Nat) (s : State) : (raisePacking kind p s).freeCount = s.freeCount := by simp [raisePacking]

@[simp] theorem takeOwed_pending (s : State) : (takeOwed s).pending = s.pending := by unfold takeOwed; split <;> simp
@[simp] theorem takeOwed_store (s : State) : (takeOwed s).store = s.store := by unfold takeOwed; split <;> simp
@[simp] theorem takeOwed_charges (s : State) : (takeOwed s).charges = s.charges := by unfold takeOwed; split <;> simp
@[simp] theorem takeOwed_packs (s : State) : (takeOwed s).packs = s.packs := by unfold takeOwed; split <;> simp
@[simp] theorem takeOwed_labels (s : State) : (takeOwed s).labels = s.labels := by unfold takeOwed; split <;> simp
@[simp] theorem takeOwed_freeCount (s : State) : (takeOwed s).freeCount = s.freeCount := by unfold takeOwed; split <;> simp

@[simp] theorem beginTransmit_pending (s : State) : (beginTransmit s).pending = s.pending := rfl
@[simp] theorem beginTransmit_store (s : State) : (beginTransmit s).store = s.store := rfl
@[simp] theorem beginTransmit_charges (s : State) : (beginTransmit s).charges = s.charges := rfl
@[simp] theorem beginTransmit_kilns (s : State) : (beginTransmit s).kilns = s.kilns := rfl
@[simp] theorem beginTransmit_bus (s : State) : (beginTransmit s).bus = s.bus := rfl
@[simp] theorem beginTransmit_terminals (s : State) : (beginTransmit s).terminals = s.terminals := rfl
@[simp] theorem beginTransmit_line (s : State) : (beginTransmit s).line = s.line := rfl
@[simp] theorem beginTransmit_packs (s : State) : (beginTransmit s).packs = s.packs := rfl
@[simp] theorem beginTransmit_labels (s : State) : (beginTransmit s).labels = s.labels := rfl
@[simp] theorem beginTransmit_faults (s : State) : (beginTransmit s).faults = s.faults := rfl
@[simp] theorem beginTransmit_freeCount (s : State) : (beginTransmit s).freeCount = s.freeCount := rfl

@[simp] theorem pushReply_pending (r : Frame) (s : State) : (pushReply r s).pending = s.pending := rfl
@[simp] theorem pushReply_store (r : Frame) (s : State) : (pushReply r s).store = s.store := rfl
@[simp] theorem pushReply_charges (r : Frame) (s : State) : (pushReply r s).charges = s.charges := rfl
@[simp] theorem pushReply_kilns (r : Frame) (s : State) : (pushReply r s).kilns = s.kilns := rfl
@[simp] theorem pushReply_bus (r : Frame) (s : State) : (pushReply r s).bus = s.bus := rfl
@[simp] theorem pushReply_terminals (r : Frame) (s : State) : (pushReply r s).terminals = s.terminals := rfl
@[simp] theorem pushReply_line (r : Frame) (s : State) : (pushReply r s).line = s.line := rfl
@[simp] theorem pushReply_packs (r : Frame) (s : State) : (pushReply r s).packs = s.packs := rfl
@[simp] theorem pushReply_labels (r : Frame) (s : State) : (pushReply r s).labels = s.labels := rfl
@[simp] theorem pushReply_faults (r : Frame) (s : State) : (pushReply r s).faults = s.faults := rfl
@[simp] theorem pushReply_freeCount (r : Frame) (s : State) : (pushReply r s).freeCount = s.freeCount := rfl

@[simp] theorem joinRequests_pending (r : Frame) (s : State) : (joinRequests r s).pending = s.pending := by unfold joinRequests; split <;> simp
@[simp] theorem joinRequests_store (r : Frame) (s : State) : (joinRequests r s).store = s.store := by unfold joinRequests; split <;> simp
@[simp] theorem joinRequests_charges (r : Frame) (s : State) : (joinRequests r s).charges = s.charges := by unfold joinRequests; split <;> simp
@[simp] theorem joinRequests_packs (r : Frame) (s : State) : (joinRequests r s).packs = s.packs := by unfold joinRequests; split <;> simp
@[simp] theorem joinRequests_labels (r : Frame) (s : State) : (joinRequests r s).labels = s.labels := by unfold joinRequests; split <;> simp
@[simp] theorem joinRequests_freeCount (r : Frame) (s : State) : (joinRequests r s).freeCount = s.freeCount := by unfold joinRequests; split <;> simp

end Sys2Proof.Machine
end

