-- ==== Sys2Proof/Laws/Requests.lean ====
section
/-! SUPPORT. What a taken request and an event come to, and what the payload readers read from encoded fields. -/

namespace Sys2Proof.Machine

/-! ## Events and requests -/

/-- An event with nothing owed is its effect and the transmitter begun. -/
theorem event_of {s : State} (h : s.port.dropOwed = none) (f : State → State) : event f s = beginTransmit (f s) := by
  simp [event, takeOwed, h]

/-- A request taken at once is its act, its reply, and the transmitter begun. -/
theorem request_of {s s' : State} (h : s.takesAtOnce) {act : State → State × List Byte} {fields : List Byte}
    (ha : act s = (s', fields)) (kind tag : Byte) (payload : List Byte) :
    request kind tag payload act s = beginTransmit (pushReply ⟨kind + 0x80, tag, fields⟩ s') := by
  obtain ⟨h1, h2, h3, h4⟩ := h
  simp [request, event_of h4, Port.canTake, h1, h2, h3, answer, ha]

/-- A request that cannot be taken at once joins the buffer, or is lost there. -/
theorem request_waits {s : State} (h : (s.port.canTake && s.port.requests.isEmpty) = false) (ho : s.port.dropOwed = none)
    (kind tag : Byte) (payload : List Byte) (act : State → State × List Byte) :
    request kind tag payload act s = beginTransmit (joinRequests ⟨kind, tag, payload⟩ s) := by
  rw [request, event_of ho]; simp only [h]; rfl

/-- Reports queued one after another touch the port alone. -/
theorem queueReports_eq (reports : List Report) (s : State) :
    reports.foldl (fun s r => queueReport r s) s =
      { s with port := reports.foldl (fun p r => p.queue r) s.port } := by
  induction reports generalizing s with
  | nil => rfl
  | cons r rest ih => simp only [List.foldl_cons, ih]; rfl

/-- `State.after` with no reply: the reports queued, and the transmitter begun. -/
theorem after_none (reports : List Report) (s : State) :
    s.after reports none = beginTransmit (reports.foldl (fun s r => queueReport r s) s) := by
  rw [queueReports_eq]
  simp [State.after, Port.after, beginTransmit, State.modPort]

/-- `State.after` with a reply: the reports queued, the reply pushed, and the transmitter begun. -/
theorem after_some (reports : List Report) (f : Frame) (s : State) :
    s.after reports (some f) = beginTransmit (pushReply f (reports.foldl (fun s r => queueReport r s) s)) := by
  rw [queueReports_eq]
  rfl

/-! ## Readers (R177) -/

theorem byteOf_toNat {n : Nat} (h : n < 256) : (byteOf n).toNat = n := by
  simp [byteOf]; omega

theorem fin?_val {n : Nat} (k : Fin n) : fin? n k.val = some k := by
  simp [fin?]

@[simp] theorem le_length (w n : Nat) : (le w n).length = w := by
  induction w generalizing n with
  | zero => rfl
  | succ w ih => simp [le, ih]

/-- An integer of `w` bytes reads back (R177). -/
theorem readLE_le (w n : Nat) (rest : List Byte) (h : n < 256 ^ w) : readLE w (le w n ++ rest) = some (n, rest) := by
  induction w generalizing n with
  | zero => simp at h; simp [le, readLE, h]
  | succ w ih =>
    have h' : n / 256 < 256 ^ w := by
      rw [Nat.div_lt_iff_lt_mul (by decide)]; rw [pow_succ] at h; exact h
    simp [le, readLE, ih _ h']
    omega

theorem readLE_one (n : Nat) (rest : List Byte) (h : n < 256) : readLE 1 (byteOf n :: rest) = some (n, rest) := by
  have := readLE_le 1 n rest (by simpa using h)
  simpa [le, byteOf] using this

/-- A number below n, n at most 256, reads back from its byte. -/
theorem readNumber_byteOf {n : Nat} (hn : n ≤ 256) (k : Fin n) : readNumber n [byteOf k] = some k := by
  have hk : k.val < 256 := by omega
  simp [readNumber, readFields, readSome, readLE_one _ _ hk, fin?_val]

theorem readSlotFirst_byteOf (k : Fin 16) (rest : List Byte) : readSlotFirst (byteOf k :: rest) = some k := by
  have hk : k.val < 256 := by omega
  simp [readSlotFirst, byteOf_toNat hk, fin?_val]

theorem readSpeciesFirst_byteOf (k : Fin 8) (rest : List Byte) : readSpeciesFirst (byteOf k :: rest) = some k := by
  have hk : k.val < 256 := by omega
  simp [readSpeciesFirst, byteOf_toNat hk, fin?_val]

theorem readCharge_le {n : Nat} (h : n < 65536) : readCharge (le 2 n) = some n := by
  have := readLE_le 2 n [] (by simpa using h)
  simp only [List.append_nil] at this
  simp [readCharge, readFields, readSome, this]

theorem readPack_le {n : Nat} (h : n < 4294967296) : readPack (le 4 n) = some n := by
  have := readLE_le 4 n [] (by simpa using h)
  simp only [List.append_nil] at this
  simp [readPack, readFields, readSome, this]

/-! ## Charge records -/

theorem findSome?_map_charge (l : List (Option ChargeRecord)) (n : Nat) (f : ChargeRecord → ChargeRecord)
    (hf : ∀ c, (f c).number = c.number) :
    (l.map (Option.map fun c => if c.number = n then f c else c)).findSome? (fun r => match r with
      | some c => if c.number = n then some c else none
      | none => none) =
    (l.findSome? fun r => match r with
      | some c => if c.number = n then some c else none
      | none => none).map f := by
  induction l with
  | nil => rfl
  | cons o l ih =>
    cases o with
    | none => simpa using ih
    | some c =>
      by_cases h : c.number = n
      · simp [h, hf]
      · simp [h]; simpa using ih

theorem vmap_toList {α β : Type} {n : Nat} (f : α → β) (v : Vector α n) : (vmap f v).toList = v.toList.map f := by
  rfl

/-- The record of a number after a change of it. -/
theorem charge?_modCharge (n : Nat) (f : ChargeRecord → ChargeRecord) (hf : ∀ c, (f c).number = c.number) (s : State) :
    (s.modCharge n f).charge? n = (s.charge? n).map f := by
  simp only [State.charge?, modCharge_charges, vmap_toList]
  exact findSome?_map_charge _ n f hf

/-- A change of state of a held record, with its report. -/
theorem changeCharge_of {s : State} {n : Nat} {c : ChargeRecord} (h : s.charge? n = some c)
    (f : ChargeRecord → ChargeRecord) (hf : ∀ c, (f c).number = c.number) :
    changeCharge n f s = queueReport (f c).report (s.modCharge n f) := by
  simp [changeCharge, charge?_modCharge n f hf, h]

end Sys2Proof.Machine
end

