-- ==== Sys2Proof/Laws/Bus.lean ====
section
/-! SUPPORT. What the service of the poll list, a poll that falls due, a kiln cause and a raise come to. -/

namespace Sys2Proof.Machine

/-- A settled list waits for the poll in service: service changes nothing. -/
theorem serve_of_settled {s : State} (h : s.bus.settled) : serve s = s := by
  unfold serve serveUpTo
  rcases hc : s.bus.current with _ | p
  · simp [h hc]
  · simp

/-- A raise of a masked kind is ignored (R162). -/
theorem raise_masked {kind : FaultKind} {s : State} (h : s.faults.kinds[kind.index].masked = true) (d : Domain)
    (x : FaultContext) : raise kind d x s = s := by
  simp only [raise, h, if_true]

/-- A raise in a domain that no kiln action reaches leaves every kiln as it is (R166). -/
theorem raise_kilns {d : Domain} (h : d.kilns = []) (kind : FaultKind) (x : FaultContext) (s : State) :
    (raise kind d x s).kilns = s.kilns := by
  unfold raise applyActions
  simp only [h, applyCauses, List.foldl_nil]
  repeat' split
  all_goals simp

/-- A raise in a domain that no kiln action reaches makes no poll fall due (R75, R166). -/
theorem raise_bus {d : Domain} (h : d.kilns = []) (kind : FaultKind) (x : FaultContext) (s : State) :
    (raise kind d x s).bus = s.bus := by
  unfold raise applyActions
  simp only [h, applyCauses, List.foldl_nil]
  repeat' split
  all_goals simp

/-- A poll that falls due: the list grows at its tail, or already holds an entry of the kiln and kind (R87). -/
theorem pollDue_bus (k : Fin 6) (kind : PollKind) (s : State) :
    (pollDue k kind s).bus =
      { s.bus with
        pendingPolls :=
          if (s.bus.pendingPolls.any fun e => decide (e.kiln = k) && decide (e.kind = kind)) = true then s.bus.pendingPolls
          else s.bus.pendingPolls ++ [⟨k, kind, s.bus.links[k].mark⟩] } := by
  unfold pollDue
  split <;> rfl

end Sys2Proof.Machine
end

