-- ==== Sys2Proof/WellFormed.lean ====
section
/-! DEFINITION. Which commands stand for something the outside can send: payloads that a frame can hold, a kind that is not
assigned for UNKNOWN_REQUEST, and a printer line that is no answer for PRINTER_LINE_OTHER. Commands that fail these are
given a meaning all the same; no rule speaks of them. -/

namespace Sys2Proof

/-- A frame holds 0 to 240 payload bytes (R175). -/
def payloadFits (payload : List Byte) : Bool := decide (payload.length ≤ 240)

/-- A kind that is not assigned, in the range of requests (R176). -/
def unassignedKind (kind : Byte) : Bool := decide (kind = 0) || (decide (0x37 ≤ kind.toNat) && decide (kind.toNat ≤ 0x7F))

/-- Whether a command stands for something the outside can send. -/
def Instr.wellFormed : Instr → Bool
  | .scheduleStore _ payload => payloadFits payload
  | .scheduleRead _ payload => payloadFits payload
  | .scheduleErase _ payload => payloadFits payload
  | .speciesStore _ payload => payloadFits payload
  | .speciesRead _ payload => payloadFits payload
  | .speciesErase _ payload => payloadFits payload
  | .storeQuery _ payload => payloadFits payload
  | .storeWriteComplete _ => true
  | .chargeCreate _ payload => payloadFits payload
  | .chargeClose _ payload => payloadFits payload
  | .chargeQuery _ payload => payloadFits payload
  | .chargeList _ payload => payloadFits payload
  | .feed _ payload => payloadFits payload
  | .feedEnd _ payload => payloadFits payload
  | .kilnConfig _ payload => payloadFits payload
  | .kilnLoad _ payload => payloadFits payload
  | .sampleDefine _ payload => payloadFits payload
  | .sampleExclude _ payload => payloadFits payload
  | .sampleInclude _ payload => payloadFits payload
  | .kilnStart _ payload => payloadFits payload
  | .kilnAdvance _ payload => payloadFits payload
  | .kilnHold _ payload => payloadFits payload
  | .kilnPark _ payload => payloadFits payload
  | .kilnResume _ payload => payloadFits payload
  | .kilnUnload _ payload => payloadFits payload
  | .kilnQuery _ payload => payloadFits payload
  | .secondTick => true
  | .kilnMinuteTick => true
  | .climatePollDue _ => true
  | .scanDue _ => true
  | .climateExchangeDone _ _ _ => true
  | .weighDone _ => true
  | .transferAttemptFailed _ => true
  | .busQuery _ payload => payloadFits payload
  | .terminalAssign _ payload => payloadFits payload
  | .terminalSet _ payload => payloadFits payload
  | .terminalRead _ payload => payloadFits payload
  | .generalInPinChange _ _ => true
  | .generalInFilterExpiry _ => true
  | .meterFaultInputChange _ => true
  | .conversionComplete _ _ => true
  | .eyeChange _ _ => true
  | .encoderPulse => true
  | .lineConfig _ payload => payloadFits payload
  | .lineStart _ payload => payloadFits payload
  | .lineStop _ payload => payloadFits payload
  | .knifeReset _ payload => payloadFits payload
  | .lineQuery _ payload => payloadFits payload
  | .packClose _ payload => payloadFits payload
  | .packTarget _ payload => payloadFits payload
  | .bayCleared _ payload => payloadFits payload
  | .packQuery _ payload => payloadFits payload
  | .stackerQuery _ payload => payloadFits payload
  | .labelEndSent => true
  | .ackReceived => true
  | .nakReceived => true
  | .busyReceived => true
  | .printerLineOther line => (Machine.printerAnswer line).isNone
  | .answerTimeout => true
  | .retryTimerExpiry => true
  | .reprint _ payload => payloadFits payload
  | .labelQuery _ payload => payloadFits payload
  | .faultConfig _ payload => payloadFits payload
  | .faultActions _ payload => payloadFits payload
  | .faultLogClear _ payload => payloadFits payload
  | .faultCountClear _ payload => payloadFits payload
  | .faultQuery _ payload => payloadFits payload
  | .faultConfigQuery _ payload => payloadFits payload
  | .frameReceived _ _ payload _ => payloadFits payload
  | .frameGapTimeout => true
  | .unknownRequest kind _ payload => unassignedKind kind && payloadFits payload
  | .transmitComplete => true
  | .reportsDropped => true
  | .subscribe _ payload => payloadFits payload
  | .superviseArm _ payload => payloadFits payload
  | .superviseRefresh _ payload => payloadFits payload
  | .supervisionExpiry => true
  | .setClock _ payload => payloadFits payload
  | .clearStartCauses _ payload => payloadFits payload
  | .statusQuery _ payload => payloadFits payload
  | .restart _ payload => payloadFits payload
  | .restartWarmStart _ => true
  | .breakWarmStart _ => true
  | .powerColdStart _ => true
  | .pinColdStart _ => true
  | .hostByteReceived _ => true
  | .byteWithoutStopBit => true
  | .receiveLineIdle => true
  | .encoderFallingEdge => true

end Sys2Proof
end

