-- ==== Sys2Proof/Laws/PerInstr.lean ====
section
/-! SUPPORT. A family of lemmas, one for each command: a well-formed command carries no more payload bytes than a frame holds. -/

namespace Sys2Proof.Laws.PayloadBound

/-- The payload bytes of the frame that a command stands for; an event of the plant carries none. -/
def carried : Instr → List Byte
  | .scheduleStore _ payload => payload
  | .scheduleRead _ payload => payload
  | .scheduleErase _ payload => payload
  | .speciesStore _ payload => payload
  | .speciesRead _ payload => payload
  | .speciesErase _ payload => payload
  | .storeQuery _ payload => payload
  | .storeWriteComplete _ => []
  | .chargeCreate _ payload => payload
  | .chargeClose _ payload => payload
  | .chargeQuery _ payload => payload
  | .chargeList _ payload => payload
  | .feed _ payload => payload
  | .feedEnd _ payload => payload
  | .kilnConfig _ payload => payload
  | .kilnLoad _ payload => payload
  | .sampleDefine _ payload => payload
  | .sampleExclude _ payload => payload
  | .sampleInclude _ payload => payload
  | .kilnStart _ payload => payload
  | .kilnAdvance _ payload => payload
  | .kilnHold _ payload => payload
  | .kilnPark _ payload => payload
  | .kilnResume _ payload => payload
  | .kilnUnload _ payload => payload
  | .kilnQuery _ payload => payload
  | .secondTick => []
  | .kilnMinuteTick => []
  | .climatePollDue _ => []
  | .scanDue _ => []
  | .climateExchangeDone _ _ _ => []
  | .weighDone _ => []
  | .transferAttemptFailed _ => []
  | .busQuery _ payload => payload
  | .terminalAssign _ payload => payload
  | .terminalSet _ payload => payload
  | .terminalRead _ payload => payload
  | .generalInPinChange _ _ => []
  | .generalInFilterExpiry _ => []
  | .meterFaultInputChange _ => []
  | .conversionComplete _ _ => []
  | .eyeChange _ _ => []
  | .encoderPulse => []
  | .lineConfig _ payload => payload
  | .lineStart _ payload => payload
  | .lineStop _ payload => payload
  | .knifeReset _ payload => payload
  | .lineQuery _ payload => payload
  | .packClose _ payload => payload
  | .packTarget _ payload => payload
  | .bayCleared _ payload => payload
  | .packQuery _ payload => payload
  | .stackerQuery _ payload => payload
  | .labelEndSent => []
  | .ackReceived => []
  | .nakReceived => []
  | .busyReceived => []
  | .printerLineOther _ => []
  | .answerTimeout => []
  | .retryTimerExpiry => []
  | .reprint _ payload => payload
  | .labelQuery _ payload => payload
  | .faultConfig _ payload => payload
  | .faultActions _ payload => payload
  | .faultLogClear _ payload => payload
  | .faultCountClear _ payload => payload
  | .faultQuery _ payload => payload
  | .faultConfigQuery _ payload => payload
  | .frameReceived _ _ payload _ => payload
  | .frameGapTimeout => []
  | .unknownRequest _ _ payload => payload
  | .transmitComplete => []
  | .reportsDropped => []
  | .subscribe _ payload => payload
  | .superviseArm _ payload => payload
  | .superviseRefresh _ payload => payload
  | .supervisionExpiry => []
  | .setClock _ payload => payload
  | .clearStartCauses _ payload => payload
  | .statusQuery _ payload => payload
  | .restart _ payload => payload
  | .restartWarmStart _ => []
  | .breakWarmStart _ => []
  | .powerColdStart _ => []
  | .pinColdStart _ => []
  | .hostByteReceived _ => []
  | .byteWithoutStopBit => []
  | .receiveLineIdle => []
  | .encoderFallingEdge => []

/-- A well-formed command carries at most 240 payload bytes (R175). -/
def Statement (i : Instr) : Prop := i.wellFormed = true → (carried i).length ≤ 240

theorem of_fits {payload : List Byte} (h : payloadFits payload = true) : payload.length ≤ 240 := by
  simpa [payloadFits] using h

theorem scheduleStore (tag : Byte) (payload : List Byte) : Statement (.scheduleStore tag payload) := fun h => of_fits h
theorem scheduleRead (tag : Byte) (payload : List Byte) : Statement (.scheduleRead tag payload) := fun h => of_fits h
theorem scheduleErase (tag : Byte) (payload : List Byte) : Statement (.scheduleErase tag payload) := fun h => of_fits h
theorem speciesStore (tag : Byte) (payload : List Byte) : Statement (.speciesStore tag payload) := fun h => of_fits h
theorem speciesRead (tag : Byte) (payload : List Byte) : Statement (.speciesRead tag payload) := fun h => of_fits h
theorem speciesErase (tag : Byte) (payload : List Byte) : Statement (.speciesErase tag payload) := fun h => of_fits h
theorem storeQuery (tag : Byte) (payload : List Byte) : Statement (.storeQuery tag payload) := fun h => of_fits h
theorem storeWriteComplete (verifyGood : Bool) : Statement (.storeWriteComplete verifyGood) := fun _ => Nat.zero_le _
theorem chargeCreate (tag : Byte) (payload : List Byte) : Statement (.chargeCreate tag payload) := fun h => of_fits h
theorem chargeClose (tag : Byte) (payload : List Byte) : Statement (.chargeClose tag payload) := fun h => of_fits h
theorem chargeQuery (tag : Byte) (payload : List Byte) : Statement (.chargeQuery tag payload) := fun h => of_fits h
theorem chargeList (tag : Byte) (payload : List Byte) : Statement (.chargeList tag payload) := fun h => of_fits h
theorem feed (tag : Byte) (payload : List Byte) : Statement (.feed tag payload) := fun h => of_fits h
theorem feedEnd (tag : Byte) (payload : List Byte) : Statement (.feedEnd tag payload) := fun h => of_fits h
theorem kilnConfig (tag : Byte) (payload : List Byte) : Statement (.kilnConfig tag payload) := fun h => of_fits h
theorem kilnLoad (tag : Byte) (payload : List Byte) : Statement (.kilnLoad tag payload) := fun h => of_fits h
theorem sampleDefine (tag : Byte) (payload : List Byte) : Statement (.sampleDefine tag payload) := fun h => of_fits h
theorem sampleExclude (tag : Byte) (payload : List Byte) : Statement (.sampleExclude tag payload) := fun h => of_fits h
theorem sampleInclude (tag : Byte) (payload : List Byte) : Statement (.sampleInclude tag payload) := fun h => of_fits h
theorem kilnStart (tag : Byte) (payload : List Byte) : Statement (.kilnStart tag payload) := fun h => of_fits h
theorem kilnAdvance (tag : Byte) (payload : List Byte) : Statement (.kilnAdvance tag payload) := fun h => of_fits h
theorem kilnHold (tag : Byte) (payload : List Byte) : Statement (.kilnHold tag payload) := fun h => of_fits h
theorem kilnPark (tag : Byte) (payload : List Byte) : Statement (.kilnPark tag payload) := fun h => of_fits h
theorem kilnResume (tag : Byte) (payload : List Byte) : Statement (.kilnResume tag payload) := fun h => of_fits h
theorem kilnUnload (tag : Byte) (payload : List Byte) : Statement (.kilnUnload tag payload) := fun h => of_fits h
theorem kilnQuery (tag : Byte) (payload : List Byte) : Statement (.kilnQuery tag payload) := fun h => of_fits h
theorem secondTick : Statement .secondTick := fun _ => Nat.zero_le _
theorem kilnMinuteTick : Statement .kilnMinuteTick := fun _ => Nat.zero_le _
theorem climatePollDue (kiln : Fin 6) : Statement (.climatePollDue kiln) := fun _ => Nat.zero_le _
theorem scanDue (kiln : Fin 6) : Statement (.scanDue kiln) := fun _ => Nat.zero_le _
theorem climateExchangeDone (dryBulb wetBulb : BitVec 16) (status : Byte) : Statement (.climateExchangeDone dryBulb wetBulb status) := fun _ => Nat.zero_le _
theorem weighDone (weight : BitVec 16) : Statement (.weighDone weight) := fun _ => Nat.zero_le _
theorem transferAttemptFailed (failure : BusFailure) : Statement (.transferAttemptFailed failure) := fun _ => Nat.zero_le _
theorem busQuery (tag : Byte) (payload : List Byte) : Statement (.busQuery tag payload) := fun h => of_fits h
theorem terminalAssign (tag : Byte) (payload : List Byte) : Statement (.terminalAssign tag payload) := fun h => of_fits h
theorem terminalSet (tag : Byte) (payload : List Byte) : Statement (.terminalSet tag payload) := fun h => of_fits h
theorem terminalRead (tag : Byte) (payload : List Byte) : Statement (.terminalRead tag payload) := fun h => of_fits h
theorem generalInPinChange (terminal : Fin 16) (high : Bool) : Statement (.generalInPinChange terminal high) := fun _ => Nat.zero_le _
theorem generalInFilterExpiry (terminal : Fin 16) : Statement (.generalInFilterExpiry terminal) := fun _ => Nat.zero_le _
theorem meterFaultInputChange (high : Bool) : Statement (.meterFaultInputChange high) := fun _ => Nat.zero_le _
theorem conversionComplete (converter : Converter) (count : BitVec 12) : Statement (.conversionComplete converter count) := fun _ => Nat.zero_le _
theorem eyeChange (eye : Eye) (high : Bool) : Statement (.eyeChange eye high) := fun _ => Nat.zero_le _
theorem encoderPulse : Statement .encoderPulse := fun _ => Nat.zero_le _
theorem lineConfig (tag : Byte) (payload : List Byte) : Statement (.lineConfig tag payload) := fun h => of_fits h
theorem lineStart (tag : Byte) (payload : List Byte) : Statement (.lineStart tag payload) := fun h => of_fits h
theorem lineStop (tag : Byte) (payload : List Byte) : Statement (.lineStop tag payload) := fun h => of_fits h
theorem knifeReset (tag : Byte) (payload : List Byte) : Statement (.knifeReset tag payload) := fun h => of_fits h
theorem lineQuery (tag : Byte) (payload : List Byte) : Statement (.lineQuery tag payload) := fun h => of_fits h
theorem packClose (tag : Byte) (payload : List Byte) : Statement (.packClose tag payload) := fun h => of_fits h
theorem packTarget (tag : Byte) (payload : List Byte) : Statement (.packTarget tag payload) := fun h => of_fits h
theorem bayCleared (tag : Byte) (payload : List Byte) : Statement (.bayCleared tag payload) := fun h => of_fits h
theorem packQuery (tag : Byte) (payload : List Byte) : Statement (.packQuery tag payload) := fun h => of_fits h
theorem stackerQuery (tag : Byte) (payload : List Byte) : Statement (.stackerQuery tag payload) := fun h => of_fits h
theorem labelEndSent : Statement .labelEndSent := fun _ => Nat.zero_le _
theorem ackReceived : Statement .ackReceived := fun _ => Nat.zero_le _
theorem nakReceived : Statement .nakReceived := fun _ => Nat.zero_le _
theorem busyReceived : Statement .busyReceived := fun _ => Nat.zero_le _
theorem printerLineOther (line : List Byte) : Statement (.printerLineOther line) := fun _ => Nat.zero_le _
theorem answerTimeout : Statement .answerTimeout := fun _ => Nat.zero_le _
theorem retryTimerExpiry : Statement .retryTimerExpiry := fun _ => Nat.zero_le _
theorem reprint (tag : Byte) (payload : List Byte) : Statement (.reprint tag payload) := fun h => of_fits h
theorem labelQuery (tag : Byte) (payload : List Byte) : Statement (.labelQuery tag payload) := fun h => of_fits h
theorem faultConfig (tag : Byte) (payload : List Byte) : Statement (.faultConfig tag payload) := fun h => of_fits h
theorem faultActions (tag : Byte) (payload : List Byte) : Statement (.faultActions tag payload) := fun h => of_fits h
theorem faultLogClear (tag : Byte) (payload : List Byte) : Statement (.faultLogClear tag payload) := fun h => of_fits h
theorem faultCountClear (tag : Byte) (payload : List Byte) : Statement (.faultCountClear tag payload) := fun h => of_fits h
theorem faultQuery (tag : Byte) (payload : List Byte) : Statement (.faultQuery tag payload) := fun h => of_fits h
theorem faultConfigQuery (tag : Byte) (payload : List Byte) : Statement (.faultConfigQuery tag payload) := fun h => of_fits h
theorem frameReceived (kind tag : Byte) (payload : List Byte) (check : BitVec 16) : Statement (.frameReceived kind tag payload check) := fun h => of_fits h
theorem frameGapTimeout : Statement .frameGapTimeout := fun _ => Nat.zero_le _
theorem unknownRequest (kind tag : Byte) (payload : List Byte) : Statement (.unknownRequest kind tag payload) := fun h => of_fits (by simp only [Instr.wellFormed, Bool.and_eq_true] at h; exact h.2)
theorem transmitComplete : Statement .transmitComplete := fun _ => Nat.zero_le _
theorem reportsDropped : Statement .reportsDropped := fun _ => Nat.zero_le _
theorem subscribe (tag : Byte) (payload : List Byte) : Statement (.subscribe tag payload) := fun h => of_fits h
theorem superviseArm (tag : Byte) (payload : List Byte) : Statement (.superviseArm tag payload) := fun h => of_fits h
theorem superviseRefresh (tag : Byte) (payload : List Byte) : Statement (.superviseRefresh tag payload) := fun h => of_fits h
theorem supervisionExpiry : Statement .supervisionExpiry := fun _ => Nat.zero_le _
theorem setClock (tag : Byte) (payload : List Byte) : Statement (.setClock tag payload) := fun h => of_fits h
theorem clearStartCauses (tag : Byte) (payload : List Byte) : Statement (.clearStartCauses tag payload) := fun h => of_fits h
theorem statusQuery (tag : Byte) (payload : List Byte) : Statement (.statusQuery tag payload) := fun h => of_fits h
theorem restart (tag : Byte) (payload : List Byte) : Statement (.restart tag payload) := fun h => of_fits h
theorem restartWarmStart (inputs : StartInputs) : Statement (.restartWarmStart inputs) := fun _ => Nat.zero_le _
theorem breakWarmStart (inputs : StartInputs) : Statement (.breakWarmStart inputs) := fun _ => Nat.zero_le _
theorem powerColdStart (inputs : StartInputs) : Statement (.powerColdStart inputs) := fun _ => Nat.zero_le _
theorem pinColdStart (inputs : StartInputs) : Statement (.pinColdStart inputs) := fun _ => Nat.zero_le _
theorem hostByteReceived (byte : Byte) : Statement (.hostByteReceived byte) := fun _ => Nat.zero_le _
theorem byteWithoutStopBit : Statement .byteWithoutStopBit := fun _ => Nat.zero_le _
theorem receiveLineIdle : Statement .receiveLineIdle := fun _ => Nat.zero_le _
theorem encoderFallingEdge : Statement .encoderFallingEdge := fun _ => Nat.zero_le _

end Sys2Proof.Laws.PayloadBound
end

