-- ==== Sys2Proof/Tests/Slice0.lean ====
section
/-! SUPPORT. Tests of the model: what well-formedness refuses, the manual's worked examples, and for each statement of
Certificates/Slice0 that has hypotheses a concrete case that meets them. -/

set_option maxRecDepth 100000

namespace Sys2Proof.Tests
open Sys2Proof Sys2Proof.Machine

/-! ## Cases -/

/-- A one-step outcome is the next state given. -/
def goesTo (o : Host.Outcome State Fault Refusal) (t : State) : Bool :=
  match o with
  | .next u => decide (u = t)
  | .fault _ | .refused _ => false

/-- The next state of an outcome, looked at by a test. -/
def nextIs (o : Host.Outcome State Fault Refusal) (test : State → Bool) : Bool :=
  match o with
  | .next u => test u
  | .fault _ | .refused _ => false

theorem atOnce {s : State} (h : s.port = State.reset.port) : s.takesAtOnce := by
  unfold State.takesAtOnce; rw [h]; decide

theorem settled {s : State} (h : s.bus.pendingPolls = []) : s.bus.settled := fun _ => h

/-- A schedule of two steps for species 2. -/
def oak : Schedule :=
  ⟨[0x41], 2, 5, ⟨600, 50, .mc 300, some 100⟩, [⟨700, 60, .time 5, none⟩], 10, 120, 20, 10, 30, 60⟩

/-- Species 2 of the worked examples of chapter 2: RED OAK, limits 60, 110 and 160. -/
def redOak : SpeciesEntry :=
  ⟨[0x52, 0x45, 0x44, 0x20, 0x4F, 0x41, 0x4B], ⟨400, 60⟩, [⟨1200, 120⟩, ⟨2400, 200⟩, ⟨3600, 300⟩], 60, 60, 110, 160⟩

def noCounts : PlanerCounts := ⟨0, 0, 0, 0, 0, 0⟩

/-- A charge of species 2 on slot 4, dressed 100 mm by 25 mm. -/
def charge (number : Nat) (state : ChargeState) : ChargeRecord :=
  ⟨number, state, 2, 25, 100, 500, 4, none, none, none, ⟨0, true⟩, none, none, none, false, noCounts, 0, 0, none, 0, 0, false⟩

/-- Reset with slot 4 VALID, species 2 PRESENT, and a record at position 3. -/
def withCharge (c : ChargeRecord) : State :=
  { State.reset with
    store :=
      { factoryStore with
        slots := factoryStore.slots.set 4 (.valid oak), species := factoryStore.species.set 2 (.present redOak) }
    charges := { coldCharges with records := coldCharges.records.set 3 (some c) } }

def sample (mc : Option Nat) : Sample := ⟨.defined, 1000, 500, 667, none, mc, false, 0⟩

/-- Samples at positions 0 and 3. -/
def twoSamples (mc : Option Nat) : Vector (Option Sample) 8 :=
  ((Vector.replicate 8 none).set 0 (some (sample mc))).set 3 (some (sample mc))

def run0 : DryingRun := ⟨oak, 0, 0, 0, false, 600, 600, 50⟩

/-- Kiln 1 with charge 7 and two samples, in a state. -/
def kilnIn (state : KilnState) (resume : Option Phase) (level : Nat) : Kiln :=
  { coldKiln 1 with
    state := state, resume := resume, level := level, charge := some 7, drying := some run0, samples := twoSamples (some 300) }

def loadedKiln : Kiln := { coldKiln 1 with state := .loaded, charge := some 7, samples := twoSamples none }

/-- Charge 7 in kiln 1, the kiln as given. -/
def drying (c : Kiln) : State :=
  { withCharge { charge 7 (if c.state = .loaded then .inKiln else .drying) with kiln := some 1 } with
    kilns := coldKilns.set 1 c }

def onTerminal (fn : TermFn) : Terminal := { coldTerminal false with fn := fn }

def lineTerminals : Vector Terminal 16 :=
  #v[onTerminal .infeedEye, onTerminal .outfeedEye, onTerminal .encoder, onTerminal .meterFault, (onTerminal .redryGate).driven false,
    (onTerminal .rejectGate).driven false, (onTerminal .lineStop).driven true, onTerminal .generalIn, onTerminal .generalIn,
    (onTerminal .generalOut).driven false, onTerminal .generalIn, onTerminal .generalIn,
    { onTerminal .meterIn with conversion := some 1800 }, { onTerminal .tempIn with conversion := some 2252 },
    onTerminal .generalIn, onTerminal .generalIn]

/-- A line in a state, fed by charge 7, every function held and no eye filter. -/
def lineIn (state : LineState) : State :=
  { withCharge (charge 7 .planing) with
    terminals := lineTerminals
    line := { coldLine with state := state, stopDemand := state.stops, config := { defaultLineConfig with eyeFilter := 0 } } }

/-- The line with boards in its queue, at a position. -/
def tracking (queue : List Board) (position : Nat) (state : LineState) : State :=
  { lineIn state with line := { (lineIn state).line with queue := queue, position := position } }

/-- The same without a feed charge. -/
def unfed (s : State) : State := { s with charges := coldCharges }

def board5 : Board := newBoard 5 (some 7) 0

/-- Pack 40 of class 1, open with three pieces. -/
def openPack40 : Pack :=
  ⟨40, 1, .opened, 60, 3, 9000, 10, 300, 120, ⟨0, true⟩, ⟨0, true⟩, [⟨7, 3⟩], false, 0, none⟩

def closedPack (number : Nat) (state : PackState) (label : LabelState) : Pack :=
  { openPack40 with
    number := number, state := state, closing := some ⟨⟨false, false, false⟩, .request, ⟨0, true⟩, label, 0⟩ }

/-- A label of bay 1A under transmission. -/
def labelOf (pack : Nat) : LabelEntry := ⟨2, pack, false, 1, false, false⟩

/-- The stacker with a pack in bay 1A and labels queued, the head's answer awaited. -/
def stacker (p : Pack) (queue : List LabelEntry) : State :=
  { lineIn .running with
    packs := { coldPacks with bays := coldPacks.bays.set 2 (some p) }
    labels := { coldLabels with queue := queue, link := .answerWait, answerTimer := some 0, retryTimer := some 0 } }

def masked (k : FaultKind) (s : State) : State :=
  { s with
    faults := { s.faults with kinds := s.faults.kinds.set k.index { s.faults.kinds[k.index] with masked := true } } }

/-- The field bus serving a poll of kiln 1. -/
def serving (work : PollWork) (attempt : Nat) (s : State) : State :=
  { s with
    bus := { s.bus with current := some ⟨⟨1, match work with | .climate _ => .climate | .scan .. => .scan, 0⟩, attempt, 0x21, work⟩ } }

/-! ## Well-formedness and the table's bits -/

theorem test_a_payload_of_241_bytes_is_refused :
    (Instr.feedEnd 0 (List.replicate 241 0)).wellFormed = false ∧ (Instr.feedEnd 0 (List.replicate 240 0)).wellFormed = true ∧
      (Instr.frameReceived 1 0 (List.replicate 241 0) 0).wellFormed = false := by decide

theorem test_an_assigned_kind_is_no_unknown_request :
    (Instr.unknownRequest 0x36 0 []).wellFormed = false ∧ (Instr.unknownRequest 0x37 0 []).wellFormed = true ∧
      (Instr.unknownRequest 0 0 []).wellFormed = true ∧ (Instr.unknownRequest 0x80 0 []).wellFormed = false := by decide

theorem test_an_unknown_request_payload_fits :
    (Instr.unknownRequest 0x37 0 (List.replicate 241 0)).wellFormed = false := by decide

theorem test_an_answer_is_no_other_line :
    (Instr.printerLineOther [0x41, 0x43, 0x4B]).wellFormed = false ∧ (Instr.printerLineOther [0x41, 0x43]).wellFormed = true ∧
      (Instr.printerLineOther [0x42, 0x55, 0x53, 0x59, 0x0D]).wellFormed = false := by decide

theorem test_no_word_spells_a_command (n w : Nat) : decodeTableWord n w = none := rfl

/-! ## Worked examples of the manual -/

/-- Section 2.2: OD weight, and the plausible window of that sample. -/
theorem test_sample_worked_example :
    odWeight 12400 620 = 7654 ∧ plausible 12648 12400 7654 = true ∧ plausible 12649 12400 7654 = false ∧
      plausible 7272 12400 7654 = true ∧ plausible 7271 12400 7654 = false ∧ sampleMC 9150 7654 = (195, false) ∧
      sampleMC 9020 7654 = (178, false) ∧ sampleMC 7400 7654 = (0, false) ∧ odWeight 100 2000 = 33 ∧
      sampleMC 102 33 = (2000, true) := by decide

/-- Section 2.3: the controlling MC as samples come and go, and the final mean of the first row. -/
theorem test_controlling_worked_example :
    kilnFigures [212, 195, 188, 240, 176] = ⟨some 216, some 240, some 176⟩ ∧
      kilnFigures [212, 195, 188, 176] = ⟨some 204, some 212, some 176⟩ ∧
      kilnFigures [212, 190, 188, 176, 230] = ⟨some 211, some 230, some 176⟩ ∧
      kilnFigures [212, 190, 188, 236, 176, 230] = ⟨some 226, some 236, some 176⟩ ∧
      finalMC [212, 195, 188, 240, 176] = some ⟨202, 240, 176⟩ := by decide

/-- Section 2.4: meter counts. -/
theorem test_meter_worked_example :
    ([300, 400, 1500, 1800, 2000, 2400, 3000, 3600].map fun r => (meterMC redOak r).mc) =
      [60, 60, 140, 160, 173, 200, 250, 300] := by decide

/-- Section 2.4: temperature counts, and the corrections with coefficients 60 and 20. -/
theorem test_temperature_worked_example :
    ([2252, 1740, 1536, 4095].map fun r =>
        (boardTemperature (some r), correction (boardTemperature (some r)) 60, correction (boardTemperature (some r)) 20)) =
      [(350, -9, -3), (225, -2, -1), (175, 2, 1), (800, -36, -12)] := by decide

/-- Section 2.5: boards 714 and 715. -/
theorem test_boards_714_and_715 :
    boardFigures (some redOak) ([1800, 2000, 1500, 2400, 3000, 1900].map fun r => ⟨r, some 2252⟩) =
        ⟨6, some ⟨173, 241, false, false⟩⟩ ∧
      decideBoard defaultLineConfig 3050 (some redOak) ⟨6, some ⟨173, 241, false, false⟩⟩ = .redry ∧
      boardFigures (some redOak) ([400, 500, 600, 700].map fun r => ⟨r, none⟩) = ⟨4, some ⟨72, 83, true, false⟩⟩ ∧
      decideBoard defaultLineConfig 3050 (some redOak) ⟨4, some ⟨72, 83, true, false⟩⟩ = .accept 2 := by decide

/-- Section 2.6: the rate at the limit does not flag. -/
theorem test_redry_rate_worked_example :
    redryExceeds 80 ⟨0, 17, 2, 1, 0, 0⟩ = true ∧ redryExceeds 80 ⟨0, 22, 2, 1, 0, 0⟩ = false ∧
      redryExceeds 80 ⟨0, 17, 1, 1, 0, 0⟩ = false := by decide

/-- Section 2.7: a board's volume and the printed figures. -/
theorem test_volume_worked_example :
    boardVolume 3050 150 45 = 20587500 ∧ volumeDm3 823500000 = 824 ∧ volumeDm3 30000000 = 30 ∧ volumeDm3 1499999 = 1 := by
  decide

/-- Records of the given numbers from position 0 on. -/
def recordsOf (numbers : List Nat) : Vector (Option ChargeRecord) 12 :=
  (numbers.foldl
    (fun (x : Nat × Vector (Option ChargeRecord) 12) n =>
      (x.1 + 1, if h : x.1 < 12 then x.2.set x.1 (some (charge n .created)) else x.2)) (0, coldCharges.records)).2

/-- The charge table of section 1.4. -/
def numbered (extra : List Nat) (next : Nat) : State :=
  { State.reset with
    store := { factoryStore with nextCharge := next }
    charges := { coldCharges with records := recordsOf ([65533, 65535, 1, 2] ++ extra) } }

/-- Section 1.4: the numbers drawn. -/
theorem test_draw_worked_example :
    (numbered [40] 65533).drawnCharge = 65534 ∧ nextCharge 65534 = 65535 ∧ (numbered [40, 65534] 65535).drawnCharge = 3 ∧
      (numbered [65534, 3] 4).drawnCharge = 4 ∧ nextPack 999999 = 1 ∧ nextCharge 65535 = 1 := by decide

/-- Section 3.2: a claim of 30 from a tally of 37, and one of 40, which exceeds the declared 30 or the tally. -/
def claims (declared claim : Nat) : List Byte := [2, 25] ++ le 2 100 ++ le 2 declared ++ [4, 1] ++ le 2 claim ++ [2]

def tallied : State :=
  { withCharge (charge 7 .created) with
    store := { (withCharge (charge 7 .created)).store with nextCharge := 2207 }
    charges := { (withCharge (charge 7 .created)).charges with tally := (Vector.replicate 8 0).set 2 37 } }

theorem test_claim_worked_example :
    nextIs (exec (.chargeCreate 9 (claims 60 30)) tallied) (fun t => decide (t.charges.tally[2] = 7) &&
        decide (t.store.nextCharge = 2208) && decide (t.port.replies = [⟨0x88, 9, 0x00 :: le 2 2207⟩])) = true ∧
      goesTo (exec (.chargeCreate 9 (claims 60 40)) tallied) (tallied.after [] (replyTo 0x08 9 [0x02])) = true ∧
      goesTo (exec (.chargeCreate 9 (claims 30 40)) tallied) (tallied.after [] (replyTo 0x08 9 [0x02])) = true := by
  decide +kernel

/-- Section 4.7: a start from a chamber read at 18.2 °C sets the setpoint to 20.0 °C. -/
theorem test_setpoint_clamped :
    nextIs (exec (.kilnStart 9 [1]) (drying { loadedKiln with measured := some ⟨182, 150, 0, 0, false⟩ }))
      (fun t => decide (t.kilns[1].drying.map (·.setpoint) = some 200)) = true := by decide +kernel

/-- Section 7, two boards: the filter takes a change that began 20 mm back. -/
theorem test_filter_of_20_mm :
    nextIs (exec .encoderPulse { lineIn .running with
        line := { (lineIn .running).line with
          config := defaultLineConfig, position := 5001900, infeed := ⟨false, some 5000000⟩ } })
      (fun t => decide (t.line.queue.map (·.entry) = [5000000]) && decide (t.line.position = 5002000)) = true ∧
    nextIs (exec .encoderPulse { lineIn .running with
        line := { (lineIn .running).line with
          config := defaultLineConfig, position := 5001800, infeed := ⟨false, some 5000000⟩ } })
      (fun t => decide (t.line.queue = [])) = true := by decide +kernel

/-- Section 7, two boards: board 714 of 3050 mm takes its first sample at 500 mm past the meter and not before. -/
theorem test_first_sample_at_500_mm :
    nextIs (exec .encoderPulse (tracking [newBoard 714 (some 7) 5000000] 5249900 .running))
      (fun t => decide (t.line.queue.map (·.pairs) = [[⟨1800, some 2252⟩]])) = true ∧
    nextIs (exec .encoderPulse (tracking [newBoard 714 (some 7) 5000000] 5249800 .running))
      (fun t => decide (t.line.queue.map (·.pairs) = [[]])) = true := by decide +kernel

/-- Section 10, a meter contact stuck active: the counter stands at 127 and the next raise sets the overflow flag. -/
theorem test_counter_worked_example :
    let log (n : Nat) (o : Bool) : DomainLog := ⟨none, none, n, o⟩
    let r : FaultRecord := ⟨.meterFault, .advisory, ⟨0, true⟩, .line (some 1001) (some 318) 0⟩
    (log 124 false).raised r true = (⟨some r, none, 125, false⟩, .first) ∧
      (⟨some r, none, 125, false⟩ : DomainLog).raised r true = (⟨some r, some r, 126, false⟩, .next) ∧
      (⟨some r, some r, 126, false⟩ : DomainLog).raised r true = (⟨some r, some r, 127, false⟩, .none) ∧
      (⟨some r, some r, 127, false⟩ : DomainLog).raised r true = (⟨some r, some r, 127, true⟩, .none) := by decide

/-- The characters of a printed line and its end. -/
def textOf (s : String) : List Byte := (s.toList.map fun c => BitVec.ofNat 8 c.toNat) ++ [0x0D, 0x0A]

/-- Chapter 11: the lines of the label of pack 40120. -/
theorem test_label_worked_example :
    LabelRecord.lines
        { pack := 40120, cls := 2, speciesNumber := 2, speciesName := some redOak.name, thicknessClass := some 5
          pieces := 40, lengthTenths := roundHalfUp 122000 100, volumeDm3 := volumeDm3 823500000
          mcMean := roundHalfUp 3380 40, mcMax := 104
          charges := [⟨318, 2, some 3, some ⟨1722409210, false⟩, 40⟩], mixed := none, flags := ⟨false, false, false⟩
          closeReason := .count, closeTime := ⟨1724050331, false⟩, time := ⟨1724050331, false⟩, reprint := none } =
      ["PACK:040120", "CLASS:2", "SPECIES:RED OAK", "THICKNESS:5", "PIECES:40", "LENGTH:122.0", "VOLUME:0.824",
        "MC MEAN:8.5", "MC MAX:10.4", "CHARGE:318,2,3,1722409210,40", "EXCEPTIONS:NONE", "CLOSE:COUNT,1724050331",
        "TIME:1724050331", "END"].map textOf := by decide +kernel

/-- The check value of the nine digits, as published for CRC-16 with polynomial 0x1021 and initial value 0xFFFF. -/
theorem test_crc_check_value : crc16 [0x31, 0x32, 0x33, 0x34, 0x35, 0x36, 0x37, 0x38, 0x39] = 0x29B1 := by decide

/-- Section 10: a failed schedule write under default actions, seen at kilns 0 to 5 and at the report queue. -/
def sixKilns : State :=
  { withCharge (charge 7 .drying) with
    kilns := #v[kilnIn .run none 0, kilnIn .park (some .condition) 1, coldKiln 2, kilnIn .equalise none 0, kilnIn .done none 0,
      kilnIn .hold (some .run) 3]
    port := { State.reset.port with subscribed := 0x3FFF } }

theorem test_failed_write_worked_example :
    let t := raise .storeWriteFail .system (.system (some (.schedule 9))) sixKilns
    (allKilns.map fun k => (t.kilns[k].state, t.kilns[k].resume, t.kilns[k].level)) =
        [(.hold, some .run, 2), (.park, some .condition, 2), (.idle, none, 0), (.hold, some .equalise, 2), (.done, none, 0),
          (.hold, some .run, 3)] ∧
      t.port.reports.map (fun e => e.report.kind) = [.fault, .kilnState, .kilnState, .kilnState] ∧
      t.line = sixKilns.line := by decide +kernel

/-- Section 11.6: the expiry of the worked example, with kiln 0 in RUN, kiln 2 in PARK at level 1 and the line RUNNING. -/
def armed : State :=
  { lineIn .running with
    kilns := #v[kilnIn .run none 0, coldKiln 1, kilnIn .park (some .run) 1, coldKiln 3, coldKiln 4, coldKiln 5]
    port :=
      { State.reset.port with
        subscribed := 0x2FFF, sending := some (.reply ⟨0, 0, []⟩), supervision := some ⟨10, 6, .holdAll, false, 0⟩ } }

theorem test_expiry_worked_example :
    nextIs (exec .supervisionExpiry armed) (fun t =>
      decide ((allKilns.map fun k => (t.kilns[k].state, t.kilns[k].level)) =
          [(.hold, 3), (.idle, 0), (.park, 3), (.idle, 0), (.idle, 0), (.idle, 0)]) &&
        decide (t.line.state = .tripped) && t.port.latch &&
        decide (t.port.reports.map (fun e => e.report.kind) = [.supervision, .kilnState, .kilnState, .lineState])) = true := by
  decide +kernel

/-- Chapter 6, preparing an output level: the assignment drives the stored level, and a set level is driven at once. -/
theorem test_horn_worked_example :
    let horn : State :=
      { State.reset with
        terminals := State.reset.terminals.set 10 { coldTerminal true with polarity := .activeLow, input := false } }
    nextIs (exec (.terminalAssign 9 [10, 1, 1, 0]) horn) (fun t =>
      decide (t.terminals[10].fn = .generalOut) && decide (t.terminals[10].drive = some true) &&
      nextIs (exec (.terminalSet 9 [10, 1]) t) fun u =>
        decide (u.terminals[10].stored = true) && decide (u.terminals[10].drive = some false)) = true := by decide +kernel

/-- Chapter 6, fitting a sensor: BOTH reports the edge with count 42, and a line function refuses a level. -/
theorem test_extractor_worked_example :
    let contact : State :=
      { lineIn .stopped with
        terminals := lineTerminals.set 10
          { onTerminal .generalIn with edges := .both, edgeCount := 41, pinHigh := true, waiting := some true } }
    nextIs (exec (.generalInFilterExpiry 10) contact) (fun t =>
      decide (t.terminals[10].input = true) && decide (t.terminals[10].edgeCount = 42)) = true ∧
    goesTo (exec (.terminalSet 9 [13, 1]) contact) (contact.after [] (replyTo 0x1C 9 [0x0A])) = true := by decide +kernel

/-- Section 8.7: a fifth charge is not listed. -/
theorem test_many_charges_worked_example :
    (openPack40.withLineage 8).lineage = [⟨7, 3⟩, ⟨8, 1⟩] ∧
      (({ openPack40 with lineage := [⟨318, 2⟩, ⟨411, 1⟩, ⟨502, 1⟩, ⟨530, 1⟩] } : Pack).withLineage 611).mixed = true ∧
      (({ openPack40 with lineage := [⟨318, 2⟩, ⟨411, 1⟩, ⟨502, 1⟩, ⟨530, 1⟩] } : Pack).withLineage 611).unlisted = 1 := by
  decide

/-- Chapter 5, a module lost: the third failed poll loses the module, parks the kiln at level 3 and trips the line. -/
theorem test_module_lost_worked_example :
    let s := serving (.climate ⟨.run, 600, 50⟩) 3 (drying (kilnIn .run none 0))
    let s := { s with bus := s.bus.setLink 1 { s.bus.links[1] with link := .up, failures := 2 } }
    nextIs (exec (.transferAttemptFailed .nack) s) (fun t =>
      decide (t.bus.links[1].link = .lost) && decide (t.bus.links[1].failures = 0) && decide (t.kilns[1].state = .park) &&
        decide (t.kilns[1].level = 3) && decide (t.line.state = .tripped) &&
        decide (t.bus.current.map (·.entry.kind) = some .climate)) = true := by decide +kernel

/-! ## Witnesses: a case that meets the hypotheses of each statement

Hypotheses of the form `x = …` that only name a value are not repeated. -/

theorem witness_StepRunsTheFrontCommand :
    (({ State.reset with pending := [.secondTick, .encoderPulse] } : State).pending = .secondTick :: [.encoderPulse]) ∧
      State.reset.pending = [] := ⟨rfl, rfl⟩

/-- Slot 4 VALID, slot 5 WRITING, species 2 PRESENT, species 3 WRITING. -/
def stored : State :=
  { State.reset with
    store :=
      { factoryStore with
        slots := (factoryStore.slots.set 4 (.valid oak)).set 5 .writing
        species := (factoryStore.species.set 2 (.present redOak)).set 3 (.writing (some redOak)) } }

theorem witness_StoreRequestsQueueTheirWrites :
    stored.takesAtOnce ∧ stored.store.slots[(5 : Fin 16)] = .writing ∧ stored.store.slots[(4 : Fin 16)] ≠ .writing ∧
      readSchedule [] = none ∧ readSchedule oak.wire = some oak ∧ 16 ≤ (byteOf 16).toNat ∧
      stored.store.species[(3 : Fin 8)] = .writing (some redOak) ∧
      (∀ former, stored.store.species[(2 : Fin 8)] ≠ .writing former) ∧ readSpecies redOak.wire = some redOak :=
  ⟨atOnce rfl, by decide, by decide, by decide, by decide +kernel, by decide, by decide,
    (fun f h => by
      have e : stored.store.species[(2 : Fin 8)] = .present redOak := by decide
      rw [e] at h; cases h),
    by decide +kernel⟩

theorem witness_ScheduleRecordRoundTrips : oak.valid ∧ readSchedule oak.wire = some oak := by
  refine ⟨?_, by decide +kernel⟩
  simp [Schedule.valid, ScheduleStep.valid, nameValid, oak, mcThresholds, Schedule.steps]

theorem witness_SpeciesEntryRoundTrips : redOak.valid ∧ readSpecies redOak.wire = some redOak := by
  refine ⟨?_, by decide +kernel⟩
  simp [SpeciesEntry.valid, nameValid, redOak]

theorem witness_ReadAndEraseByState :
    stored.takesAtOnce ∧ stored.store.slots[(4 : Fin 16)] ≠ .writing ∧ stored.store.slots[(5 : Fin 16)] = .writing :=
  ⟨atOnce rfl, by decide⟩

theorem witness_WriteCompletesAtTheHead :
    let s (w : Write) : State := masked .storeWriteFail { stored with store := { stored.store with writes := [w] } }
    (s (.schedule 5 oak)).port.dropOwed = none ∧ (s (.schedule 5 oak)).bus.settled ∧
      (s (.schedule 5 oak)).store.writes = [.schedule 5 oak] ∧ (s (.species 3 redOak)).store.writes = [.species 3 redOak] ∧
      (s (.schedule 5 oak)).faults.kinds[FaultKind.storeWriteFail.index].masked = true :=
  ⟨by decide, settled rfl, by decide⟩

/-- A failed verify with STORE_WRITE_FAIL as it stands at reset, of a schedule and of a species entry. -/
theorem witness_WriteCompletesAtTheHead_with_its_raise :
    let s (w : Write) : State := { stored with store := { stored.store with writes := [w] } }
    let failed : Store := { stored.store with species := stored.store.species.set 3 .invalid, writes := [] }
    (s (.schedule 5 oak)).port.dropOwed = none ∧ (s (.schedule 5 oak)).bus.settled ∧
      (s (.schedule 5 oak)).store.writes = [.schedule 5 oak] ∧ (s (.species 3 redOak)).store.writes = [.species 3 redOak] ∧
      nextIs (exec (.storeWriteComplete false) (s (.species 3 redOak))) (fun t =>
        decide (t.store = failed) &&
          decide (t.faults.kinds = (raise .storeWriteFail .system (.system (some (.species 3)))
            { stored with store := failed }).faults.kinds)) = true :=
  ⟨by decide, settled rfl, by decide, by decide, by decide +kernel⟩

theorem witness_ChargeCreatePlacesTheRecord :
    tallied.takesAtOnce ∧ readNewCharge (claims 60 30) = some ⟨2, 25, 100, 60, 4, some ⟨30, 2⟩⟩ ∧
      tallied.freePosition = some 0 ∧ tallied.store.slots[(4 : Fin 16)] = .valid oak ∧ oak.species = 2 ∧
      (∀ n ∈ NewCharge.speciesNamed ⟨2, 25, 100, 60, 4, some ⟨30, 2⟩⟩, ∃ e, tallied.store.species[n] = .present e) ∧
      30 ≤ tallied.charges.tally[(2 : Fin 8)] :=
  ⟨atOnce rfl, by decide, by decide, by decide, by decide,
    fun n h => ⟨redOak, by
      have : n = 2 := by simpa [NewCharge.speciesNamed] using h
      subst this; decide⟩,
    by decide⟩

/-- Each stage that refuses a CHARGE-CREATE: the table full, the slot WRITING, the species WRITING, the slot EMPTY, the species
ABSENT, the species another one, the tally short by one. -/
theorem witness_ChargeCreatePlacesTheRecord_refusals :
    let full : State := { tallied with charges := { tallied.charges with records := Vector.replicate 12 (some (charge 7 .created)) } }
    let r : NewCharge := ⟨2, 25, 100, 60, 4, some ⟨30, 2⟩⟩
    let slot (x : Slot) : State := { tallied with store := { tallied.store with slots := tallied.store.slots.set 4 x } }
    let species (x : SpeciesPlace) : State :=
      { tallied with store := { tallied.store with species := tallied.store.species.set 2 x } }
    readNewCharge [] = none ∧ readNewCharge (claims 60 30) = some r ∧
      (∀ pos : Fin 12, full.charges.records[pos].isSome = true) ∧ tallied.charges.records[(0 : Fin 12)] = none ∧
      (slot .writing).store.slots[r.slot] = .writing ∧ 2 ∈ r.speciesNamed ∧
      (species (.writing none)).store.species[(2 : Fin 8)] = .writing none ∧ (slot .empty).store.slots[r.slot] = .empty ∧
      (species .absent).store.species[(2 : Fin 8)] = .absent ∧ (slot (.valid { oak with species := 3 })).store.slots[r.slot] =
        .valid { oak with species := 3 } ∧ ({ oak with species := 3 } : Schedule).species ≠ r.species.val ∧
      ({ tallied with charges := { tallied.charges with tally := tallied.charges.tally.set 2 29 } } : State).charges.tally[(2 : Fin 8)] < 30 := by
  decide

theorem witness_DrawnChargeNumberIsTheFirstUnheld :
    1 ≤ (numbered [40] 65533).store.nextCharge ∧ (numbered [40] 65533).store.nextCharge ≤ 65535 ∧
      (numbered [40] 65533).freePosition.isSome = true := by decide

theorem witness_ChargeCloseClosesAndFrees :
    (withCharge { charge 7 .released with packRefs := 1 }).takesAtOnce ∧
      (withCharge { charge 7 .released with packRefs := 1 }).charge? 7 = some { charge 7 .released with packRefs := 1 } ∧
      ¬ (({ charge 7 .released with packRefs := 1 } : ChargeRecord).inFlight = 0 ∧
        ({ charge 7 .released with packRefs := 1 } : ChargeRecord).packRefs = 0) ∧
      (withCharge (charge 7 .created)).charge? 7 = some (charge 7 .created) ∧ (charge 7 .created).inFlight = 0 ∧
      (charge 7 .created).packRefs = 0 ∧ (withCharge (charge 7 .planing)).charge? 7 = some (charge 7 .planing) ∧
      (charge 7 .planing).state ≠ .created ∧ (charge 7 .planing).state ≠ .released :=
  ⟨atOnce rfl, by decide⟩

/-- A RELEASED charge 8 beside the feed charge 7. -/
def twoCharges : State :=
  { lineIn .stopped with
    charges := { (lineIn .stopped).charges with
      records := (lineIn .stopped).charges.records.set 5 (some (charge 8 .released)) } }

theorem witness_FeedChargeMoves :
    twoCharges.takesAtOnce ∧ twoCharges.charge? 8 = some (charge 8 .released) ∧ (charge 8 .released).state = .released ∧
      twoCharges.feedCharge = some (charge 7 .planing) ∧ twoCharges.charge? 7 = some (charge 7 .planing) ∧
      (charge 7 .planing).number ≠ 8 ∧ twoCharges.line.state = .stopped ∧
      (withCharge (charge 7 .released)).feedCharge = none ∧ (withCharge (charge 7 .released)).takesAtOnce ∧
      (withCharge (charge 7 .released)).line.state = .stopped ∧
      (withCharge (charge 7 .released)).charge? 7 = some (charge 7 .released) ∧
      (tracking [board5] 0 .running).takesAtOnce ∧ (tracking [board5] 0 .running).feedCharge = some (charge 7 .planing) ∧
      (tracking [board5] 0 .running).charge? 7 = some (charge 7 .planing) ∧
      (tracking [board5] 0 .running).line.state = .running ∧ (tracking [board5] 0 .running).line.queue ≠ [] :=
  ⟨atOnce rfl, by decide, by decide, by decide, by decide, by decide, by decide, by decide, atOnce rfl, by decide, by decide,
    atOnce rfl, by decide⟩

/-- The line states in which FEED and FEED-END move the line. -/
theorem witness_FeedChargeMoves_by_line_state :
    let at' (state : LineState) (ret : Option ReturnState) : State :=
      { twoCharges with line := { twoCharges.line with state := state, returnTo := ret, stopDemand := state.stops } }
    (at' .draining none).takesAtOnce ∧ (at' .draining none).line.state = .draining ∧
      (at' .draining none).charge? 8 = some (charge 8 .released) ∧ (at' .blocked (some .draining)).line.state = .blocked ∧
      (at' .blocked (some .draining)).line.returnTo = some .draining ∧
      (at' .blocked (some .running)).line.returnTo = some .running ∧
      (at' .running none).feedCharge = some (charge 7 .planing) ∧ (at' .running none).line.queue = [] ∧
      (at' .running none).packs.held = [] ∧ (at' .running none).charge? 9 = none ∧
      (unfed (lineIn .stopped)).feedCharge = none ∧ (charge 7 .planing).state ≠ .released :=
  ⟨atOnce rfl, by decide⟩

/-- The only record of a table with one is that one. -/
theorem only_record {c d : ChargeRecord} {p : Fin 12} (h : (withCharge c).charges.records[p] = some d) : p = 3 ∧ d = c := by
  have h : ((coldCharges.records.set 3 (some c))[p.val]) = some d := h
  by_cases hp : p.val = 3
  · obtain rfl : p = 3 := Fin.ext hp
    simpa using h.symm
  · rw [Vector.getElem_set_ne (h := fun e => hp e.symm)] at h
    simp [coldCharges] at h

/-- One PENDING board of charge 7 in the queue, an encoder pulse to come. -/
def balanced : State :=
  let s := tracking [board5] 0 .running
  { s with
    charges := (withCharge { charge 7 .planing with counts := ⟨1, 0, 0, 0, 0, 0⟩, inFlight := 1 }).charges
    pending := [.encoderPulse] }

theorem balanced_boardsSound : balanced.boardsSound := by
  refine ⟨fun i j c d hc hd _ => (only_record hc).1.trans (only_record hd).1.symm, fun i c hc => ?_, ?_, ?_⟩
  · obtain ⟨rfl, rfl⟩ := only_record hc
    decide
  · intro b hb
    obtain rfl : b = board5 := by simpa [balanced, tracking] using hb
    refine ⟨fun n hn => ?_, by decide, by decide⟩
    obtain rfl : 7 = n := by simpa [board5, newBoard] using hn
    decide
  · intro h hh
    simp [balanced, tracking, lineIn, withCharge, State.reset, coldPacks] at hh

theorem witness_BoardCountsKeepTheirBalance :
    let c : ChargeRecord := { charge 7 .planing with counts := ⟨3, 1, 1, 0, 0, 0⟩ }
    balanced.boardsSound ∧
      (∀ (i : Fin 12) (d : ChargeRecord), balanced.charges.records[i] = some d → d.counts.entered < 4294967295) ∧
      nextIs (step balanced) (fun t => decide (t.line.position = 100)) = true ∧
      c.counts.entered < 4294967295 ∧
      c.counts.accepted + c.counts.redry + c.counts.rejected + c.counts.unmeasured + c.counts.untracked < 4294967295 ∧
      c.counts.entered =
        c.counts.accepted + c.counts.redry + c.counts.rejected + c.counts.unmeasured + c.counts.untracked + 1 ∧
      Decision.redry ≠ .pending := by
  refine ⟨balanced_boardsSound, fun i d hd => ?_, by decide +kernel, by decide⟩
  obtain ⟨-, rfl⟩ := only_record hd
  decide

theorem witness_QueriesOnlyReply :
    State.reset.takesAtOnce ∧ (withCharge (charge 7 .created)).takesAtOnce ∧
      (withCharge (charge 7 .created)).charges.records[(3 : Fin 12)] = some (charge 7 .created) ∧
      (∀ (p : Fin 12) (d : ChargeRecord), (withCharge (charge 7 .created)).charges.records[p] = some d → d.number = 7 → p = 3) ∧
      State.reset.charge? 7 = none := by
  exact ⟨atOnce rfl, atOnce rfl, by decide, fun p d h _ => (only_record h).1, by decide⟩

theorem witness_NumberedQueriesOnlyReply : State.reset.takesAtOnce ∧ 6 ≤ 255 ∧ 8 ≤ 255 ∧ 10 ≤ 255 ∧ 255 < 256 :=
  ⟨atOnce rfl, by decide⟩

theorem witness_KilnConfigApplies :
    State.reset.takesAtOnce ∧ readKilnConfig [1, 0x22, 30, 0, 30, 50, 0, 30, 0] = some (1, ⟨0x22, 30, 30, 50, 30⟩) ∧
      State.reset.kilns[(2 : Fin 6)].config.address = 0x22 ∧
      readKilnConfig [1, 0x21, 30, 0, 30, 50, 0, 30, 0] = some (1, ⟨0x21, 30, 30, 50, 30⟩) ∧
      (∀ j : Fin 6, j ≠ 1 → State.reset.kilns[j].config.address ≠ 0x21) ∧ State.reset.kilns[(1 : Fin 6)].config.address = 0x21 ∧
      readKilnConfig [1, 0x30, 30, 0, 30, 50, 0, 30, 0] = some (1, ⟨0x30, 30, 30, 50, 30⟩) ∧
      (∀ j : Fin 6, j ≠ 1 → State.reset.kilns[j].config.address ≠ 0x30) ∧ State.reset.kilns[(1 : Fin 6)].state = .idle ∧
      (drying loadedKiln).takesAtOnce ∧ (drying loadedKiln).kilns[(1 : Fin 6)].state ≠ .idle ∧
      (∀ j : Fin 6, j ≠ 1 → (drying loadedKiln).kilns[j].config.address ≠ 0x30) :=
  ⟨atOnce rfl, by decide, by decide, by decide, by decide, by decide, by decide, by decide, by decide, atOnce rfl, by decide⟩

theorem witness_KilnLoadTakesTheCharge :
    (withCharge (charge 7 .created)).takesAtOnce ∧ readLoad [1, 7, 0] = some (1, 7) ∧
      (withCharge (charge 7 .created)).charge? 7 = some (charge 7 .created) ∧
      (withCharge (charge 7 .created)).kilns[(1 : Fin 6)].state = .idle ∧ State.reset.charge? 7 = none ∧
      (withCharge (charge 7 .released)).charge? 7 = some (charge 7 .released) ∧ (charge 7 .released).state ≠ .created :=
  ⟨atOnce rfl, by decide⟩

theorem witness_SampleDefineRecords :
    (drying (kilnIn .run none 0)).takesAtOnce ∧ (drying (kilnIn .run none 0)).bus.settled ∧
      readNewSample ([1, 1] ++ le 2 12400 ++ le 2 620) = some ⟨1, 1, 12400, 620⟩ ∧
      (drying (kilnIn .run none 0)).kilns[(1 : Fin 6)].state ≠ .idle ∧
      (drying (kilnIn .run none 0)).kilns[(1 : Fin 6)].state ≠ .done ∧
      (drying (kilnIn .run none 0)).kilns[(1 : Fin 6)].samples[(1 : Fin 8)] = none ∧
      readNewSample ([1, 0] ++ le 2 12400 ++ le 2 620) = some ⟨1, 0, 12400, 620⟩ ∧
      (drying loadedKiln).takesAtOnce ∧ (drying loadedKiln).kilns[(1 : Fin 6)].samples[(0 : Fin 8)] ≠ none ∧
      loadedKiln.notLost ∧ State.reset.kilns[(1 : Fin 6)].state = .idle :=
  ⟨atOnce rfl, settled rfl, by decide, by decide, by decide, by decide, by decide, atOnce rfl, by decide, .inr (.inl rfl),
    by decide⟩

/-- Kiln 1 in HOLD with a sample of each standing at positions 0, 1 and 2. -/
def standings : State :=
  drying { kilnIn .hold (some .run) 2 with
    samples := (((Vector.replicate 8 none).set 0 (some (sample (some 300)))).set 1
      (some { sample (some 200) with standing := .excluded })).set 2 (some { sample (some 200) with standing := .failed }) }

theorem witness_SampleExcludeAndInclude :
    standings.takesAtOnce ∧ standings.bus.settled ∧ readPosition [1, 0] = some (1, 0) ∧ readPosition [1, 1] = some (1, 1) ∧
      readPosition [1, 2] = some (1, 2) ∧ readPosition [1, 7] = some (1, 7) ∧ standings.kilns[(1 : Fin 6)].state ≠ .idle ∧
      standings.kilns[(1 : Fin 6)].samples[(7 : Fin 8)] = none ∧
      standings.kilns[(1 : Fin 6)].samples[(0 : Fin 8)] = some (sample (some 300)) ∧
      standings.kilns[(1 : Fin 6)].samples[(1 : Fin 8)] = some { sample (some 200) with standing := .excluded } ∧
      standings.kilns[(1 : Fin 6)].samples[(2 : Fin 8)] = some { sample (some 200) with standing := .failed } ∧
      (∀ samples, ({ standings.kilns[(1 : Fin 6)] with samples := samples } : Kiln).notLost) ∧
      State.reset.takesAtOnce ∧ State.reset.kilns[(1 : Fin 6)].state = .idle :=
  ⟨atOnce rfl, settled rfl, by decide, by decide, by decide, by decide, by decide, by decide, by decide, by decide, by decide,
    fun _ => .inr (.inl rfl), atOnce rfl, by decide⟩

theorem witness_KilnStartBeginsDrying :
    let s := drying loadedKiln
    let slot (x : Slot) : State := { s with store := { s.store with slots := s.store.slots.set 4 x } }
    let ch : ChargeRecord := { charge 7 .inKiln with kiln := some 1 }
    State.reset.takesAtOnce ∧ State.reset.kilns[(1 : Fin 6)].state ≠ .loaded ∧
      s.takesAtOnce ∧ s.bus.settled ∧ s.kilns[(1 : Fin 6)].state = .loaded ∧ s.port.latchHolds = false ∧
      2 ≤ s.kilns[(1 : Fin 6)].definedCount ∧ s.kilns[(1 : Fin 6)].charge = some 7 ∧ s.charge? 7 = some ch ∧
      s.store.slots[ch.slot] = .valid oak ∧ oak.species = ch.species.val ∧
      (drying (kilnIn .run none 0)).kilns[(1 : Fin 6)].state ≠ .loaded ∧
      (drying { loadedKiln with samples := Vector.replicate 8 none }).kilns[(1 : Fin 6)].definedCount < 2 ∧
      (slot .writing).store.slots[ch.slot] = .writing ∧ (slot .empty).store.slots[ch.slot] = .empty ∧
      (slot (.valid { oak with species := 3 })).store.slots[ch.slot] = .valid { oak with species := 3 } ∧
      ({ oak with species := 3 } : Schedule).species ≠ ch.species.val :=
  ⟨atOnce rfl, by decide, atOnce rfl, settled rfl, by decide⟩

theorem witness_KilnAdvanceMovesTheStep :
    (drying (kilnIn .run none 0)).takesAtOnce ∧ (drying (kilnIn .run none 0)).kilns[(1 : Fin 6)].state = .run ∧
      (drying (kilnIn .run none 0)).kilns[(1 : Fin 6)].drying = some run0 ∧
      run0.schedule.steps[run0.stepIndex + 1]? = some ⟨700, 60, .time 5, none⟩ ∧
      ({ run0 with stepIndex := 1 } : DryingRun).schedule.steps[2]? = none ∧
      (drying (kilnIn .hold (some .run) 1)).kilns[(1 : Fin 6)].state ≠ .run :=
  ⟨atOnce rfl, by decide⟩

theorem witness_KilnHoldAndPark :
    (drying (kilnIn .run none 0)).takesAtOnce ∧ (drying (kilnIn .run none 0)).bus.settled ∧
      (drying (kilnIn .run none 0)).kilns[(1 : Fin 6)].state = Phase.run.state ∧
      (drying (kilnIn .hold (some .run) 1)).kilns[(1 : Fin 6)].state = .hold ∧
      1 ≤ (drying (kilnIn .hold (some .run) 1)).kilns[(1 : Fin 6)].level ∧
      (drying (kilnIn .park (some .run) 3)).kilns[(1 : Fin 6)].state = .park ∧
      1 ≤ (drying (kilnIn .park (some .run) 3)).kilns[(1 : Fin 6)].level ∧
      (drying loadedKiln).kilns[(1 : Fin 6)].state = .loaded :=
  ⟨atOnce rfl, settled rfl, by decide⟩

theorem witness_KilnResumeReturnsToThePhase :
    let s := drying (kilnIn .hold (some .run) 2)
    s.takesAtOnce ∧ s.bus.settled ∧ readResume [1, 2] = some (1, 2) ∧ readResume [1, 1] = some (1, 1) ∧
      s.kilns[(1 : Fin 6)].state.held = true ∧ s.port.latchHolds = false ∧ 1 < s.kilns[(1 : Fin 6)].level ∧
      s.kilns[(1 : Fin 6)].level ≤ 2 ∧ s.kilns[(1 : Fin 6)].resume = some .run ∧
      (drying loadedKiln).kilns[(1 : Fin 6)].state.held = false :=
  ⟨atOnce rfl, settled rfl, by decide⟩

theorem witness_KilnUnloadReleasesTheCharge :
    State.reset.takesAtOnce ∧ State.reset.kilns[(1 : Fin 6)].state = .idle ∧
      (drying loadedKiln).takesAtOnce ∧ (drying loadedKiln).bus.settled ∧
      (drying loadedKiln).kilns[(1 : Fin 6)].charge = some 7 ∧
      (drying loadedKiln).charge? 7 = some { charge 7 .inKiln with kiln := some 1 } ∧
      (drying loadedKiln).kilns[(1 : Fin 6)].state = .loaded ∧
      (drying (kilnIn .done none 0)).kilns[(1 : Fin 6)].state = .done ∧
      (drying (kilnIn .hold (some .run) 2)).kilns[(1 : Fin 6)].state.held = true ∧
      (drying (kilnIn .run none 0)).kilns[(1 : Fin 6)].state.running = true ∧
      (drying (kilnIn .run none 0)).charge? 7 = some { charge 7 .drying with kiln := some 1 } :=
  ⟨atOnce rfl, by decide, atOnce rfl, settled rfl, by decide⟩

theorem witness_MinuteOfARunningKiln :
    let last : DryingRun := { run0 with schedule := { oak with firstStep := { oak.firstStep with leave := .time 1 } } }
    let final : DryingRun := { run0 with stepIndex := 1, stepElapsed := 4 }
    let late : DryingRun := { run0 with stepElapsed := 99 }
    let hot : Kiln := { kilnIn .equalise none 0 with deviation := 29, measured := some ⟨700, 500, 0, 0, false⟩ }
    let ends (n : Nat) : Kiln := { kilnIn .condition none 0 with conditionRemaining := some n }
    (∀ n, (ends n).conditionRemaining = some n) ∧
      (drying (kilnIn .run none 0)).kilns[(1 : Fin 6)] = kilnIn .run none 0 ∧ (kilnIn .run none 0).state = .run ∧
      (kilnIn .run none 0).drying = some run0 ∧ run0.schedule.steps[run0.stepIndex]? = some ⟨600, 50, .mc 300, some 100⟩ ∧
      run0.totalElapsed < 4294967295 ∧ (kilnIn .run none 0).deviation + 1 < (kilnIn .run none 0).config.deviationLimit ∧
      min 65535 (run0.stepElapsed + 1) < 100 ∧
      last.schedule.steps[last.stepIndex]? = some ⟨600, 50, .time 1, some 100⟩ ∧ 1 ≤ min 65535 (last.stepElapsed + 1) ∧
      last.schedule.steps[last.stepIndex + 1]? = some ⟨700, 60, .time 5, none⟩ ∧
      final.schedule.steps[final.stepIndex]? = some ⟨700, 60, .time 5, none⟩ ∧ 5 ≤ min 65535 (final.stepElapsed + 1) ∧
      final.schedule.steps[final.stepIndex + 1]? = none ∧
      late.overtimeReported = false ∧ 100 ≤ min 65535 (late.stepElapsed + 1) ∧ (kilnIn .run none 0).measured = none ∧
      (drying hot).kilns[(1 : Fin 6)] = hot ∧ hot.config.deviationBand < (700 - run0.setpoint).natAbs ∧
      hot.config.deviationLimit ≤ hot.deviation + 1 ∧ hot.state = .equalise ∧ hot.drying = some run0 ∧
      (ends 2).state = .condition ∧ (ends 1).charge = some 7 ∧
      (drying (ends 1)).charge? 7 = some { charge 7 .drying with kiln := some 1 } := by
  exact ⟨fun _ => rfl, by decide⟩

/-- Kiln 1 held, its scan timer at 4, with the divider given. -/
def ticking (divider : Nat) : State :=
  let s := drying (kilnIn .hold (some .run) 2)
  { s with
    bus := s.bus.setLink 1 { s.bus.links[1] with scanTimer := some 4 }
    port := { s.port with divider := divider, supervision := some ⟨1, 10, .holdAll, false, 2⟩ } }

theorem scanTimer_of_ticking (k : Fin 6) (n : Nat) (h : (ticking 59).bus.links[k].scanTimer = some n) :
    n + 1 < (ticking 59).kilns[k].config.sampleInterval := by
  have : ∀ k : Fin 6, ((ticking 59).bus.links[k].scanTimer.getD 0) + 1 < (ticking 59).kilns[k].config.sampleInterval := by
    decide
  have := this k
  rw [h] at this
  exact this

theorem witness_TicksCount :
    (ticking 59).port.dropOwed = none ∧ (ticking 59).bus.settled ∧ (ticking 59).port.divider = 59 ∧
      (ticking 7).port.divider < 59 ∧ (∀ k : Fin 6, (ticking 59).bus.links[k].climateTimer + 1 < (ticking 59).kilns[k].config.pollPeriod) ∧
      (∀ v, (ticking 59).port.supervision = some v → 2 ≤ v.remaining) ∧
      (∀ k : Fin 6, (ticking 59).kilns[k].state.running = false) ∧
      ∀ (k : Fin 6) (n : Nat), (ticking 59).bus.links[k].scanTimer = some n → n + 1 < (ticking 59).kilns[k].config.sampleInterval :=
  ⟨by decide, settled rfl, by decide, by decide, by decide, by rintro v ⟨⟩; decide, by decide, scanTimer_of_ticking⟩

/-- The hypotheses of a tick with running kilns and timers that end, and of a second in which the supervision countdown ends. -/
theorem witness_TicksCount_as_timers_end :
    let s : State := { drying (kilnIn .run none 0) with port := { State.reset.port with divider := 59 } }
    let ending : State := { ticking 58 with
      port := { (ticking 58).port with supervision := some ⟨1, 10, .holdAll, false, 1⟩ } }
    s.port.dropOwed = none ∧ s.port.divider ≤ 59 ∧ s.kilns[(1 : Fin 6)].state.running = true ∧ s.port.supervision = none ∧
      ending.port.dropOwed = none ∧ ending.bus.settled ∧ ending.port.divider < 59 ∧
      (∀ k : Fin 6, ending.bus.links[k].climateTimer + 1 < ending.kilns[k].config.pollPeriod) ∧
      ending.port.supervision = some ⟨1, 10, .holdAll, false, 1⟩ ∧ ending.port.latch = false ∧ ending.frozen = false ∧
      nextIs (exec .secondTick ending) (fun t => t.port.latch && decide (t.port.divider = 59)) = true :=
  ⟨by decide, by decide, by decide, by decide, by decide, settled rfl, by decide, by decide, by decide, by decide, by decide,
    by decide +kernel⟩

theorem witness_TimersMakePollsFallDue :
    (ticking 7).port.dropOwed = none ∧ (ticking 7).bus.settled ∧ (ticking 7).bus.links[(0 : Fin 6)].scanTimer = none ∧
      (ticking 7).bus.links[(1 : Fin 6)].scanTimer = some 4 ∧ (ticking 7).bus.current = none ∧
      (ticking 7).kilns[(1 : Fin 6)].state.scanning = true ∧ positionsOf (ticking 7).kilns[(1 : Fin 6)].samples = [0, 3] ∧
      (serving (.climate ⟨.hold, 600, 50⟩) 1 (ticking 7)).bus.current ≠ none ∧
      (serving (.climate ⟨.hold, 600, 50⟩) 1 (ticking 7)).bus.links[(1 : Fin 6)].scanTimer = some 4 :=
  ⟨by decide, settled rfl, by decide⟩

theorem witness_ClimateExchangeSettlesThePoll :
    let s := serving (.climate ⟨.run, 600, 50⟩) 1 (drying (kilnIn .run none 0))
    let raised (s : State) := raise .overtemp (.kiln 1) s.kilns[(1 : Fin 6)].context s
    s.port.dropOwed = none ∧ s.bus.current = some ⟨⟨1, .climate, 0⟩, 1, 0x21, .climate ⟨.run, 600, 50⟩⟩ ∧
      s.bus.pendingPolls = [] ∧ s.kilns[(1 : Fin 6)].config.address = 0x21 ∧ s.bus.links[(1 : Fin 6)].mark = 0 ∧
      s.kilns[(1 : Fin 6)].overheated (590#16).toInt = false ∧
      s.kilns[(1 : Fin 6)].state ≠ .idle ∧ 1250 < (1260#16).toInt ∧ s.kilns[(1 : Fin 6)].state ≠ .loaded ∧
      s.kilns[(1 : Fin 6)].drying = some run0 ∧ run0.setpoint + 150 < (760#16).toInt ∧
      (raised s).kilns[(1 : Fin 6)].state ≠ s.kilns[(1 : Fin 6)].state ∧
      (raised (drying loadedKiln)).kilns[(1 : Fin 6)].state = .loaded ∧
      ({ s with bus := s.bus.setLink 1 { s.bus.links[(1 : Fin 6)] with mark := 1 } } : State).bus.links[(1 : Fin 6)].mark ≠ 0 ∧
      ({ s with kilns := coldKilns.set 1 { coldKiln 1 with config := { defaultKilnConfig 1 with address := 0x30 } } } :
        State).kilns[(1 : Fin 6)].config.address ≠ 0x21 := by decide

/-- Kiln 1 as given, the scan of its two samples at the last of them. -/
def lastReading (c : Kiln) : State := serving (.scan [0, 3] 1) 1 (drying c)

/-- What the reading 800 of the last sample leaves of a kiln whose first sample stands at an MC. -/
def afterReading (state : KilnState) (d : DryingRun) (mc : Nat) : Kiln :=
  { kilnIn state none 0 with
    drying := some d
    samples := (twoSamples (some mc)).set 3 (some { sample (some 199) with weight := some 800 }) }

theorem witness_WeighReadingReachesItsSample :
    let s := serving (.scan [0, 3] 0) 1 (drying (kilnIn .hold (some .run) 2))
    let last := lastReading (kilnIn .hold (some .run) 2)
    let loose : DryingRun := { run0 with schedule := { oak with equaliseTolerance := 50, finalTarget := 250 } }
    let brief : DryingRun := { run0 with schedule := { loose.schedule with conditionDuration := 0 } }
    let final : DryingRun :=
      { run0 with stepIndex := 1, schedule := { oak with laterSteps := [⟨700, 60, .mc 250, none⟩] } }
    let one : Kiln := { kilnIn .run none 0 with samples := (Vector.replicate 8 none).set 3 (some (sample (some 199))) }
    s.port.dropOwed = none ∧ s.bus.current = some ⟨⟨1, .scan, 0⟩, 1, 0x21, .scan [0, 3] 0⟩ ∧
      ([0, 3] : List (Fin 8))[0]? = some 0 ∧ s.bus.pendingPolls = [] ∧ s.scanStands ⟨1, .scan, 0⟩ = true ∧
      s.kilns[(1 : Fin 6)].samples[(0 : Fin 8)] = some (sample (some 300)) ∧
      (sample (some 300)).standing = .defined ∧ 1 ≤ (800#16).toNat ∧ (800#16).toNat ≤ 60000 ∧
      (sample (some 300)).odWeight * 95 ≤ (640#16).toNat * 100 ∧ (640#16).toNat ≤ (sample (some 300)).odWeight ∧
      (800#16).toNat * 100 ≤ (sample (some 300)).greenWeight * 102 ∧
      ((800 - 667) * 1000 + 667 / 2) / 667 = 199 ∧ 0 + 1 < ([0, 3] : List (Fin 8)).length ∧
      last.bus.current = some ⟨⟨1, .scan, 0⟩, 1, 0x21, .scan [0, 3] 1⟩ ∧ 1 + 1 = ([0, 3] : List (Fin 8)).length ∧
      last.kilns[(1 : Fin 6)].config.address = 0x21 ∧ last.kilns[(1 : Fin 6)].state.held = true ∧
      (afterReading .run run0 400).formed.figures.controlling = some 400 ∧ 300 < 400 ∧
      (afterReading .run run0 300).formed.figures.controlling = some 300 ∧ 300 ≤ 300 ∧
      run0.schedule.steps[run0.stepIndex + 1]? = some ⟨700, 60, .time 5, none⟩ ∧
      final.schedule.steps[final.stepIndex]? = some ⟨700, 60, .mc 250, none⟩ ∧
      final.schedule.steps[final.stepIndex + 1]? = none ∧
      (afterReading .equalise run0 300).formed.figures.wettest = some 300 ∧ 120 + 10 < 300 ∧
      (afterReading .equalise loose 300).formed.figures.controlling ≠ none ∧ 300 ≤ 250 + 50 ∧
      loose.schedule.conditionDuration ≠ 0 ∧ brief.schedule.conditionDuration = 0 ∧
      (lastReading (afterReading .equalise brief 300)).charge? 7 = some { charge 7 .drying with kiln := some 1 } ∧
      one.formed.figures.controlling = none ∧ one.samplesLost = false ∧
      (sample (some 300)).greenWeight * 102 < 2000 * 100 ∧ 60000 < (65535#16).toNat ∧
      (sample (some 300)).implausible + 1 < 3 ∧ 3 ≤ ({ sample (some 300) with implausible := 2 } : Sample).implausible + 1 ∧
      ({ s with bus := s.bus.setLink 1 { s.bus.links[(1 : Fin 6)] with mark := 1 } } : State).scanStands ⟨1, .scan, 0⟩ = false :=
  by decide

theorem witness_FailedAttemptsFailThePoll :
    let s (n f : Nat) : State :=
      let s := serving (.scan [0, 3] 0) n (masked .moduleLost (drying (kilnIn .run none 0)))
      { s with bus := s.bus.setLink 1 { s.bus.links[1] with failures := f } }
    (s 2 0).port.dropOwed = none ∧ (s 2 0).bus.current = some ⟨⟨1, .scan, 0⟩, 2, 0x21, .scan [0, 3] 0⟩ ∧ 2 < 3 ∧
      (s 3 1).bus.current = some ⟨⟨1, .scan, 0⟩, 3, 0x21, .scan [0, 3] 0⟩ ∧ (s 3 1).bus.pendingPolls = [] ∧
      (s 3 1).kilns[(1 : Fin 6)].config.address = 0x21 ∧ (s 3 1).bus.links[(1 : Fin 6)].failures + 1 < 3 ∧
      (s 3 2).bus.links[(1 : Fin 6)].failures = 2 ∧ (s 3 2).faults.kinds[FaultKind.moduleLost.index].masked = true := by decide

/-- The third failed poll with MODULE_LOST as it stands at reset: a running kiln is parked, a kiln at rest is not. -/
theorem witness_FailedAttemptsFailThePoll_and_the_module :
    let s (c : Kiln) : State :=
      let s := serving (.climate ⟨.run, 600, 50⟩) 3 (drying c)
      { s with bus := s.bus.setLink 1 { s.bus.links[1] with failures := 2 } }
    let t (c : Kiln) : State := raise .busNack .links (.links (some 0x21) none) (s c)
    let w (c : Kiln) : State := raise .moduleLost (.kiln 1) c.context (t c)
    (s (kilnIn .run none 0)).port.dropOwed = none ∧
      (s (kilnIn .run none 0)).bus.current = some ⟨⟨1, .climate, 0⟩, 3, 0x21, .climate ⟨.run, 600, 50⟩⟩ ∧
      (s (kilnIn .run none 0)).bus.pendingPolls = [] ∧ (s (kilnIn .run none 0)).kilns[(1 : Fin 6)].config.address = 0x21 ∧
      (s (kilnIn .run none 0)).bus.links[(1 : Fin 6)].failures = 2 ∧ (kilnIn .run none 0).measured = none ∧
      (w (kilnIn .run none 0)).kilns[(1 : Fin 6)].state ≠ (s (kilnIn .run none 0)).kilns[(1 : Fin 6)].state ∧
      (w loadedKiln).kilns[(1 : Fin 6)].state = (s loadedKiln).kilns[(1 : Fin 6)].state := by decide +kernel

/-- A poll of kiln 1 begun with a former address, at its second and at its third attempt (R95): the fault names that address, the
failed attempts of the kiln rise (log entry 20), and the link is left as it stands. -/
theorem witness_FailedAttemptsFailThePoll_of_a_former_address :
    let s (n : Nat) : State := serving (.climate ⟨.off, 0, 0⟩) n { State.reset with
      kilns := coldKilns.set 1 { coldKiln 1 with config := { defaultKilnConfig 1 with address := 0x30 } } }
    (s 2).port.dropOwed = none ∧ (s 2).bus.current = some ⟨⟨1, .climate, 0⟩, 2, 0x21, .climate ⟨.off, 0, 0⟩⟩ ∧ 2 < 3 ∧
      (s 3).bus.current = some ⟨⟨1, .climate, 0⟩, 3, 0x21, .climate ⟨.off, 0, 0⟩⟩ ∧ (s 3).bus.pendingPolls = [] ∧
      (s 3).kilns[(1 : Fin 6)].config.address ≠ 0x21 ∧
      nextIs (exec (.transferAttemptFailed .nack) (s 3)) (fun t =>
        decide (t.bus = ({ (s 3).bus with current := none } : Bus).setLink 1
          { (s 3).bus.links[1] with failedAttempts := 1 })) = true := by decide +kernel

theorem witness_TerminalAssignTakesTheFunction :
    let bare : State := { lineIn .stopped with terminals := coldTerminals 0 }
    let reads (fn edge : Nat) (f : TermFn) (p : Polarity) : Prop :=
      readAssignment [7, byteOf fn, byteOf edge, 0] = some ⟨7, f, p, .none⟩
    bare.takesAtOnce ∧ (lineIn .running).takesAtOnce ∧
      (∀ (u : Fin 16) (f : TermFn), f.isLine = true → bare.terminals[u].fn ≠ f) ∧
      reads 1 0 .generalOut .activeHigh ∧ reads 8 1 .redryGate .activeLow ∧ reads 9 1 .rejectGate .activeLow ∧
      reads 10 1 .lineStop .activeLow ∧ reads 4 1 .encoder .activeLow ∧ reads 5 1 .meterFault .activeLow ∧
      reads 3 1 .outfeedEye .activeLow ∧ reads 2 1 .infeedEye .activeLow ∧
      readAssignment [12, 6, 0, 0] = some ⟨12, .meterIn, .activeHigh, .none⟩ ∧
      readAssignment [11, 6, 0, 0] = some ⟨11, .meterIn, .activeHigh, .none⟩ ∧
      readAssignment [14, 6, 0, 0] = some ⟨14, .meterIn, .activeHigh, .none⟩ ∧
      readAssignment [12, 0, 0, 0] = some ⟨12, .generalIn, .activeHigh, .none⟩ ∧ bare.line.state.atRest = true ∧
      (∀ u : Fin 16, bare.terminals[u].fn ≠ .infeedEye ∧ bare.terminals[u].fn ≠ .outfeedEye ∧
        bare.terminals[u].fn.digitalInput = true) ∧
      bare.line.infeedCondition ≠ .tracked ∧ (lineIn .running).terminals[(12 : Fin 16)].fn = .meterIn ∧
      (lineIn .running).terminals[(12 : Fin 16)].fn.isLine = true ∧ (lineIn .running).line.state.atRest = false :=
  ⟨atOnce rfl, atOnce rfl, by intro u f; cases f <;> revert u <;> decide, by decide⟩

/-- Chapter 6, polarity: a demand of 1 drives an ACTIVE_LOW gate's pin low, and the pin is released by the next function. -/
theorem test_an_active_low_output_is_driven_low :
    let s : State := { lineIn .stopped with
      terminals := lineTerminals.set 4 (onTerminal .generalIn), line := { (lineIn .stopped).line with redryDemand := true } }
    nextIs (exec (.terminalAssign 9 [4, 8, 1, 0]) s) (fun t =>
      decide (t.terminals[4].drive = some false) && decide (t.terminals[4].input = true) &&
      nextIs (exec (.terminalAssign 9 [4, 0, 0, 0]) t) fun u => decide (u.terminals[4].drive = none)) = true := by
  decide +kernel

theorem witness_TerminalSetStoresTheLevel :
    (lineIn .stopped).takesAtOnce ∧ readLevel [9, 1] = some (9, true) ∧ (lineIn .stopped).terminals[(9 : Fin 16)].fn = .generalOut ∧
      readLevel [7, 1] = some (7, true) ∧ (lineIn .stopped).terminals[(7 : Fin 16)].fn = .generalIn ∧
      readLevel [6, 1] = some (6, true) ∧ (lineIn .stopped).terminals[(6 : Fin 16)].fn.isLine = true :=
  ⟨atOnce rfl, by decide⟩

theorem witness_InputsFollowTheirPins :
    let r : Terminal := { onTerminal .generalIn with edges := .rising, pinHigh := true, waiting := some true }
    let s : State := { lineIn .running with terminals := lineTerminals.set 7 r }
    s.port.dropOwed = none ∧ s.terminals[(7 : Fin 16)] = r ∧ r.fn = .generalIn ∧ r.pinHigh ≠ false ∧
      r.waiting = some true ∧ r.polarity.through true ≠ r.input ∧ (r.edges = .rising ∧ r.polarity.through true = true) ∧
      ({ r with edges := .falling } : Terminal).edges = .falling ∧ (onTerminal .generalIn).waiting = none := by decide

theorem witness_EyeChangeWaitsInItsFilter :
    let s : State := { lineIn .running with line := { (lineIn .running).line with config := defaultLineConfig } }
    s.port.dropOwed = none ∧ s.holder .infeedEye = some 0 ∧ s.holder .outfeedEye = some 1 ∧ State.reset.holder .infeedEye = none ∧
      s.terminals[(0 : Fin 16)].polarity.through false = s.terminals[(0 : Fin 16)].input ∧
      s.terminals[(0 : Fin 16)].polarity.through true ≠ s.terminals[(0 : Fin 16)].input ∧
      true ≠ (s.line.filter .infeed).taken ∧ s.line.config.eyeFilter ≠ 0 ∧
      true = ((s.line.setFilter .infeed ⟨true, none⟩).filter .infeed).taken := by decide

/-- The infeed eye dark over the tail board. -/
def darkened (condition : InfeedCondition) : State :=
  let s := tracking [board5] 305000 .running
  { s with
    terminals := lineTerminals.set 0 { onTerminal .infeedEye with input := true, pinHigh := true }
    line := { s.line with infeed := ⟨true, none⟩, infeedCondition := condition } }

theorem witness_InfeedEdgesEnterAndMeasureBoards :
    let s := tracking [] 0 .running
    let full := tracking (List.replicate 16 board5) 0 .running
    s.port.dropOwed = none ∧ s.holder .infeedEye = some 0 ∧ true ≠ s.terminals[(0 : Fin 16)].input ∧
      s.line.config.eyeFilter = 0 ∧ s.line.infeed = ⟨!true, none⟩ ∧ s.line.queue.length < 16 ∧
      s.feedCharge = some (charge 7 .planing) ∧ (unfed s).feedCharge = none ∧ 16 ≤ full.line.queue.length ∧
      full.line.infeed = ⟨!true, none⟩ ∧ full.feedCharge = some (charge 7 .planing) ∧
      (darkened .tracked).line.infeed = ⟨!false, none⟩ ∧ (darkened .tracked).holder .infeedEye = some 0 ∧
      false ≠ (darkened .tracked).terminals[(0 : Fin 16)].input ∧ (darkened .tracked).line.infeedCondition = .tracked ∧
      (darkened .tracked).line.queue = [] ++ [board5] ∧ (darkened .untracked).line.infeedCondition ≠ .tracked := by decide

/-- The infeed eye seen by its pin, with a filter distance of 0. -/
theorem witness_takes_by_pin (level : Bool) (condition : InfeedCondition) :
    let s := if level then tracking [] 0 .running else darkened condition
    s.takes .infeed level s.line.position (.eyeChange .infeed level)
      { s with
        terminals := s.terminals.set 0 { s.terminals[0] with pinHigh := level, input := level }
        line := s.line.setFilter .infeed ⟨level, none⟩ } := by
  cases level <;> cases condition <;>
    exact Or.inl ⟨_, 0, none, rfl, by decide, by decide, by decide, by decide, by decide, rfl, rfl⟩

/-- A change of an eye that waits since position 0, 1 mm short of a filter distance of 20 mm, with boards in the queue. -/
def awaiting (e : Eye) (level : Bool) (queue : List Board) (state : LineState) : State :=
  let s := tracking queue 1900 state
  { s with line := { s.line with config := defaultLineConfig }.setFilter e ⟨!level, some 0⟩ }

/-- The encoder advance that ends the filter distance takes the change, at each eye and to each level. -/
theorem witness_takes_by_encoder (e : Eye) (level : Bool) :
    let s := awaiting e level [board5] .running
    s.takes e level 0 .encoderPulse
      { s.pulsed 2 with line := (s.pulsed 2).line.setFilter e ⟨level, none⟩ } := by
  refine Or.inr ⟨2, _, rfl, ?_, rfl, ?_, ?_, ?_, ?_, rfl⟩
  · cases e <;> cases level <;> decide
  · cases e <;> cases level <;> decide
  · cases e <;> cases level <;> decide
  · cases e <;> cases level <;> decide
  · intro b hb
    have hb : b = board5 := by cases e <;> simpa [awaiting, tracking, Line.setFilter] using hb
    subst hb
    refine ⟨?_, Or.inr (fun x h => by cases h), Or.inr ?_, Or.inr (fun x h => by cases h), Or.inr ?_,
      Or.inr (fun x h => by cases h)⟩ <;> cases e <;> cases level <;> decide

/-- A board decided REDRY and past the meter. -/
def redryBoard : Board := { board5 with decision := .redry, pastMeter := true }

/-- The same on the redry gate, its trailing edge taken at 0. -/
def leavingBoard : Board :=
  { redryBoard with
    marks := ⟨true, false, false, false⟩, spansRedry := true, trailing := some 0, length := some 1000
    entry := 2 ^ 48 - 100000 }

theorem witness_EncoderPulseMovesTheBoards :
    let s := tracking [redryBoard] 849900 .running
    let leaves (state : LineState) (c : ChargeRecord) : State :=
      { tracking [leavingBoard] 849900 state with
        charges := (withCharge c).charges
        line := { (tracking [leavingBoard] 849900 state).line with redryDemand := true } }
    let t := leaves .draining { charge 7 .closed with inFlight := 1 }
    let m := tracking [board5] 249900 .running
    let faulty : State := { m with terminals := m.terminals.set 3 { m.terminals[3] with input := true, pinHigh := true } }
    s.port.dropOwed = none ∧ s.holder .encoder = some 2 ∧ State.reset.holder .encoder = none ∧
      (tracking [] 0 .running).line.queue = [] ∧ s.line.queue = [redryBoard] ∧ s.line.infeed.waiting = none ∧
      s.line.outfeed.waiting = none ∧ redryBoard.decision = .redry ∧ redryBoard.pastMeter = true ∧
      distanceMm redryBoard.entry 850000 < s.line.config.rejectGate ∧ s.line.config.redryGate < s.line.config.rejectGate ∧
      s.line.rejectDemand = false ∧ redryBoard.spansReject = false ∧ redryBoard.marks = ⟨false, false, false, false⟩ ∧
      s.line.redryDemand = false ∧ s.line.config.redryGate ≤ distanceMm redryBoard.entry 850000 ∧ redryBoard.trailing = none ∧
      t.line.queue = [leavingBoard] ∧ leavingBoard.decision = .redry ∧ leavingBoard.pastMeter = true ∧
      distanceMm leavingBoard.entry 850000 < t.line.config.rejectGate ∧ leavingBoard.spansReject = false ∧
      leavingBoard.marks = ⟨true, false, false, false⟩ ∧ leavingBoard.spansRedry = true ∧ t.line.redryDemand = true ∧
      leavingBoard.trailing = some 0 ∧ t.line.config.redryGate ≤ distanceMm 0 850000 ∧ leavingBoard.charge = some 7 ∧
      t.charge? 7 = some { charge 7 .closed with inFlight := 1 } ∧ t.packs.held = [] ∧ t.line.state = .draining ∧
      (leaves .running (charge 7 .planing)).charge? 7 = some (charge 7 .planing) ∧ (charge 7 .planing).state ≠ .closed ∧
      m.line.queue = [board5] ∧ board5.decision = .pending ∧ board5.marks = ⟨false, false, false, false⟩ ∧
      board5.trailing = none ∧ distanceMm board5.entry 250000 < m.line.config.redryGate ∧
      m.line.config.meterPosition + board5.nextSample * m.line.config.spacing ≤ distanceMm board5.entry 250000 ∧
      distanceMm board5.entry 250000 < m.line.config.meterPosition + (board5.nextSample + 1) * m.line.config.spacing ∧
      m.holder .meterFault = some 3 ∧ m.terminals[(3 : Fin 16)].input = false ∧ m.holder .meterIn = some 12 ∧
      m.terminals[(12 : Fin 16)].conversion = some 1800 ∧ board5.pairs.length < 32 ∧ board5.meterFault = false ∧
      faulty.holder .meterFault = some 3 ∧ faulty.terminals[(3 : Fin 16)].input = true := by decide

/-- A board that stands REJECT, past the meter head and decided. -/
def rejectedBoard : Board :=
  { redryBoard with decision := .reject .overdry, marks := ⟨true, false, false, false⟩, trailing := some 300000, length := some 3000 }

theorem witness_EncoderPulseMovesTheBoards_at_the_reject_gate :
    let s := tracking [rejectedBoard] 999900 .running
    let u := s.pulsed 2
    let gone : Board := { rejectedBoard with marks := ⟨true, true, true, false⟩, spansReject := true, trailing := some 0 }
    let t := tracking [gone] 999900 .draining
    let t : State := { t with line := { t.line with rejectDemand := true } }
    s.port.dropOwed = none ∧ s.holder .encoder = some 2 ∧ s.line.queue = [rejectedBoard] ∧
      s.line.infeed.waiting = none ∧ s.line.outfeed.waiting = none ∧ s.line.config.redryGate < s.line.config.rejectGate ∧
      rejectedBoard.decision = .reject .overdry ∧ rejectedBoard.pastMeter = true ∧ s.line.redryDemand = false ∧
      rejectedBoard.spansRedry = false ∧ rejectedBoard.marks = ⟨true, false, false, false⟩ ∧ s.line.rejectDemand = false ∧
      s.line.config.rejectGate ≤ u.leading rejectedBoard ∧ rejectedBoard.trailing = some 300000 ∧
      distanceMm 300000 u.line.position < s.line.config.redryGate ∧ t.line.queue = [gone] ∧ gone.spansReject = true ∧
      gone.marks = ⟨true, true, true, false⟩ ∧ t.line.rejectDemand = true ∧ t.line.redryDemand = false ∧
      t.line.config.rejectGate ≤ distanceMm 0 (t.pulsed 2).line.position ∧ t.line.state = .draining ∧ t.packs.held = [] := by
  decide

/-- A board that has gone, with the record of its charge: one less in flight, or freed. -/
theorem witness_EncoderPulseMovesTheBoards_lands :
    let s (c : ChargeRecord) : State := { tracking [] 1000000 .draining with charges := (withCharge c).charges }
    let closed : ChargeRecord := { charge 7 .closed with inFlight := 1 }
    let open' : ChargeRecord := { charge 7 .planing with inFlight := 1 }
    (s closed).landed (some 7) ((s closed).dropCharge 7) [(charge 7 .closed).freedReport] ∧
      (s open').landed (some 7) ((s open').modCharge 7 fun c => { c with inFlight := c.inFlight - 1 }) [] ∧
      (s open').landed none (s open') [] := by
  refine ⟨⟨fun h => ?_, fun n c hn h => ?_⟩, ⟨fun h => ?_, fun n c hn h => ?_⟩, ⟨fun _ => ⟨rfl, rfl⟩, fun n c hn => by cases hn⟩⟩
  · exact absurd h (by decide)
  · cases hn
    rw [show State.charge? _ 7 = some { charge 7 .closed with inFlight := 1 } by decide] at h
    cases h
    exact ⟨fun _ => ⟨rfl, rfl⟩, fun h => absurd (by decide) h⟩
  · exact absurd h (by decide)
  · cases hn
    rw [show State.charge? _ 7 = some { charge 7 .planing with inFlight := 1 } by decide] at h
    cases h
    exact ⟨fun h => absurd h (by decide), fun _ => ⟨rfl, rfl⟩⟩

/-- The decision of a board whose trailing edge reaches the meter head, a board still PENDING at the redry gate, and a pulse that
brings no board to a point. -/
theorem witness_EncoderPulseMovesTheBoards_decides :
    let whole : Board := { board5 with trailing := some 50000, length := some 500, nextSample := 1 }
    let m := tracking [whole] 249900 .running
    let late : Board := { board5 with nextSample := 14 }
    let l := tracking [late] 849900 .running
    m.line.queue = [whole] ∧ whole.pastMeter = false ∧ whole.marks = ⟨false, false, false, false⟩ ∧
      (m.pulsed 2).leading whole < m.line.config.redryGate ∧ whole.trailing = some 50000 ∧ whole.length = some 500 ∧
      m.line.config.meterPosition ≤ distanceMm 50000 (m.pulsed 2).line.position ∧
      distanceMm 50000 (m.pulsed 2).line.position < m.line.config.redryGate ∧ 500 ≤ whole.nextSample * m.line.config.spacing ∧
      late.decision = .pending ∧ late.trailing = none ∧ l.line.config.redryGate ≤ (l.pulsed 2).leading late ∧
      (l.pulsed 2).leading late < l.line.config.rejectGate ∧
      (l.pulsed 2).leading late < l.line.config.meterPosition + late.nextSample * l.line.config.spacing ∧
      (tracking [board5] 1000 .running).line.infeed.waiting = none ∧
      (tracking [board5] 1000 .running).line.outfeed.waiting = none ∧
      ((awaiting .infeed true [board5] .running).line.filter .infeed).waiting = some 0 := by decide

/-- No point of a board on its way to the meter head. -/
theorem witness_atNoPoint : ((tracking [board5] 1000 .running).pulsed 2).atNoPoint board5 :=
  ⟨by decide, Or.inr (fun x h => by cases h), Or.inr (by decide), Or.inr (fun x h => by cases h), Or.inr (by decide),
    Or.inr (fun x h => by cases h)⟩

/-- Section 7.9, a REDRY board leaves: the last board of a CLOSED charge frees its record, and the DRAINING line stops. -/
theorem test_last_board_frees_and_drains :
    let s := tracking [leavingBoard] 849900 .draining
    let s : State := { s with
      charges := (withCharge { charge 7 .closed with inFlight := 1 }).charges, line := { s.line with redryDemand := true } }
    nextIs (exec .encoderPulse s) (fun t =>
      decide (t.line.queue = []) && decide (t.charge? 7 = none) && decide (t.line.state = .stopped) &&
        decide (t.terminals[4].drive = some false) && decide (t.terminals[6].drive = some true)) = true := by decide +kernel

/-- R123 on a board of 1000 mm that leaves the meter head: the point 1000 mm back is not taken although its travel is reached,
because the trailing travel is not below the meter position; 100 mm before, the point 500 mm back is. -/
theorem test_a_board_past_the_meter_takes_no_sample :
    let b : Board := { board5 with trailing := some 100000, length := some 1000, nextSample := 2 }
    nextIs (exec .encoderPulse (tracking [{ b with pastMeter := true }] 399900 .running))
      (fun t => decide (t.line.queue.map (·.pairs.length) = [0])) = true ∧
    nextIs (exec .encoderPulse (tracking [{ b with nextSample := 1 }] 289900 .running))
      (fun t => decide (t.line.queue.map (·.pairs.length) = [1])) = true := by decide +kernel

/-- The decision order at each boundary: 599 and 600 mm, the limits of the species, and the class boundaries. -/
theorem witness_DecisionOrder :
    let f (mean max : Nat) : BoardFigures := ⟨1, some ⟨mean, max, false, false⟩⟩
    let d (length mean max : Nat) : Decision := decideBoard defaultLineConfig length (some redOak) (f mean max)
    d 599 80 80 = .reject .short ∧ decideBoard defaultLineConfig 600 none (f 80 80) = .unmeasured ∧
      decideBoard defaultLineConfig 600 (some redOak) ⟨0, none⟩ = .unmeasured ∧ d 600 111 111 = .redry ∧
      d 600 110 161 = .redry ∧ d 600 59 59 = .reject .overdry ∧ d 600 60 60 = .accept 0 ∧ d 1799 110 160 = .accept 0 ∧
      d 1800 80 80 = .accept 1 ∧ d 2699 80 80 = .accept 1 ∧ d 2700 80 80 = .accept 2 ∧ d 3599 80 80 = .accept 2 ∧
      d 3600 80 80 = .accept 3 := by decide

theorem witness_DecisionIsCountedAndReported :
    let s (c : ChargeRecord) : State := { lineIn .running with charges := (withCharge c).charges }
    let b : Board := { board5 with length := some 3050, pairs := [⟨1800, some 2252⟩] }
    let dry : Board := { board5 with length := some 3050, pairs := [⟨600, some 2252⟩] }
    let near : ChargeRecord := { charge 7 .planing with counts := ⟨22, 17, 2, 1, 0, 0⟩ }
    let counts := (near.decided .redry (some 151)).counts
    let filled := closedPack 40 .closed .queued
    let none1 : State := { s near with
      packs := { coldPacks with bays := (coldPacks.bays.set 4 (some filled)).set 5 (some filled) } }
    let raised := raise .bayBlock .packing (.packing none 0) none1
    b.charge = some 7 ∧ (s near).charge? 7 = some near ∧ (s { near with redryHigh := true }).charge? 7 =
        some { near with redryHigh := true } ∧
      decideBoard (s near).line.config 3050 ((s near).entryInForce 2) (boardFigures ((s near).entryInForce 2) b.pairs) = .redry ∧
      near.redryHigh = false ∧ 20 ≤ counts.accepted + counts.redry + counts.rejected ∧
      (s near).line.config.redryLimit * (counts.accepted + counts.redry + counts.rejected) < counts.redry * 1000 ∧
      decideBoard (s near).line.config 3050 ((s near).entryInForce 2) (boardFigures ((s near).entryInForce 2) dry.pairs) =
        .accept 2 ∧
      (s near).packs.hasPlace 2 = true ∧ none1.packs.hasPlace 2 = false ∧ raised.line.state = ReturnState.running.state ∧
      board5.figures = none ∧ (tracking [board5] 0 .running).line.queue[0]? = some board5 ∧
      (lineIn .running).line.knifeFlag = false ∧
      (lineIn .running).line.config.knifeThreshold * 1000000 ≤ min 4294967295 (4294967000 + b.length.getD 0) := by
  decide +kernel

/-- A board of no charge. -/
def strayBoard : Board := newBoard 6 none 0

theorem witness_LineConfigAndStartByState :
    (lineIn .stopped).takesAtOnce ∧ readClearTracking [0] = some false ∧ readClearTracking [1] = some true ∧
      readLineConfig (le 2 100 ++ [20] ++ le 2 2000 ++ le 2 8500 ++ le 2 10000 ++ le 2 14000 ++ le 2 500 ++ le 2 1800 ++
        le 2 2700 ++ le 2 3600 ++ le 2 80 ++ le 2 100) = some defaultLineConfig ∧
      (lineIn .running).line.state = .running ∧ State.reset.functionsHeld = false ∧
      (lineIn .stopped).port.latchHolds = false ∧ (lineIn .stopped).functionsHeld = true ∧
      (lineIn .stopped).feedCharge.isSome = true ∧ (lineIn .stopped).line.state = .stopped ∧
      (∀ b ∈ (tracking [strayBoard] 0 .tripped).line.queue, b.charge = none) ∧
      (tracking [strayBoard] 0 .tripped).line.redryDemand = false ∧
      (tracking [strayBoard] 0 .tripped).line.rejectDemand = false ∧
      (unfed (lineIn .tripped)).feedCharge = none ∧ (unfed (lineIn .tripped)).line.queue = [] ∧
      (unfed (lineIn .tripped)).functionsHeld = true ∧ (unfed (lineIn .tripped)).packs.held = [] ∧
      ({ unfed (lineIn .tripped) with packs := { coldPacks with held := [⟨9, 7, 1, 3000, 100, 130⟩] } } : State).packs.held ≠ [] :=
  ⟨atOnce rfl, by decide⟩

/-- A PENDING board of a CLOSED charge 7, the last that holds it, in a queue that is cleared. -/
def clearing (state : LineState) (held : List HeldBoard) : State :=
  let s := tracking [board5, strayBoard] 5000 state
  { s with
    charges := (withCharge { charge 7 .closed with counts := ⟨1, 0, 0, 0, 0, 0⟩, inFlight := 1 }).charges
    packs := { s.packs with held := held } }

theorem witness_LineConfigAndStartByState_clears :
    let s := clearing .tripped []
    let c : ChargeRecord := { charge 7 .closed with counts := ⟨1, 0, 0, 0, 0, 0⟩, inFlight := 1 }
    s.takesAtOnce ∧ s.port.latchHolds = false ∧ s.functionsHeld = true ∧ s.line.state = .tripped ∧ s.numbersApart ∧
      (∀ (i : Fin 12) (d : ChargeRecord), s.charges.records[i] = some d →
        d.counts.untracked + s.pendingOf d.number ≤ 4294967295) ∧
      (∃ b ∈ s.line.queue, b.charge = some c.number) ∧ c.state = .closed ∧ (s.settledRecord c).inFlight = 0 ∧
      c.packRefs = 0 ∧ s.feedCharge = none ∧ s.packs.held = [] ∧
      (clearing .tripped [⟨9, 7, 1, 3000, 100, 130⟩]).packs.held ≠ [] ∧
      (tracking [board5, strayBoard] 5000 .stopped).feedCharge.isSome = true ∧
      nextIs (exec (.lineStart 9 [1]) s) (fun t =>
        decide (t.line.state = .stopped) && decide (t.line.queue = []) && decide (t.charge? 7 = none)) = true := by
  refine ⟨atOnce rfl, by decide, by decide, by decide,
    fun i j c d hc hd _ => (only_record hc).1.trans (only_record hd).1.symm, fun i d hd => ?_,
    ⟨board5, by decide, by decide⟩, by decide, by decide, by decide, by decide, by decide, by decide, by decide,
    by decide +kernel⟩
  obtain ⟨-, rfl⟩ := only_record hd
  decide

theorem witness_LineStopByState :
    (lineIn .running).takesAtOnce ∧ (lineIn .running).line.state = .running ∧ (lineIn .draining).line.state = .draining ∧
      (lineIn .blocked).line.state = .blocked ∧ (lineIn .stopped).line.state = .stopped ∧
      (lineIn .tripped).line.state = .tripped := ⟨atOnce rfl, rfl, rfl, rfl, rfl, rfl⟩

/-- The only pack of the stacker is the one in bay 1A. -/
theorem only_pack {p q : Pack} {queue : List LabelEntry} {b : Fin 8} (h : (stacker p queue).packs.bays[b] = some q) :
    b = 2 ∧ q = p := by
  have h : (coldPacks.bays.set 2 (some p))[b.val] = some q := h
  by_cases hb : b.val = 2
  · obtain rfl : b = 2 := Fin.ext hb
    simpa using h.symm
  · rw [Vector.getElem_set_ne (h := fun e => hb e.symm)] at h
    simp [coldPacks] at h

theorem witness_PackCloseAndTarget :
    let s := stacker openPack40 [labelOf 39]
    let full := stacker openPack40 [labelOf 36, labelOf 37, labelOf 38, labelOf 39]
    s.takesAtOnce ∧ (stacker openPack40 []).takesAtOnce ∧ full.takesAtOnce ∧ s.packs.bays[(2 : Fin 8)] = some openPack40 ∧
      openPack40.state = .opened ∧ s.labels.queue ≠ [] ∧ s.labels.queue.length < 4 ∧
      (stacker openPack40 []).labels.queue = [] ∧ openPack40.lineage = ⟨7, 3⟩ :: [] ∧
      (stacker openPack40 []).charge? 7 = some (charge 7 .planing) ∧ 4 ≤ full.labels.queue.length ∧
      State.reset.packs.bays[(2 : Fin 8)] = none ∧ (closedPack 40 .closed .queued).state ≠ .opened ∧
      readTarget [1, 3, 0] = some (1, 3) ∧ readTarget [4, 3, 0] = none ∧ readTarget [1, 0xE8, 3] = none :=
  ⟨atOnce rfl, atOnce rfl, atOnce rfl, by decide⟩

/-- The charge of a pack of the stacker is not CLOSED. -/
theorem listed_not_closed (p : Pack) (hp : p.lineage = [⟨7, 3⟩]) (queue : List LabelEntry) :
    ∀ e ∈ p.lineage, ∀ c, (stacker p queue).charge? e.charge = some c → c.state ≠ .closed := by
  intro e he c hc
  obtain rfl : e = ⟨7, 3⟩ := by simpa [hp] using he
  obtain rfl : charge 7 .planing = c := by
    have : some (charge 7 .planing) = some c := hc
    simpa using this
  decide

theorem witness_BayClearedFreesTheBay :
    let p := closedPack 40 .labelled .printed
    let s := stacker p []
    let line (state : LineState) (ret : Option ReturnState) (s : State) : State :=
      { s with line := { s.line with state := state, returnTo := ret, stopDemand := state.stops } }
    let held : State := { s with packs := { s.packs with
      held := [⟨9, 7, 1, 3000, 100, 130⟩], bays := s.packs.bays.set 3 (some (closedPack 41 .closed .queued)) } }
    let freed : PackBuilder := { held.packs with bays := held.packs.bays.set 2 none }
    let waits (d : Decision) : Board := { board5 with decision := d }
    s.takesAtOnce ∧ (line .blocked (some .running) s).takesAtOnce ∧ held.takesAtOnce ∧
      (∀ e ∈ p.lineage, ∀ c, s.charge? e.charge = some c → c.state ≠ .closed) ∧
      s.packs.bays[(2 : Fin 8)] = some p ∧ p.printed = true ∧ s.packs.held = [] ∧ s.line.state ≠ .blocked ∧
      (line .blocked (some .running) s).line.state = .blocked ∧
      (line .blocked (some .running) s).line.returnTo = some .running ∧ s.line.queue = [] ∧
      (closedPack 40 .closed .queued).printed = false ∧ State.reset.packs.bays[(2 : Fin 8)] = none ∧
      held.packs.bays[(2 : Fin 8)] = some p ∧ (1 : Fin 4) = bayClass 2 ∧ freed.openBay 1 = none ∧ freed.freeBay 1 = some 2 ∧
      held.charge? 7 = some (charge 7 .planing) ∧ (charge 7 .planing).state ≠ .closed ∧
      held.packs.targets[(1 : Fin 4)] ≠ 1 ∧ held.line.state = .running ∧ (line .draining none held).line.state = .draining ∧
      held.line.queue = [] ∧ (waits (.accept 1)).decision = .accept 1 :=
  ⟨atOnce rfl, atOnce rfl, atOnce rfl, listed_not_closed _ rfl _, by decide⟩

/-- Bay 1A, whose pack is the last to list the CLOSED charge 7, with the line in each state that its clearing meets. -/
theorem witness_BayClearedFreesTheBay_and_its_charges :
    let p := closedPack 40 .labelled .printed
    let s (state : LineState) (ret : Option ReturnState) (queue : List Board) : State :=
      { stacker p [] with
        charges := (withCharge { charge 7 .closed with packRefs := 1 }).charges
        line := { (stacker p []).line with state := state, returnTo := ret, queue := queue, stopDemand := state.stops } }
    let u : State := { (s .running none []).modCharge 7 (fun c => { c with packRefs := c.packRefs - 1 }) with
      packs := { (s .running none []).packs with bays := (s .running none []).packs.bays.set 2 none } }
    let waits (c : Fin 4) : Board := { board5 with charge := none, decision := .accept c }
    let filled : PackBuilder := { u.packs with bays := (u.packs.bays.set 0 (some p)).set 1 (some p) }
    (s .running none []).takesAtOnce ∧ (s .running none []).packs.bays[(2 : Fin 8)] = some p ∧ p.printed = true ∧
      (s .running none []).packs.held = [] ∧ (p.lineage.map (·.charge)).Nodup ∧ u.charge? 7 = some (charge 7 .closed) ∧
      (charge 7 .closed).state = .closed ∧ (charge 7 .closed).inFlight = 0 ∧ (charge 7 .closed).packRefs = 0 ∧
      (s .running none []).line.state ≠ .blocked ∧ (s .blocked (some .running) [waits 1]).line.state = .blocked ∧
      (s .blocked (some .running) [waits 1]).line.returnTo = some .running ∧ u.packs.hasPlace 1 = true ∧
      (waits 1).decision = .accept 1 ∧ filled.hasPlace 0 = false ∧ (waits 0).decision = .accept 0 ∧
      (s .blocked (some .draining) [waits 1]).line.returnTo = some .draining ∧
      (s .blocked (some .draining) [waits 1]).line.queue ≠ [] ∧ (s .blocked (some .draining) []).line.queue = [] ∧
      nextIs (exec (.bayCleared 9 [2]) (s .blocked (some .draining) [])) (fun t =>
        decide (t.line.state = .stopped) && decide (t.charge? 7 = none) && decide (t.packs.bays[2] = none)) = true :=
  ⟨atOnce rfl, by decide, by decide, by decide, by decide, by decide, by decide, by decide, by decide, by decide +kernel⟩

theorem witness_BoardJoinsTheOpenPack :
    let s := stacker openPack40 [labelOf 39]
    let four : Pack := { openPack40 with lineage := [⟨318, 1⟩, ⟨411, 1⟩, ⟨502, 1⟩, ⟨530, 1⟩], pieces := 4 }
    let other : Pack := { openPack40 with lineage := [⟨318, 3⟩] }
    let filled := closedPack 40 .closed .queued
    let none1 : PackBuilder := { coldPacks with bays := (coldPacks.bays.set 2 (some filled)).set 3 (some filled) }
    let crowd := List.replicate 16 (⟨9, 7, 1, 3000, 100, 130⟩ : HeldBoard)
    s.packs.openBay 1 = some 2 ∧ s.packs.bays[(2 : Fin 8)] = some openPack40 ∧ s.charge? 7 = some (charge 7 .planing) ∧
      (charge 7 .planing).state ≠ .closed ∧ 0 < openPack40.pieces ∧ openPack40.pieces + 1 ≠ openPack40.target ∧
      openPack40.lineage = [] ++ ⟨7, 3⟩ :: [] ∧ (stacker other []).packs.openBay 1 = some 2 ∧
      ({ openPack40 with target := 4 } : Pack).pieces + 1 = ({ openPack40 with target := 4 } : Pack).target ∧
      s.labels.queue ≠ [] ∧ s.labels.queue.length < 4 ∧
      (∀ e ∈ other.lineage, e.charge ≠ 7) ∧ other.lineage.length < 4 ∧ (stacker four []).packs.openBay 1 = some 2 ∧
      (∀ e ∈ four.lineage, e.charge ≠ 7) ∧ 4 ≤ four.lineage.length ∧
      coldPacks.openBay 1 = none ∧ coldPacks.freeBay 1 = some 2 ∧ coldPacks.targets[(1 : Fin 4)] ≠ 1 ∧
      none1.openBay 1 = none ∧ none1.freeBay 1 = none ∧ none1.held.length < 16 ∧ 16 ≤ crowd.length := by decide

/-- An accepted board of charge 7 at the outfeed eye. -/
def acceptedBoard : Board :=
  { board5 with
    decision := .accept 2, pastMeter := true, length := some 3050, trailing := some 305000
    figures := some ⟨6, some ⟨100, 120, false, false⟩⟩ }

theorem witness_BoardJoinsTheOpenPack_at_the_outfeed :
    let s := tracking [acceptedBoard] 1400000 .running
    let refused := tracking [redryBoard] 1400000 .running
    let u : State := { refused with
      terminals := refused.terminals.set 1 { refused.terminals[1] with pinHigh := true, input := true }
      line := { refused.line with outfeed := ⟨true, none⟩ } }
    s.port.dropOwed = none ∧ s.holder .outfeedEye = some 1 ∧ true = s.terminals[(1 : Fin 16)].polarity.through true ∧
      true ≠ s.terminals[(1 : Fin 16)].input ∧ s.line.config.eyeFilter = 0 ∧ s.line.outfeed = ⟨!true, none⟩ ∧
      s.line.queue = acceptedBoard :: [] ∧ acceptedBoard.decision = .accept 2 ∧
      s.line.config.rejectGate ≤ s.leading acceptedBoard ∧ acceptedBoard.charge = some 7 ∧
      acceptedBoard.figures = some ⟨6, some ⟨100, 120, false, false⟩⟩ ∧ s.line.redryDemand = false ∧
      s.line.rejectDemand = false ∧ (tracking [acceptedBoard] 1400000 .draining).line.state = .draining ∧
      (tracking [] 0 .running).line.queue = [] ∧ refused.line.queue = redryBoard :: [] ∧
      (∀ c, redryBoard.decision ≠ .accept c) ∧
      (raise .trackMismatch .line (.line (some 5) (some 7) 14000) u).line.state = .tripped := by
  decide +kernel

theorem witness_LabelExchange :
    let s (link : PrinterLink) (e : LabelEntry) : State :=
      masked .printerNak { stacker (closedPack 39 .closed .queued) [e] with
        labels := { coldLabels with queue := [e], link := link, answerTimer := some 0, retryTimer := some 0 } }
    let p := closedPack 39 .closed .queued
    let done (queue : List LabelEntry) (waiting : List WaitingPack) : State :=
      { stacker p queue with
        packs := { coldPacks with bays := (coldPacks.bays.set 2 (some p)).set 3 (some (closedPack 41 .closed .waitingSlot)) }
        labels := { (stacker p queue).labels with waiting := waiting } }
    (s .sending (labelOf 39)).port.dropOwed = none ∧ (s .sending (labelOf 39)).labels.queue = labelOf 39 :: [] ∧
      (s .sending (labelOf 39)).labels.link = .sending ∧ (s .retryWait (labelOf 39)).labels.link = .retryWait ∧
      (s .answerWait (labelOf 39)).labels.link = .answerWait ∧ (labelOf 39).nakResendUsed = false ∧
      (s .answerWait (labelOf 39)).faults.kinds[FaultKind.printerNak.index].masked = true ∧
      ({ labelOf 39 with timeoutReported := true } : LabelEntry).timeoutReported = true ∧
      (labelOf 39).timeoutReported = false ∧ printerAnswer [0x4F, 0x4B] = none ∧
      (done [labelOf 39] []).labels.link = .answerWait ∧ (done [labelOf 39] []).labels.queue = [labelOf 39] ∧
      (done [labelOf 39] []).packs.bays[(labelOf 39).bay] = some p ∧ p.number = (labelOf 39).pack ∧
      p.closing = some ⟨⟨false, false, false⟩, .request, ⟨0, true⟩, .queued, 0⟩ ∧ (done [labelOf 39] []).labels.waiting = [] ∧
      (done [labelOf 39, labelOf 40] []).labels.queue = labelOf 39 :: labelOf 40 :: [] ∧
      (done [labelOf 39] [⟨3, 41⟩]).labels.waiting = ⟨3, 41⟩ :: [] ∧ (3 : Fin 8) ≠ (labelOf 39).bay ∧
      (done [labelOf 39] [⟨3, 41⟩]).packs.bays[(3 : Fin 8)] = some (closedPack 41 .closed .waitingSlot) ∧
      (closedPack 41 .closed .waitingSlot).closing =
        some ⟨⟨false, false, false⟩, .request, ⟨0, true⟩, .waitingSlot, 0⟩ ∧
      [] ++ [(⟨3, 41, false, 0, false, false⟩ : LabelEntry)] = ⟨3, 41, false, 0, false, false⟩ :: [] := by decide

/-- A second NAK of an entry, and an answer that does not come, with the kinds as they stand at reset. -/
theorem witness_LabelExchange_raises :
    let s (e : LabelEntry) : State := stacker (closedPack 39 .closed .queued) [e]
    let naked : LabelEntry := { labelOf 39 with nakResendUsed := true }
    (s naked).port.dropOwed = none ∧ (s naked).labels.queue = naked :: [] ∧ (s naked).labels.link = .answerWait ∧
      naked.nakResendUsed = true ∧ naked.timeoutReported = false ∧
      ({ naked with timeoutReported := true } : LabelEntry).timeoutReported = true ∧
      nextIs (exec .nakReceived (s naked)) (fun t =>
        decide (t.labels.link = .retryWait) && decide (t.labels.queue.map (·.timeoutReported) = [true]) &&
          decide (t.labels.answerTimer = none) && decide ((t.faults.logs[Domain.packing.index].counter) = 2)) = true ∧
      nextIs (exec .answerTimeout (s (labelOf 39))) (fun t =>
        decide (t.labels.link = .retryWait) && decide (t.labels.queue.map (·.timeoutReported) = [true])) = true := by
  decide +kernel

/-- Section 9.2: the ACK of the head lets the first waiting pack join the queue, and its transmission begins. -/
theorem test_ack_serves_the_waiting_list :
    let p := closedPack 39 .closed .queued
    let s := stacker p [labelOf 39]
    let s : State := { s with
      packs := { s.packs with bays := s.packs.bays.set 3 (some (closedPack 41 .closed .waitingSlot)) }
      labels := { s.labels with waiting := [⟨3, 41⟩] } }
    nextIs (exec .ackReceived s) (fun t =>
      decide (t.labels.queue = [⟨3, 41, false, 1, false, false⟩]) && decide (t.labels.waiting = []) &&
        decide (t.labels.link = .sending) && decide (t.labels.head.map (·.pack) = some 41) &&
        decide (t.packs.bays[2].map (·.state) = some .labelled) &&
        decide ((t.packs.bays[3].bind (·.closing)).map (·.label) = some .queued)) = true := by decide +kernel

theorem witness_ReprintQueuesTheLabelAgain :
    let p := closedPack 40 .labelled .printed
    let full := [labelOf 36, labelOf 37, labelOf 38, labelOf 39]
    (stacker p [labelOf 39]).takesAtOnce ∧ (stacker p []).takesAtOnce ∧
      (∀ (b : Fin 8) (q : Pack), (stacker openPack40 []).packs.bays[b] = some q → q.number = 40 → q.printed = false) ∧
      (∀ (b : Fin 8) (q : Pack), b < 2 → (stacker p []).packs.bays[b] = some q → q.number = 40 → q.printed = false) ∧
      (stacker p [labelOf 39]).packs.bays[(2 : Fin 8)] = some p ∧ p.number = 40 ∧ p.printed = true ∧
      4 ≤ (stacker p full).labels.queue.length ∧
      p.closing = some ⟨⟨false, false, false⟩, .request, ⟨0, true⟩, .printed, 0⟩ ∧
      (stacker p [labelOf 39]).labels.queue ≠ [] ∧ (stacker p [labelOf 39]).labels.queue.length < 4 ∧
      (stacker p []).labels.queue = [] :=
  ⟨atOnce rfl, atOnce rfl, fun b q h _ => by obtain ⟨-, rfl⟩ := only_pack h; decide,
    fun b q hb h _ => by obtain ⟨rfl, -⟩ := only_pack h; exact absurd hb (by decide), by decide⟩

/-- Two bays with packs of one number: REPRINT takes the printed one, whatever the other. -/
theorem test_reprint_of_one_of_two_equal_numbers :
    let p := closedPack 40 .labelled .printed
    let s : State := { stacker openPack40 [] with
      packs := { coldPacks with bays := (coldPacks.bays.set 2 (some openPack40)).set 3 (some p) } }
    nextIs (exec (.reprint 9 (le 4 40)) s) (fun t =>
      decide (t.packs.bays[2] = some openPack40) && decide ((t.packs.bays[3].bind (·.closing)).map (·.reprints) = some 1) &&
        decide (t.labels.queue.map (·.bay) = [3])) = true := by decide +kernel

theorem witness_FaultRequestsWriteTheirTables :
    State.reset.takesAtOnce ∧ readKindConfig [5, 1, 1, 0] = some (.stepOvertime, ⟨.degrade, true, false⟩) ∧
      FaultKind.stepOvertime.fixed = false ∧ readKindConfig [0, 2, 0, 1] = some (.overtemp, ⟨.critical, false, true⟩) ∧
      FaultKind.overtemp.fixed = true ∧ readKindConfig [0, 1, 0, 1] = some (.overtemp, ⟨.degrade, false, true⟩) ∧
      readKindConfig [24, 0, 0, 0] = none ∧ readActions [1, 0x0B] = some (.degrade, ⟨true, true, false, true⟩) :=
  ⟨atOnce rfl, by decide⟩

theorem witness_RaiseIsLoggedCountedAndActedOn :
    let s := drying (kilnIn .run none 0)
    s.faults.kinds[FaultKind.overtemp.index] = ⟨.critical, false, true⟩ ∧
      (masked .busNack s).faults.kinds[FaultKind.busNack.index].masked = true ∧
      s.faults.logs[(1 : Fin 10)] = ⟨none, none, 0, false⟩ ∧ (s.faults.actions[Severity.critical.index]).parkKiln = true ∧
      (s.faults.actions[Severity.critical.index]).stopLine = true ∧ s.kilns[(1 : Fin 6)].state = Phase.run.state ∧
      (drying (kilnIn .hold (some .run) 1)).kilns[(1 : Fin 6)].state = .hold ∧ s.kilns[(0 : Fin 6)].state = .idle ∧
      (s.faults.actions[Severity.advisory.index]).stopLine = false ∧ (lineIn .running).line.state ≠ .tripped ∧
      (lineIn .tripped).line.state = .tripped ∧ (s.faults.actions[Severity.degrade.index]).holdKiln = true ∧
      (s.faults.actions[Severity.degrade.index]).stopLine = false := by decide

/-- The port while it sends, its reply queue full, with the requests given waiting. -/
def busyPort (requests : List Frame) : State :=
  { State.reset with
    port :=
      { State.reset.port with
        requests := requests, replies := List.replicate 4 ⟨0x80, 0, []⟩, sending := some (.reply ⟨0x80, 0, []⟩) } }

theorem witness_FrameRunsTheRequestItNames :
    State.reset.takesAtOnce ∧ State.reset.port.receiver = .hunt ∧ State.reset.port.begin = State.reset.port ∧
      (0x35 : Byte).toNat < 0x80 ∧ State.reset.port.dropOwed = none ∧ State.reset.port.requests = [] ∧
      (0 : BitVec 16) ≠ Frame.crc ⟨0x35, 1, []⟩ ∧ 0x80 ≤ (0x80 : Byte).toNat ∧ (busyPort []).port.replies.length = 4 ∧
      (busyPort []).port.sending ≠ none ∧ (busyPort []).port.dropOwed = none ∧ (busyPort []).port.receiver = .hunt ∧
      (busyPort []).port.requests.length < 4 ∧ (busyPort (List.replicate 4 ⟨0x35, 1, []⟩)).port.requests.length = 4 :=
  ⟨atOnce rfl, by decide⟩

theorem witness_ReceiverPhases :
    let s (r : Receiver) : State := { State.reset with port := { State.reset.port with receiver := r } }
    (s .hunt).port.dropOwed = none ∧ (s .hunt).port.receiver = .hunt ∧ (s .huntAfterGap).port.receiver = .huntAfterGap ∧
      (s .length).port.receiver = .length ∧ (s (.body 1 [0x35])).port.receiver = .body 1 [0x35] ∧
      (s (.check 0 [0x35, 1] none)).port.receiver = .check 0 [0x35, 1] none ∧ (s .ignoring).port.receiver = .ignoring := by decide

theorem witness_BytesOfAFrameAreTheFrame :
    State.reset.port.dropOwed = none ∧ State.reset.port.receiver = .hunt ∧ State.reset.port.begin = State.reset.port ∧
      ([1, 2, 3] : List Byte).length ≤ 240 := by decide

/-- A report queue of one LOW and one HIGH entry behind a report being sent. -/
def twoReports : State :=
  { State.reset with
    port :=
      { State.reset.port with
        reports := [⟨.storeDone (.schedule 1) true, false⟩, ⟨.storeDone (.schedule 2) true, true⟩], gap := true } }

theorem witness_TransmitterTakesTheNextFrame :
    twoReports.port.dropOwed = none ∧ twoReports.port.requests = [] ∧ twoReports.port.sending ≠ none ∧
      twoReports.port.restart = .none ∧ twoReports.port.replies = [] ∧
      (∀ x ∈ [(⟨.storeDone (.schedule 1) true, false⟩ : ReportEntry)], x.high = false) ∧ (busyPort []).port.replies ≠ [] ∧
      State.reset.port.reports = [] ∧ State.reset.port.sending ≠ none := by decide

/-- A RESTART whose reply is being sent, or waits behind another; and requests that wait for room among the replies. -/
theorem witness_TransmitterTakesTheNextFrame_restart_and_requests :
    let ours : Frame := ⟨0xB6, 1, [0]⟩
    let s (m : Sending) (replies : List Frame) : State :=
      { State.reset with
        port := { State.reset.port with sending := some m, replies := replies, restart := .awaitingReply } }
    let r : Frame := ⟨0x33, 1, le 4 7⟩
    let odd : Frame := ⟨0x37, 2, []⟩
    (s (.reply ours) []).port.dropOwed = none ∧ (s (.reply ours) []).port.sending = some (.reply ours) ∧
      (s (.reply ours) []).port.restart = .awaitingReply ∧ ours.kind = 0xB6 ∧
      (s (.reply ⟨0xB5, 1, []⟩) [ours]).port.replies = ours :: [] ∧ (⟨0xB5, 1, []⟩ : Frame).kind ≠ 0xB6 ∧
      (busyPort [r]).port.dropOwed = none ∧ (busyPort [r]).port.restart = .none ∧
      (busyPort [r]).port.replies = ⟨0x80, 0, []⟩ :: List.replicate 3 ⟨0x80, 0, []⟩ ∧
      (busyPort [r]).port.requests = [r] ∧ r.kind.toNat < 0x80 ∧ (busyPort [odd, r]).port.requests = odd :: [r] ∧
      0x36 < odd.kind.toNat ∧ (List.replicate 3 (⟨0x80, 0, []⟩ : Frame)).length = 3 ∧
      goesTo (exec .transmitComplete (busyPort [odd, r])) { busyPort [] with
        port := { (busyPort []).port with
          replies := List.replicate 3 ⟨0x80, 0, []⟩ ++ [⟨0x80, 2, [1]⟩], requests := [r] } } = true ∧
      nextIs (exec .transmitComplete (busyPort [r])) (fun t =>
        decide (t.port.clock = 7) && decide (t.port.requests = []) && decide (t.port.replies.length = 4)) = true := by
  decide +kernel

theorem witness_ReportsAreQueuedOrDropped :
    let low : ReportEntry := ⟨.storeDone (.schedule 1) true, false⟩
    let p : Port := { State.reset.port with reports := List.replicate 32 low }
    p.subscribed.getLsbD ReportKind.labelDone.index = false ∧ p.subscribed.getLsbD ReportKind.storeDone.index = true ∧
      p.subscribed.getLsbD ReportKind.fault.index = true ∧ p.highKinds.getLsbD ReportKind.fault.index = true ∧
      32 ≤ p.reports.length ∧ p.reports = [] ++ low :: List.replicate 31 low ∧ State.reset.port.reports.length < 32 ∧
      ({ State.reset with port := { p with gap := true, dropOwed := some .storeDone } } : State).port.dropOwed =
        some .storeDone := by decide

theorem witness_PortRequestsWriteTheirItems :
    State.reset.takesAtOnce ∧ readSubscription [0, 1, 0x30, 0, 0x10] = some ⟨false, 0x3001, 0x1000⟩ ∧
      readSubscription [1, 0xFF, 0x3F, 0, 0x10] = some ⟨true, 0x3FFF, 0x1000⟩ ∧ readSubscription [0, 0, 0x40, 0, 0] = none ∧
      4294967295 < 4294967296 := ⟨atOnce rfl, by decide⟩

theorem witness_SupervisionTimer :
    let s (v : Option Supervision) : State := { State.reset with port := { State.reset.port with supervision := v } }
    State.reset.takesAtOnce ∧ State.reset.port.supervision = none ∧
      readSupervision [10, 6, 0, 0] = some ⟨10, 6, .holdAll, false, 60⟩ ∧
      (s (some ⟨10, 6, .notify, false, 1⟩)).port.supervision = some ⟨10, 6, .notify, false, 1⟩ ∧
      (s (some ⟨10, 6, .holdAll, false, 1⟩)).port.supervision = some ⟨10, 6, .holdAll, false, 1⟩ ∧
      (s (some ⟨10, 6, .holdAll, false, 1⟩)).port.latch = false ∧ State.reset.bus.settled ∧
      (s (some ⟨10, 6, .holdAll, false, 1⟩)).line.state ≠ .tripped :=
  ⟨atOnce rfl, by decide, by decide, by decide, by decide, by decide, settled rfl, by decide⟩

/-- An ill-formed arming, a refresh that finds the latch set, and the reports of a HOLD_ALL expiry: kiln 1 in RUN is held, and the
RUNNING line trips. -/
theorem witness_SupervisionTimer_latched_and_held :
    let timer (s : State) (latch : Bool) : State := { s with
      port := { s.port with supervision := some ⟨10, 6, .holdAll, false, 1⟩, latch := latch, subscribed := 0x3FFF } }
    let s := timer { drying (kilnIn .run none 0) with line := (lineIn .running).line, terminals := lineTerminals } false
    let latched := timer State.reset true
    readSupervision [] = none ∧ latched.port.latch = true ∧
      latched.port.supervision = some ⟨10, 6, .holdAll, false, 1⟩ ∧
      nextIs (exec (.superviseRefresh 7 []) latched) (fun t =>
        (!t.port.latch) && decide (t.port.reports.map (·.report) = [.supervision .cleared .holdAll 10 6])) = true ∧
      s.port.dropOwed = none ∧ s.bus.pendingPolls = [] ∧ s.port.latch = false ∧
      s.port.supervision = some ⟨10, 6, .holdAll, false, 1⟩ ∧ s.kilns[(1 : Fin 6)].state = Phase.run.state ∧
      s.line.state ≠ .tripped ∧
      nextIs (exec .supervisionExpiry s) (fun t =>
        decide (t.port.reports.map (·.report) = [.supervision .expired .holdAll 10 6,
          (t.kilns[1]).report 1 .supervision, t.lineReport .supervision])) = true := by decide +kernel

theorem witness_WarmStartsKeepTheRecords :
    let s (r : RestartPhase) : State := { sixKilns with port := { sixKilns.port with restart := r } }
    (s .due).port.dropOwed = none ∧ (s .due).port.restart = .due ∧ (s .none).port.restart ≠ .due ∧ (s .due).line.queue = [] ∧
      (stacker (closedPack 39 .closed .queued) [labelOf 39]).labels.queue = labelOf 39 :: [] ∧
      (s .due).kilns[(0 : Fin 6)].state = Phase.run.state ∧ (s .due).kilns[(4 : Fin 6)].state.running = false := by decide

/-- R14 and R52 at a BREAK: a WRITING slot becomes INVALID, a VALID one stays; the charge of a PENDING board counts it untracked. -/
theorem test_a_warm_start_keeps_the_store_and_settles_the_records :
    let s : State := { clearing .running [] with
      store := stored.store
      charges := (withCharge { charge 7 .planing with counts := ⟨2, 1, 0, 0, 0, 0⟩, inFlight := 2 }).charges }
    nextIs (exec (.breakWarmStart ⟨0, 0, 0, 0, 0, false⟩) s) (fun t =>
      decide (t.store.slots[4] = .valid oak) && decide (t.store.slots[5] = .invalid) &&
        decide (t.store.species[2] = .present redOak) && decide (t.store.species[3] = .invalid) &&
        decide (t.charge? 7 = some { charge 7 .planing with counts := ⟨2, 1, 0, 0, 0, 1⟩, inFlight := 1 }) &&
        decide (t.line.queue = [])) = true := by decide +kernel

/-- R193: after a RESTART the receiver hunts at once on an idle line, and otherwise when the line becomes idle; after a BREAK
the line is not idle. -/
theorem test_the_receiver_hunts_on_an_idle_line :
    let s : State := { sixKilns with port := { sixKilns.port with restart := .due } }
    nextIs (exec (.restartWarmStart ⟨0, 0, 0, 0, 0, true⟩) s) (fun t => decide (t.port.receiver = .hunt)) = true ∧
      nextIs (exec (.restartWarmStart ⟨0, 0, 0, 0, 0, false⟩) s) (fun t =>
        decide (t.port.receiver = .ignoring) && nextIs (exec .receiveLineIdle t) fun u => decide (u.port.receiver = .hunt)) =
          true ∧
      nextIs (exec (.breakWarmStart ⟨0, 0, 0, 0, 0, true⟩) s) (fun t => decide (t.port.receiver = .ignoring)) = true := by
  decide +kernel

/-- The hypotheses of the step invariants are what reset meets; a step from it is one of the next states they speak of. The
gates and LINE_STOP of a stopped line are driven as its demands are. -/
theorem witness_StepKeepsTheInvariants :
    State.reset.port.bounded ∧ State.reset.port.transmits ∧ State.reset.faults.sound ∧ State.reset.kilnsSound ∧
      State.reset.bus.sound ∧ State.reset.line.sound ∧ State.reset.outputsFollow ∧ State.reset.planerBounded ∧
      State.reset.packsSound ∧ State.reset.latchKept ∧ step State.reset = .next State.reset ∧
      (lineIn .stopped).outputsFollow := by
  simp only [Port.bounded, Port.transmits, FaultUnit.sound, DomainLog.sound, State.kilnsSound, Kiln.sound, Bus.sound, Line.sound,
    State.outputsFollow, State.planerBounded, State.packsSound, State.latchKept]
  refine ⟨by decide, by decide, ⟨by decide, ?_⟩, by decide, by decide, by decide, by decide, by decide, ?_, by decide, rfl,
    by decide⟩
  · intro k; cases k <;> decide
  · intro b p h
    revert b; simp [State.reset, coldPacks]

/-- R87: when HOLD_ALL expires in a second in which a climate timer of kiln 3 ends, the list is served by kiln, the held kiln 0
before kiln 3. -/
theorem test_polls_of_one_second_join_by_kiln :
    let s : State := { armed with
      bus := (serving (.climate ⟨.run, 600, 50⟩) 1 armed).bus.setLink 3 { armed.bus.links[3] with climateTimer := 29 }
      port := { armed.port with supervision := some ⟨10, 6, .holdAll, false, 1⟩ } }
    nextIs (exec .secondTick s) (fun t => decide (t.bus.pendingPolls.map (·.kiln) = [0, 3]) && t.port.latch) = true := by
  decide +kernel

end Sys2Proof.Tests
end

section
/-!
Moisture arithmetic (section 2.4 of the spec): what the two rounded divisions answer, and the board temperature made of them.
-/
namespace Sys2Proof.Proofs.MoistureArithmetic
open Sys2Proof.Machine

/-- The rounded quotient `q` is at most half a unit above `num / den`. -/
theorem roundHalfUp_lower (num den : Nat) : den * (2 * roundHalfUp num den) ≤ 2 * num + den := by
  have hdiv : den * roundHalfUp num den ≤ num + den / 2 := Nat.mul_div_le _ _
  rw [Nat.mul_left_comm]
  omega

/-- The rounded quotient `q` is less than half a unit below `num / den`: a half is rounded up. -/
theorem roundHalfUp_upper (num : Nat) {den : Nat} (hden : 0 < den) :
    2 * num < den * (2 * roundHalfUp num den + 1) := by
  have hdiv : num + den / 2 < den * (roundHalfUp num den + 1) := Nat.lt_mul_div_succ _ hden
  rw [Nat.mul_add_one] at hdiv
  rw [Nat.mul_add_one, Nat.mul_left_comm]
  omega

theorem roundHalfUp_le_roundHalfUp {m n : Nat} (h : m ≤ n) (den : Nat) : roundHalfUp m den ≤ roundHalfUp n den :=
  Nat.div_le_div_right (Nat.add_le_add_right h _)

/-- A whole quotient is not changed by the rounding. -/
@[simp] theorem roundHalfUp_mul_left (q : Nat) {den : Nat} (hden : 0 < den) : roundHalfUp (den * q) den = q := by
  rw [roundHalfUp, Nat.mul_add_div hden, Nat.div_eq_of_lt (Nat.div_lt_self hden Nat.one_lt_two), Nat.add_zero]

@[simp] theorem roundHalfUp_zero {den : Nat} (hden : 0 < den) : roundHalfUp 0 den = 0 :=
  roundHalfUp_mul_left 0 hden

@[simp] theorem roundHalfAway_zero {den : Nat} (hden : 0 < den) : roundHalfAway 0 den = 0 := by
  simp [roundHalfAway, hden]

theorem boardTemperature_some (r : Nat) : boardTemperature (some r) = (roundHalfUp (r * 1000) 4095 : Int) - 200 := rfl

@[simp] theorem boardTemperature_none : boardTemperature none = 200 := rfl

/-- The lowest count is −20.0 °C. -/
@[simp] theorem boardTemperature_zero : boardTemperature (some 0) = -200 := by
  simp [boardTemperature_some]

/-- The highest count of the converter is 80.0 °C. -/
@[simp] theorem boardTemperature_top : boardTemperature (some 4095) = 800 := by
  rw [boardTemperature_some, roundHalfUp_mul_left 1000 (by decide)]
  rfl

theorem boardTemperature_mono {r t : Nat} (h : r ≤ t) : boardTemperature (some r) ≤ boardTemperature (some t) := by
  have hround := roundHalfUp_le_roundHalfUp (Nat.mul_le_mul_right 1000 h) 4095
  simp only [boardTemperature_some]
  omega

/-- R28 at 20.0 °C: no correction, whatever the coefficient. -/
@[simp] theorem correction_reference (c : Nat) : correction 200 c = 0 := by
  simp [correction]

/-- Settles O35: the rounding bounds give the half up, and monotonicity between the lowest and the highest count the range. -/
theorem boardTemperature : Obligations.BoardTemperature := by
  refine ⟨fun r hr => ⟨⟨roundHalfUp (r * 1000) 4095, boardTemperature_some r, ?halfUp, ?atMostHalf⟩, ?low, ?high⟩,
    boardTemperature_zero, boardTemperature_top, boardTemperature_none, correction_reference⟩
  case halfUp => exact roundHalfUp_upper (r * 1000) (by decide)
  case atMostHalf => exact roundHalfUp_lower (r * 1000) 4095
  case low => exact boardTemperature_zero ▸ boardTemperature_mono (Nat.zero_le r)
  case high => exact boardTemperature_top ▸ boardTemperature_mono hr

end Sys2Proof.Proofs.MoistureArithmetic
end

section
/-!
LINE-STOP (R114): what its act comes to in each line state, on the rules of an entered line state (R111) and of a request taken
at once (R180).
-/
namespace Sys2Proof.Proofs.LineStop
open Sys2Proof.Machine

/-- A request taken at once whose act ends by queueing reports: they are queued, and then the reply is given. -/
theorem request_eq_after {s t : State} (h : s.takesAtOnce) {act : State → State × List Byte} (reports : List Report)
    {fields : List Byte} (ha : act s = (reports.foldl (fun s r => queueReport r s) t, fields)) (kind tag : Byte)
    (payload : List Byte) :
    request kind tag payload act s = t.after reports (replyTo kind tag fields) := by
  rw [request_of h ha, replyTo, after_some]

/-- R111: the line stands in its new state, LINE_STOP driven, when the report is formed. -/
theorem enterLine_eq (st : LineState) (ret : Option ReturnState) (cause : LineCause) (s : State) :
    enterLine st ret cause s = queueReport ((s.lineIn st ret).lineReport cause) (s.lineIn st ret) := rfl

theorem done_eq (s : State) : done s = (s, [0x00]) := rfl

theorem refuse_state_eq (s : State) : refuse .state s = (s, [0x03]) := rfl

theorem exec_lineStop (tag : Byte) (payload : List Byte) (s : State) :
    exec (.lineStop tag payload) s = .next (request 0x20 tag payload actLineStop s) := rfl

theorem actLineStop_of_moving {s : State}
    (hs : s.line.state = .running ∨ s.line.state = .draining ∨ s.line.state = .blocked) :
    actLineStop s =
      (queueReport ((s.lineIn .stopped none).lineReport .request) (s.lineIn .stopped none), [0x00]) := by
  rw [← enterLine_eq, ← done_eq]
  obtain hrun | hdrain | hblock := hs
  · simp [actLineStop, hrun]
  · simp [actLineStop, hdrain]
  · simp [actLineStop, hblock]

theorem actLineStop_of_stopped {s : State} (hs : s.line.state = .stopped) : actLineStop s = (s, [0x00]) := by
  simp [actLineStop, hs, done_eq]

/-- A trip is left by LINE-START alone (R113). -/
theorem actLineStop_of_tripped {s : State} (hs : s.line.state = .tripped) : actLineStop s = (s, [0x03]) := by
  simp [actLineStop, hs, refuse_state_eq]

/-- Settles O39: in each line state the act of LINE-STOP is known, and a request taken at once is its act, its reports and its
reply. -/
theorem lineStopByState : Obligations.LineStopByState := by
  refine fun s tag payload htakes => ⟨fun hmoving => ?moving, fun hstopped => ?stopped, fun htripped => ?tripped⟩
  case moving => rw [exec_lineStop, request_eq_after htakes [_] (actLineStop_of_moving hmoving)]
  case stopped => rw [exec_lineStop, request_eq_after htakes [] (actLineStop_of_stopped hstopped)]
  case tripped => rw [exec_lineStop, request_eq_after htakes [] (actLineStop_of_tripped htripped)]

end Sys2Proof.Proofs.LineStop
end

section
/-!
What an operation keeps of the agreements that the rules state of the part at every moment (Safety): one relation, closed under
composition, with a lemma for each elementary change. The operations of the blocks are composed of these changes.
-/
namespace Sys2Proof.Proofs.Invariants
open Sys2Proof.Machine
-- The proofs are elaborated one after another: side by side, each on a stack of its own, they go past the memory of the check.
set_option Elab.async false

/-! ## The relation -/

/-- What an operation may leave to the rest of its event: polls that fell due and are not served (R88), scans among them, a board
that has entered (R44), a buffer or reply queue of the port that has changed (R179, R180), and a latch that is set ahead of the holds
it brings (R190). -/
structure Leave where
  polls : Bool
  scans : Bool
  entry : Bool
  reply : Bool
  latch : Bool

/-- No two polls of one kiln and kind wait (R87). -/
def pollsApart (b : Bus) : Prop := (b.pendingPolls.map fun e => (e.kiln, e.kind)).Nodup

/-- The scans that wait. -/
def scansWaiting (b : Bus) : Nat := b.pendingPolls.countP fun e => decide (e.kind = .scan)

/-- The boards are in balance and no entered count stands at its top (R48). -/
def boardsKept (s : State) : Prop :=
  s.boardsSound ∧ ∀ (i : Fin 12) (c : ChargeRecord), s.charges.records[i] = some c → c.counts.entered < 4294967295

/-- Each agreement that holds of `s` holds of `t`; what `l` leaves open is not claimed. A block that a change leaves alone keeps
its agreement by the defaults. -/
structure Keeps (l : Leave) (s t : State) : Prop where
  buffers : l.reply = false → t.port.requests = s.port.requests ∧ t.port.replies = s.port.replies := by exact fun _ => ⟨rfl, rfl⟩
  bounded : s.port.bounded → t.port.bounded := by exact id
  faults : s.faults.sound → t.faults.sound := by exact id
  kilns : s.kilnsSound → t.kilnsSound := by exact id
  apart : pollsApart s.bus → pollsApart t.bus := by exact id
  settled : l.polls = false → s.bus.sound → t.bus.settled := by exact fun _ h => h.2
  scans : l.scans = false → scansWaiting t.bus ≤ scansWaiting s.bus := by exact fun _ => le_rfl
  line : s.line.sound → t.line.sound := by exact id
  outputs : s.outputsFollow → t.outputsFollow := by exact id
  planer : s.planerBounded → t.planerBounded := by exact id
  packs : s.packsSound → t.packsSound := by exact id
  latch : l.latch = false → s.latchKept → t.latchKept := by exact fun _ => id
  boards : l.entry = false → boardsKept s → boardsKept t := by exact fun _ => id

variable {l : Leave} {s t u : State}

theorem bus_sound_iff (b : Bus) : b.sound ↔ pollsApart b ∧ b.settled := Iff.rfl

@[refl] theorem Keeps.refl (l : Leave) (s : State) : Keeps l s s := {}

@[trans] theorem Keeps.trans (h : Keeps l s t) (g : Keeps l t u) : Keeps l s u where
  buffers hr := ⟨(g.buffers hr).1.trans (h.buffers hr).1, (g.buffers hr).2.trans (h.buffers hr).2⟩
  bounded := g.bounded ∘ h.bounded
  faults := g.faults ∘ h.faults
  kilns := g.kilns ∘ h.kilns
  apart := g.apart ∘ h.apart
  settled hp hs := g.settled hp ⟨h.apart hs.1, h.settled hp hs⟩
  scans hs := (g.scans hs).trans (h.scans hs)
  line := g.line ∘ h.line
  outputs := g.outputs ∘ h.outputs
  planer := g.planer ∘ h.planer
  packs := g.packs ∘ h.packs
  latch hl := g.latch hl ∘ h.latch hl
  boards he := g.boards he ∘ h.boards he

/-- Operations one after another over a list. -/
theorem Keeps.foldl {α : Type} {f : State → α → State} (xs : List α) (h : ∀ s x, x ∈ xs → Keeps l s (f s x)) (s : State) :
    Keeps l s (xs.foldl f s) := by
  induction xs generalizing s with
  | nil => exact .refl l s
  | cons x xs ih =>
    exact (h s x (by simp)).trans (ih (fun s y hy => h s y (by simp [hy])) (f s x))

/-- An operation made where a test holds. -/
theorem Keeps.ite {p : Prop} [Decidable p] (h : p → Keeps l s t) (g : ¬ p → Keeps l s u) : Keeps l s (if p then t else u) := by
  split
  · exact h ‹_›
  · exact g ‹_›

/-! ## Changes of the port -/

theorem takeFirst_length {α : Type} {test : α → Bool} {xs rest : List α} {a : α} (h : takeFirst test xs = some (a, rest)) :
    rest.length + 1 = xs.length := by
  induction xs generalizing a rest with
  | nil => simp [takeFirst] at h
  | cons x xs ih =>
    unfold takeFirst at h
    split at h
    · obtain ⟨_, rfl⟩ : x = a ∧ xs = rest := by simpa using h
      rfl
    · obtain ⟨a', rest', hx, heq⟩ : ∃ a' rest', takeFirst test xs = some (a', rest') ∧ (a', x :: rest') = (a, rest) := by
        simpa using h
      obtain ⟨-, rfl⟩ : a' = a ∧ x :: rest' = rest := by simpa using heq
      simp [ih hx]

theorem noteDrop_eq (kind : ReportKind) (p : Port) :
    ∃ gap owed, p.noteDrop kind = { p with gap := gap, dropOwed := owed } := by
  unfold Port.noteDrop
  split
  · exact ⟨_, _, rfl⟩
  · exact ⟨_, _, rfl⟩

/-- Queueing a report changes the report queue, within its capacity, and the marks of a gap alone (R183, R184). -/
theorem queue_eq (r : Report) (p : Port) :
    ∃ reports gap owed, p.queue r = { p with reports := reports, gap := gap, dropOwed := owed } ∧
      (p.reports.length ≤ 32 → reports.length ≤ 32) := by
  have dropped (kind : ReportKind) (q : Port) : ∃ reports gap owed,
      q.noteDrop kind = { q with reports := reports, gap := gap, dropOwed := owed } ∧ reports = q.reports := by
    obtain ⟨gap, owed, h⟩ := noteDrop_eq kind q
    exact ⟨q.reports, gap, owed, h, rfl⟩
  unfold Port.queue
  split
  case isTrue => exact ⟨p.reports, p.gap, p.dropOwed, rfl, id⟩
  dsimp only
  split
  case isTrue hroom => exact ⟨_, p.gap, p.dropOwed, rfl, fun _ => by simp; omega⟩
  split
  case isFalse =>
    obtain ⟨reports, gap, owed, h, rfl⟩ := dropped r.kind p
    exact ⟨_, gap, owed, h, id⟩
  split
  case h_1 old rest hfirst =>
    obtain ⟨reports, gap, owed, h, rfl⟩ := dropped old.report.kind { p with reports := rest ++ [⟨r, true⟩] }
    exact ⟨_, gap, owed, h, fun hlen => by have := takeFirst_length hfirst; simp; omega⟩
  case h_2 =>
    obtain ⟨reports, gap, owed, h, rfl⟩ := dropped r.kind p
    exact ⟨_, gap, owed, h, id⟩

/-- A change of the port that leaves its buffers, its latch and its timer as they are. -/
theorem modPort_keeps (f : Port → Port) (s : State) (hrequests : (f s.port).requests = s.port.requests)
    (hreplies : (f s.port).replies = s.port.replies)
    (hreports : s.port.reports.length ≤ 32 → (f s.port).reports.length ≤ 32)
    (hlatch : l.latch = false → s.latchKept → (s.modPort f).latchKept) : Keeps l s (s.modPort f) where
  buffers _ := ⟨hrequests, hreplies⟩
  bounded h := ⟨by simpa [hrequests] using h.1, by simpa [hreplies] using h.2.1, hreports h.2.2⟩
  latch := hlatch

/-- What the latch stands for rests on the latch and the timer of the port. -/
theorem latchKept_of_port (hlatch : t.port.latch = s.port.latch) (hsupervision : t.port.supervision = s.port.supervision)
    (hkilns : t.kilns = s.kilns) (hline : t.line = s.line) (h : s.latchKept) : t.latchKept := by
  simpa [State.latchKept, Port.latchHolds, hlatch, hsupervision, hkilns, hline] using h

theorem queueReport_keeps (r : Report) (s : State) : Keeps l s (queueReport r s) := by
  obtain ⟨reports, gap, owed, hq, hlen⟩ := queue_eq r s.port
  refine modPort_keeps _ s ?_ ?_ (by rw [hq]; exact hlen) (fun _ => latchKept_of_port ?_ ?_ rfl rfl) <;> simp [hq]

theorem queueReport_latchHolds (r : Report) (s : State) : (queueReport r s).port.latchHolds = s.port.latchHolds := by
  obtain ⟨reports, gap, owed, hq, -⟩ := queue_eq r s.port
  simp [queueReport, hq, Port.latchHolds]

/-! ## Changes of blocks that no agreement names -/

theorem modStore_keeps (f : Store → Store) (s : State) : Keeps l s (s.modStore f) := {}

/-! ## Changes of the fault unit -/

/-- A raise keeps a log sound (R164, R165). -/
theorem raised_sound {log : DomainLog} (r : FaultRecord) (counted : Bool) (h : log.sound) : (log.raised r counted).1.sound := by
  obtain ⟨first, next, counter, overflow⟩ := log
  obtain ⟨hcounter, hnext⟩ := h
  dsimp only at hcounter hnext
  by_cases htop : counter < 127
  · cases first <;> cases next <;> cases counted <;> simp [DomainLog.raised, DomainLog.sound, htop] <;> simp_all
  · cases first <;> cases next <;> cases counted <;> simp [DomainLog.raised, DomainLog.sound, htop] <;> simp_all

theorem setLog_keeps (d : Fin 10) (log : DomainLog) (s : State) (h : s.faults.logs[d].sound → log.sound) :
    Keeps l s { s with faults := { s.faults with logs := s.faults.logs.set d log } } where
  faults hs := ⟨fun e => by
    by_cases hde : d = e
    · subst hde; simpa using h (hs.1 d)
    · have hval : d.val ≠ e.val := fun hv => hde (Fin.ext hv)
      simpa [hval] using hs.1 e, hs.2⟩

/-! ## Changes of a kiln and of its controller's items -/

/-- A kiln context and its scan timer agree (R53, R86). -/
def contextSound (c : Kiln) (i : KilnLink) : Prop := c.sound ∧ (i.scanTimer.isSome ↔ c.state.scanning = true)

/-- A change of one kiln and of its controller's items. A kiln that is not running begins to run while the latch holds none. -/
theorem modContext_keeps (k : Fin 6) (f : Kiln → Kiln) (g : KilnLink → KilnLink) (s : State)
    (hsound : contextSound s.kilns[k] s.bus.links[k] → contextSound (f s.kilns[k]) (g s.bus.links[k]))
    (hrun : (f s.kilns[k]).state.running = true → s.kilns[k].state.running = true ∨ s.port.latchHolds = false) :
    Keeps l s ((s.modKiln k f).modLink k g) where
  kilns h j := by
    by_cases hkj : k = j
    · subst hkj; simpa [contextSound] using hsound (h k)
    · simpa [vmod_getElem, hkj] using h j
  latch _ h := ⟨h.1, fun hl => ⟨fun j => by
    by_cases hkj : k = j
    · subst hkj
      have hnot := (h.2 hl).1 k
      have hholds : s.port.latchHolds = true := hl
      rw [Fin.getElem_fin] at hnot hrun
      simp only [modLink_kilns, modKiln_kilns, Fin.getElem_fin, vmod_getElem_self]
      by_contra hr
      simp [hnot, hholds] at hrun
      simp [hrun] at hr
    · simpa [vmod_getElem, hkj] using (h.2 hl).1 j, (h.2 hl).2⟩⟩

theorem vmod_id {α : Type} {n : Nat} (v : Vector α n) (i : Fin n) : vmod v i (fun a => a) = v := by
  simp [vmod]

theorem modLink_keeps (k : Fin 6) (g : KilnLink → KilnLink) (s : State)
    (h : (g s.bus.links[k]).scanTimer.isSome = s.bus.links[k].scanTimer.isSome := by rfl) : Keeps l s (s.modLink k g) := by
  have hk : s.modKiln k (fun c => c) = s := by
    rw [State.modKiln, vmod_id]
  have := modContext_keeps (l := l) k (fun c => c) g s (by simp only [contextSound, h]; exact id) .inl
  rwa [hk] at this

theorem modKiln_keeps (k : Fin 6) (f : Kiln → Kiln) (s : State)
    (hsound : s.kilns[k].sound → (f s.kilns[k]).sound) (hscan : (f s.kilns[k]).state.scanning = s.kilns[k].state.scanning)
    (hrun : (f s.kilns[k]).state.running = true → s.kilns[k].state.running = true ∨ s.port.latchHolds = false) :
    Keeps l s (s.modKiln k f) := by
  have hk : (s.modKiln k f).modLink k (fun i => i) = s.modKiln k f := by
    rw [State.modLink, modKiln_bus, vmod_id]
    rfl
  have := modContext_keeps (l := l) k f (fun i => i) s (fun h => ⟨hsound h.1, by rw [hscan]; exact h.2⟩) hrun
  rwa [hk] at this

/-- A kiln context that differs in nothing that `Kiln.sound` speaks of. -/
def sameShape (c d : Kiln) : Prop :=
  d.state = c.state ∧ d.resume = c.resume ∧ d.level = c.level ∧ d.charge = c.charge ∧ d.drying.isSome = c.drying.isSome

theorem modKiln_keeps_of_sameShape (k : Fin 6) (f : Kiln → Kiln) (s : State) (h : ∀ c, sameShape c (f c) := by exact fun _ => ⟨rfl, rfl, rfl, rfl, rfl⟩) :
    Keeps l s (s.modKiln k f) := by
  obtain ⟨hstate, hresume, hlevel, hcharge, hdrying⟩ := h s.kilns[k]
  refine modKiln_keeps k f s ?_ (by rw [hstate]) (by rw [hstate]; exact .inl)
  simp only [Kiln.sound, hstate, hresume, hlevel, hcharge, hdrying]
  exact id

/-! ## Changes of the poll list -/

theorem pollDue_keeps (hp : l.polls = true) (k : Fin 6) {kind : PollKind} (hkind : kind = .climate ∨ l.scans = true) (s : State) :
    Keeps l s (pollDue k kind s) := by
  unfold pollDue
  split
  case isTrue => exact .refl l s
  case isFalse hnew =>
    refine { apart := fun h => ?_, settled := fun hf => by simp [hp] at hf, scans := fun hf => ?_ }
    · have hnot : (k, kind) ∉ s.bus.pendingPolls.map fun e => (e.kiln, e.kind) := by
        simpa using hnew
      rw [pollsApart, List.map_append]
      exact h.append (List.nodup_singleton _) (by simpa using hnot)
    · obtain rfl | hscans := hkind
      · simp [scansWaiting, List.countP_append]
      · simp [hscans] at hf

/-- A shorter list of polls, or another poll in service. -/
theorem setPolls_keeps (hp : l.polls = true) (polls : List PollEntry) (current : Option CurrentPoll) (s : State)
    (h : polls.Sublist s.bus.pendingPolls) :
    Keeps l s { s with bus := { s.bus with pendingPolls := polls, current := current } } where
  apart hs := hs.sublist (h.map _)
  scans _ := h.countP_le
  settled hf := by simp [hp] at hf

theorem setPoll_keeps (hp : l.polls = true) (p : Option CurrentPoll) (s : State) : Keeps l s (s.setPoll p) :=
  setPolls_keeps hp s.bus.pendingPolls p s (List.Sublist.refl _)

end Sys2Proof.Proofs.Invariants
end

section
/-!
The shared operations (sections 4.10, 7.2, 10.2 and 11) keep the agreements: holds and parks, the line state, a raise, the start of
a transmission, a request that joins the buffer.
-/
namespace Sys2Proof.Proofs.Invariants
open Sys2Proof.Machine
set_option Elab.async false

variable {l : Leave} {s t : State}

/-! ## Holds and parks -/

theorem reportKiln_keeps (k : Fin 6) (cause : KilnCause) (s : State) : Keeps l s (reportKiln k cause s) :=
  queueReport_keeps _ s

/-- A cause of level 1 to 3 leaves a kiln context sound, keeps a scanning state and starts no phase (R71). -/
theorem caused_sound (kind : HoldKind) {level : Nat} (hlevel : 1 ≤ level ∧ level ≤ 3) {c : Kiln} (h : c.sound) :
    (c.caused kind level).sound := by
  obtain ⟨hcharge, hdrying, hresume, hl⟩ := h
  unfold Kiln.caused
  cases hc : c.state <;> cases kind <;> simp_all [Kiln.sound, KilnState.phase?]

theorem caused_scanning (kind : HoldKind) (level : Nat) (c : Kiln) :
    (c.caused kind level).state.scanning = c.state.scanning := by
  unfold Kiln.caused
  cases hc : c.state <;> cases kind <;> simp [hc, KilnState.scanning, KilnState.running, KilnState.phase?, KilnState.held]

/-- No phase runs behind a cause (R71). -/
theorem caused_running (kind : HoldKind) (level : Nat) (c : Kiln) : (c.caused kind level).state.running = false := by
  unfold Kiln.caused
  cases hc : c.state <;> cases kind <;> simp [hc, KilnState.running, KilnState.phase?]

theorem applyCause_keeps (hp : l.polls = true) (k : Fin 6) (kind : HoldKind) {level : Nat} (hlevel : 1 ≤ level ∧ level ≤ 3)
    (cause : KilnCause) (s : State) : Keeps l s (applyCause k kind level cause s) := by
  have hcaused : Keeps l s (s.modKiln k fun _ => s.kilns[k].caused kind level) :=
    modKiln_keeps k _ s (caused_sound kind hlevel) (caused_scanning ..) (fun h => by simp [caused_running] at h)
  unfold applyCause
  dsimp only
  split
  · exact .refl l s
  · have hreport := hcaused.trans (reportKiln_keeps k cause _)
    split
    · exact hreport
    · exact hreport.trans (pollDue_keeps hp k (.inl rfl) _)

theorem applyCauses_keeps (hp : l.polls = true) (kind : HoldKind) {level : Nat} (hlevel : 1 ≤ level ∧ level ≤ 3)
    (cause : KilnCause) (ks : List (Fin 6)) (s : State) : Keeps l s (applyCauses kind level cause ks s) :=
  .foldl ks (fun s k _ => applyCause_keeps hp k kind hlevel cause s) s

/-! ## The line state -/

/-- An output's demand and its pin change together (R106). -/
theorem setDemand_outputs {f : TermFn} {demand : Bool} {line : Line}
    (hown : ∀ t : Fin 16, s.terminals[t].fn = f → ({ s with line := line } : State).drivenLevel t = some demand)
    (hother : ∀ t : Fin 16, s.terminals[t].fn ≠ f → ({ s with line := line } : State).drivenLevel t = s.drivenLevel t)
    (h : s.outputsFollow) : (driveOutput f demand { s with line := line }).outputsFollow := by
  intro t
  have hlevel : (driveOutput f demand { s with line := line }).drivenLevel t =
      ({ s with line := line } : State).drivenLevel t := by
    by_cases hf : s.terminals[t.val].fn = f <;> simp [driveOutput, State.drivenLevel, hf]
  rw [hlevel]
  by_cases hf : s.terminals[t].fn = f
  · rw [hown t hf]
    have hf' : s.terminals[t.val].fn = f := hf
    simp [driveOutput, hf']
  · rw [hother t hf]
    have hf' : s.terminals[t.val].fn ≠ f := hf
    simpa [driveOutput, hf'] using h t

/-- The line enters a state: only BLOCKED has a return state, and only a line that is not at rest, or a latch that holds none, lets
it leave rest (R111, R190). -/
theorem enterLine_keeps (st : LineState) (ret : Option ReturnState) (cause : LineCause) (s : State)
    (hret : ret.isSome ↔ st = .blocked)
    (hrest : st.atRest = true ∨ s.line.state.atRest = false ∨ s.port.latchHolds = false) :
    Keeps l s (enterLine st ret cause s) := by
  refine Keeps.trans (t := driveOutput .lineStop st.stops
    { s with line := { s.line with state := st, returnTo := ret, stopDemand := st.stops } }) ?_ (queueReport_keeps _ _)
  refine { line := fun _ => ⟨rfl, hret⟩, outputs := setDemand_outputs ?_ ?_, latch := fun _ h => ⟨h.1, fun hl => ?_⟩ }
  · intro t ht
    simp only [Fin.getElem_fin] at ht
    simp [State.drivenLevel, ht]
  · intro t ht
    simp only [Fin.getElem_fin] at ht
    cases hfn : s.terminals[t.val].fn <;> simp_all [State.drivenLevel]
  · have hholds : s.port.latchHolds = true := hl
    obtain hst | hnot | hnot := hrest
    · exact ⟨(h.2 hl).1, hst⟩
    · simp [(h.2 hl).2] at hnot
    · simp [hholds] at hnot

theorem trip_keeps (cause : LineCause) (s : State) : Keeps l s (trip cause s) :=
  .ite (fun _ => .refl l s) (fun _ => enterLine_keeps _ _ _ s (by simp) (.inl rfl))

/-! ## A raise -/

theorem severityLevel_bounds (v : Severity) : 1 ≤ v.level ∧ v.level ≤ 3 := by
  cases v <;> decide

theorem applyActions_keeps {d : Domain} (hp : d.kilns = [] ∨ l.polls = true) (r : FaultRecord) (log : DomainLog × Placement)
    (a : ActionSet) (s : State) : Keeps l s (applyActions d r log a s) := by
  have hcauses (kind : HoldKind) (s : State) : Keeps l s (applyCauses kind r.severity.level .fault d.kilns s) := by
    obtain hnone | hpolls := hp
    · rw [hnone]; exact .refl l s
    · exact applyCauses_keeps hpolls kind (severityLevel_bounds _) .fault _ s
  unfold applyActions
  dsimp only
  refine Keeps.trans ?_ (.ite (fun _ => trip_keeps .fault _) (fun _ => .refl l _))
  generalize hlogged : ite (a.report = true) _ s = logged
  have hreport : Keeps l s logged := by
    rw [← hlogged]
    exact .ite (fun _ => queueReport_keeps _ s) (fun _ => .refl l s)
  split
  · exact hreport.trans (hcauses _ _)
  · exact hreport

/-- A raise keeps every agreement; only one that reaches kilns makes polls fall due (R162 to R169). -/
theorem raise_keeps {d : Domain} (hp : d.kilns = [] ∨ l.polls = true) (kind : FaultKind) (x : FaultContext) (s : State) :
    Keeps l s (raise kind d x s) := by
  unfold raise
  dsimp only
  refine .ite (fun _ => .refl l s) (fun _ => ?_)
  refine Keeps.trans (setLog_keeps d.index _ s (raised_sound _ _)) (.ite (fun _ => .refl l _) (fun _ => ?_))
  exact applyActions_keeps hp _ _ _ _

theorem raiseKiln_keeps (hp : l.polls = true) (kind : FaultKind) (k : Fin 6) (s : State) : Keeps l s (raiseKiln kind k s) :=
  raise_keeps (.inr hp) kind _ s

theorem raiseLine_keeps (kind : FaultKind) (board charge : Option Nat) (position : Nat) (s : State) :
    Keeps l s (raiseLine kind board charge position s) :=
  raise_keeps (.inl rfl) kind _ s

theorem raisePacking_keeps (kind : FaultKind) (pack : Option Nat) (s : State) : Keeps l s (raisePacking kind pack s) :=
  raise_keeps (.inl rfl) kind _ s

theorem takeOwed_keeps (s : State) : Keeps l s (takeOwed s) := by
  unfold takeOwed
  split
  · exact .refl l s
  · exact (modPort_keeps _ s rfl rfl id fun _ => id).trans (raise_keeps (.inl rfl) _ _ _)

/-! ## The transmitter, replies and the request buffer -/

/-- Beginning a frame takes it from its queue, and leaves the rest of the port as it is (R182). -/
theorem begin_eq (p : Port) :
    ∃ sending replies reports gap, p.begin = { p with sending := sending, replies := replies, reports := reports, gap := gap } ∧
      replies.length ≤ p.replies.length ∧ reports.length ≤ p.reports.length := by
  unfold Port.begin
  split
  · exact ⟨_, _, _, _, rfl, le_rfl, le_rfl⟩
  split
  case h_1 f rest hreplies => exact ⟨_, _, _, _, rfl, by simp [hreplies], le_rfl⟩
  case h_2 hreplies =>
    split
    · exact ⟨_, _, _, _, rfl, le_rfl, le_rfl⟩
    split
    case h_1 e rest hfirst =>
      exact ⟨_, _, _, _, rfl, le_rfl, by have := takeFirst_length hfirst; omega⟩
    case h_2 e rest hfirst hreports => exact ⟨_, _, _, _, rfl, le_rfl, by simp [hreports]⟩
    case h_3 => exact ⟨_, _, _, _, rfl, le_rfl, le_rfl⟩

theorem begin_same_or_sending (p : Port) : p.begin = p ∨ p.begin.sending.isSome = true := by
  rw [Port.begin]
  split
  · exact .inl rfl
  split
  · exact .inr rfl
  split
  · exact .inl rfl
  split
  · exact .inr rfl
  · exact .inr rfl
  · exact .inl rfl

/-- A begun transmitter has nothing further to begin (R182). -/
theorem begin_begin (p : Port) : p.begin.begin = p.begin := by
  obtain hsame | hsending := begin_same_or_sending p
  · rw [hsame, hsame]
  · simp [Port.begin.eq_1 p.begin, hsending]

theorem beginTransmit_keeps (hr : l.reply = true) (s : State) : Keeps l s (beginTransmit s) := by
  obtain ⟨sending, replies, reports, gap, hb, hreplies, hreports⟩ := begin_eq s.port
  refine { buffers := fun hf => by simp [hr] at hf, bounded := ?_, latch := fun _ => latchKept_of_port ?_ ?_ rfl rfl }
  · rintro ⟨h1, h2, h3⟩
    simp only [beginTransmit, modPort_port, hb]
    exact ⟨h1, hreplies.trans h2, hreports.trans h3⟩
  · simp [beginTransmit, hb]
  · simp [beginTransmit, hb]

theorem beginTransmit_transmits (s : State) : (beginTransmit s).port.transmits := begin_begin s.port

theorem pushReply_keeps (hr : l.reply = true) (f : Frame) (s : State) (hroom : s.port.replies.length < 4) :
    Keeps l s (pushReply f s) where
  buffers hf := by simp [hr] at hf
  bounded h := ⟨h.1, by simpa [pushReply] using hroom, h.2.2⟩

theorem joinRequests_keeps (hr : l.reply = true) (f : Frame) (s : State) : Keeps l s (joinRequests f s) := by
  refine .ite (fun hroom => ?_) (fun _ => raise_keeps (.inl rfl) _ _ s)
  exact { buffers := fun hf => by simp [hr] at hf, bounded := fun h => ⟨by simpa using hroom, h.2⟩ }

/-! ## Events and requests -/

theorem event_keeps (hr : l.reply = true) {f : State → State} (hf : ∀ s, Keeps l s (f s)) (s : State) :
    Keeps l s (event f s) :=
  ((takeOwed_keeps s).trans (hf _)).trans (beginTransmit_keeps hr _)

/-- An act that leaves the reply queue as it is, answered where the queue has room (R180). -/
theorem answer_keeps (hr : l.reply = true) (kind tag : Byte) {act : State → State × List Byte} {s : State}
    (hact : Keeps { l with reply := false } s (act s).1) (hroom : s.port.replies.length < 4) :
    Keeps l s (answer kind tag act s) := by
  have hown : Keeps l s (act s).1 := { hact with buffers := fun hf => by simp [hr] at hf }
  exact hown.trans (pushReply_keeps hr _ _ (by rw [(hact.buffers rfl).2]; exact hroom))

theorem canTake_room {p : Port} (h : p.canTake = true) : p.replies.length < 4 := by
  simp [Port.canTake] at h
  exact h.1

theorem request_keeps (hr : l.reply = true) (kind tag : Byte) (payload : List Byte) {act : State → State × List Byte}
    (hact : ∀ s, Keeps { l with reply := false } s (act s).1) (s : State) :
    Keeps l s (request kind tag payload act s) := by
  refine event_keeps hr (fun s => .ite (fun htake => ?_) (fun _ => joinRequests_keeps hr _ s)) s
  simp only [Bool.and_eq_true] at htake
  exact answer_keeps hr kind tag (hact s) (canTake_room htake.1)

end Sys2Proof.Proofs.Invariants
end

section
/-!
The charge table and the balance of the boards (sections 3.1 to 3.4): the record of a number, and what a change of the records, of
the tracking queue and of the hold list must do together to keep the balance.
-/
namespace Sys2Proof.Proofs.Invariants
open Sys2Proof.Machine
set_option Elab.async false

variable {l : Leave} {s t : State}

/-! ## The record of a number (R35) -/

/-- A record in use. -/
def holdsRecord (s : State) (c : ChargeRecord) : Prop := ∃ i : Fin 12, s.charges.records[i] = some c

theorem holdsRecord_iff_mem {c : ChargeRecord} : holdsRecord s c ↔ some c ∈ s.charges.records.toList := by
  rw [Vector.mem_toList_iff, Vector.mem_iff_getElem]
  exact ⟨fun ⟨i, h⟩ => ⟨i.val, i.isLt, h⟩, fun ⟨i, hi, h⟩ => ⟨⟨i, hi⟩, h⟩⟩

theorem holdsRecord_of_charge? {n : Nat} {c : ChargeRecord} (h : s.charge? n = some c) : holdsRecord s c ∧ c.number = n := by
  obtain ⟨o, ho, hc⟩ := List.exists_of_findSome?_eq_some h
  cases o with
  | none => simp at hc
  | some d =>
    obtain ⟨hn, rfl⟩ : d.number = n ∧ d = c := by simpa using hc
    exact ⟨holdsRecord_iff_mem.2 ho, hn⟩

theorem charge?_isSome_iff {n : Nat} : (s.charge? n).isSome = true ↔ ∃ c, holdsRecord s c ∧ c.number = n := by
  constructor
  · intro h
    obtain ⟨c, hc⟩ := Option.isSome_iff_exists.1 h
    exact ⟨c, holdsRecord_of_charge? hc⟩
  · rintro ⟨c, hc, hn⟩
    rw [State.charge?, List.findSome?_isSome_iff]
    exact ⟨some c, holdsRecord_iff_mem.1 hc, by simp [hn]⟩

/-- Records apart by their numbers are one record where the numbers are one. -/
theorem numbersApart_unique (h : s.numbersApart) {c d : ChargeRecord} (hc : holdsRecord s c) (hd : holdsRecord s d)
    (hn : c.number = d.number) : c = d := by
  obtain ⟨i, hi⟩ := hc
  obtain ⟨j, hj⟩ := hd
  obtain rfl := h i j c d hi hj hn
  simpa using hi.symm.trans hj

theorem charge?_eq_some_iff (h : s.numbersApart) {n : Nat} {c : ChargeRecord} :
    s.charge? n = some c ↔ holdsRecord s c ∧ c.number = n := by
  refine ⟨holdsRecord_of_charge?, fun ⟨hc, hn⟩ => ?_⟩
  obtain ⟨d, hd⟩ := Option.isSome_iff_exists.1 (charge?_isSome_iff.2 ⟨c, hc, hn⟩)
  obtain ⟨hd', hdn⟩ := holdsRecord_of_charge? hd
  rw [hd, numbersApart_unique h hd' hc (hdn.trans hn.symm)]

/-! ## Records changed in place -/

/-- The records of `t` are those of `s`, each through `g`, which keeps its number. -/
structure RecordsMap (g : ChargeRecord → ChargeRecord) (s t : State) : Prop where
  number : ∀ c, (g c).number = c.number
  records : t.charges.records = vmap (Option.map g) s.charges.records

variable {g : ChargeRecord → ChargeRecord}

theorem RecordsMap.eq_map (h : RecordsMap g s t) (i : Fin 12) :
    t.charges.records[i] = s.charges.records[i].map g := by
  rw [h.records]
  exact vmap_getElem _ _ i.val i.isLt

theorem RecordsMap.holdsRecord_iff (h : RecordsMap g s t) {d : ChargeRecord} :
    holdsRecord t d ↔ ∃ c, holdsRecord s c ∧ g c = d := by
  constructor
  · rintro ⟨i, hi⟩
    rw [h.eq_map] at hi
    obtain ⟨c, hc, rfl⟩ := Option.map_eq_some_iff.1 hi
    exact ⟨c, ⟨i, hc⟩, rfl⟩
  · rintro ⟨c, ⟨i, hi⟩, rfl⟩
    exact ⟨i, by rw [h.eq_map, hi]; rfl⟩

theorem RecordsMap.charge?_isSome (h : RecordsMap g s t) (n : Nat) : (t.charge? n).isSome = (s.charge? n).isSome := by
  rw [Bool.eq_iff_iff, charge?_isSome_iff, charge?_isSome_iff]
  constructor
  · rintro ⟨d, hd, hn⟩
    obtain ⟨c, hc, rfl⟩ := h.holdsRecord_iff.1 hd
    exact ⟨c, hc, (h.number c).symm.trans hn⟩
  · rintro ⟨c, hc, hn⟩
    exact ⟨g c, h.holdsRecord_iff.2 ⟨c, hc, rfl⟩, (h.number c).trans hn⟩

theorem RecordsMap.numbersApart (h : RecordsMap g s t) (hs : s.numbersApart) : t.numbersApart := by
  intro i j c d hi hj hn
  rw [h.eq_map] at hi hj
  obtain ⟨c', hc', rfl⟩ := Option.map_eq_some_iff.1 hi
  obtain ⟨d', hd', rfl⟩ := Option.map_eq_some_iff.1 hj
  exact hs i j c' d' hc' hd' (by simpa [h.number] using hn)

theorem RecordsMap.modCharge {f : ChargeRecord → ChargeRecord} (hf : ∀ c, (f c).number = c.number) (n : Nat) (s : State) :
    RecordsMap (fun c => if c.number = n then f c else c) s (s.modCharge n f) where
  number c := by split <;> simp [hf]
  records := rfl

theorem RecordsMap.id (s t : State) (h : t.charges.records = s.charges.records) : RecordsMap (fun c => c) s t where
  number _ := rfl
  records := by
    rw [h]
    apply Vector.ext
    intro i hi
    simp

/-! ## The balance -/

/-- The decided and the untracked boards of a record (R35). -/
def settledCount (c : ChargeRecord) : Nat :=
  c.counts.accepted + c.counts.redry + c.counts.rejected + c.counts.unmeasured + c.counts.untracked

/-- A record agrees with the boards of its number (R46 to R48). -/
def recordSound (s : State) (c : ChargeRecord) : Prop :=
  c.inFlight = s.boardsOf c.number ∧ c.counts.entered = settledCount c + s.pendingOf c.number

/-- A board of the queue has its record, one of no charge is REJECT NO_CHARGE, and one that spans a gate is decided. -/
def boardSound (s : State) (b : Board) : Prop :=
  (∀ n, b.charge = some n → (s.charge? n).isSome = true) ∧ (b.charge = none → b.decision = .reject .noCharge) ∧
    (b.spansRedry = true ∨ b.spansReject = true → b.decision ≠ .pending)

theorem boardsSound_iff : s.boardsSound ↔ s.numbersApart ∧ (∀ c, holdsRecord s c → recordSound s c) ∧
    (∀ b ∈ s.line.queue, boardSound s b) ∧ ∀ h ∈ s.packs.held, (s.charge? h.charge).isSome = true := by
  refine and_congr_right' (and_congr_left' ⟨fun h c ⟨i, hi⟩ => h i c hi, fun h i c hi => h c ⟨i, hi⟩⟩)

/-- No entered count stands at its top. -/
def enteredBelowTop (s : State) : Prop := ∀ c, holdsRecord s c → c.counts.entered < 4294967295

theorem boardsKept_iff : boardsKept s ↔ s.boardsSound ∧ enteredBelowTop s :=
  and_congr_right' ⟨fun h c ⟨i, hi⟩ => h i c hi, fun h i c hi => h c ⟨i, hi⟩⟩

/-- Records, queue and hold list change together: each record agrees with its boards again, and the boards now in the queue and in
the hold list have their records. -/
theorem boardsSound_map (hmap : RecordsMap g s t) (hs : s.boardsSound)
    (hrecords : ∀ c, holdsRecord s c → recordSound s c → recordSound t (g c))
    (hqueue : ∀ b ∈ t.line.queue, boardSound s b) (hheld : ∀ h ∈ t.packs.held, (s.charge? h.charge).isSome = true) :
    t.boardsSound := by
  obtain ⟨hapart, hsound, -, -⟩ := boardsSound_iff.1 hs
  refine boardsSound_iff.2 ⟨hmap.numbersApart hapart, fun d hd => ?_, fun b hb => ?_, fun h hh => ?_⟩
  · obtain ⟨c, hc, rfl⟩ := hmap.holdsRecord_iff.1 hd
    exact hrecords c hc (hsound c hc)
  · exact ⟨fun n hn => (hmap.charge?_isSome n).trans ((hqueue b hb).1 n hn), (hqueue b hb).2⟩
  · exact (hmap.charge?_isSome _).trans (hheld h hh)

theorem enteredBelowTop_map (hmap : RecordsMap g s t) (hg : ∀ c, (g c).counts.entered = c.counts.entered)
    (h : enteredBelowTop s) : enteredBelowTop t := by
  intro d hd
  obtain ⟨c, hc, rfl⟩ := hmap.holdsRecord_iff.1 hd
  rw [hg]
  exact h c hc

/-- Records, queue and hold list as they were. -/
theorem boardsKept_congr (hrecords : t.charges.records = s.charges.records) (hqueue : t.line.queue = s.line.queue)
    (hheld : t.packs.held = s.packs.held) (h : boardsKept s) : boardsKept t := by
  obtain ⟨hs, htop⟩ := boardsKept_iff.1 h
  have hmap := RecordsMap.id s t hrecords
  obtain ⟨-, -, hq, hh⟩ := boardsSound_iff.1 hs
  refine boardsKept_iff.2 ⟨boardsSound_map hmap hs (fun c _ hc => ?_) (by rwa [hqueue]) (by rwa [hheld]),
    enteredBelowTop_map hmap (fun _ => rfl) htop⟩
  simpa [recordSound, State.boardsOf, State.pendingOf, hqueue, hheld] using hc

/-! ## Changes of records that no board brings -/

/-- A change of a record that keeps its number, its planer counts and its in-flight count. -/
def boardNeutral (f : ChargeRecord → ChargeRecord) : Prop :=
  ∀ c, (f c).number = c.number ∧ (f c).counts = c.counts ∧ (f c).inFlight = c.inFlight

theorem modCharge_keeps {f : ChargeRecord → ChargeRecord} (hf : boardNeutral f) (n : Nat) (s : State) :
    Keeps l s (s.modCharge n f) where
  boards _ h := by
    obtain ⟨hs, htop⟩ := boardsKept_iff.1 h
    obtain ⟨-, -, hqueue, hheld⟩ := boardsSound_iff.1 hs
    have hmap := RecordsMap.modCharge (fun c => (hf c).1) n s
    refine boardsKept_iff.2 ⟨boardsSound_map hmap hs (fun c _ hc => ?_) hqueue hheld, enteredBelowTop_map hmap (fun c => ?_) htop⟩
    · split
      · simpa [recordSound, settledCount, hf c, State.boardsOf, State.pendingOf] using hc
      · exact hc
    · split <;> simp [hf c]

theorem changeCharge_keeps {f : ChargeRecord → ChargeRecord} (hf : boardNeutral f) (n : Nat) (s : State) :
    Keeps l s (changeCharge n f s) := by
  unfold changeCharge
  dsimp only
  split
  · exact (modCharge_keeps hf n s).trans (queueReport_keeps _ _)
  · exact modCharge_keeps hf n s

theorem changeHeld_keeps {f : ChargeRecord → ChargeRecord} (hf : boardNeutral f) (k : Fin 6) (s : State) :
    Keeps l s (changeHeld k f s) := by
  unfold changeHeld
  split
  · exact changeCharge_keeps hf _ s
  · exact .refl l s

/-- The redry tally is no part of the balance. -/
theorem setTally_keeps (tally : Vector Nat 8) (s : State) :
    Keeps l s { s with charges := { s.charges with tally := tally } } where
  boards _ := boardsKept_congr rfl rfl rfl

/-! ## Records that leave (R43) -/

theorem countP_eq_zero_of_boardsOf {n : Nat} (h : s.boardsOf n = 0) :
    (∀ b ∈ s.line.queue, b.charge ≠ some n) ∧ ∀ h ∈ s.packs.held, h.charge ≠ n := by
  simpa [State.boardsOf, List.countP_eq_zero] using h

/-- Records that hold no board in flight may leave their positions. -/
theorem boardsKept_drop {leaves : ChargeRecord → Bool} (hs : boardsKept s)
    (hrecords : t.charges.records = vmap (fun o => o.bind fun c => if leaves c then none else some c) s.charges.records)
    (hnone : ∀ c, holdsRecord s c → leaves c = true → c.inFlight = 0) (hqueue : t.line.queue = s.line.queue)
    (hheld : t.packs.held = s.packs.held) : boardsKept t := by
  obtain ⟨hsound, htop⟩ := boardsKept_iff.1 hs
  obtain ⟨hapart, hrec, hq, hh⟩ := boardsSound_iff.1 hsound
  have heq (i : Fin 12) : t.charges.records[i] = s.charges.records[i].bind fun c => if leaves c then none else some c := by
    rw [hrecords]
    exact vmap_getElem _ _ i.val i.isLt
  have hiff (i : Fin 12) (c : ChargeRecord) : t.charges.records[i] = some c ↔ s.charges.records[i] = some c ∧ leaves c = false := by
    rw [heq, Option.bind_eq_some_iff]
    constructor
    · rintro ⟨d, hd, hdc⟩
      cases hleaves : leaves d <;> simp_all
    · rintro ⟨hc, hl⟩
      exact ⟨c, hc, by simp [hl]⟩
  have hstays {n : Nat} (hn : (s.charge? n).isSome = true) (hboard : s.boardsOf n ≠ 0) : (t.charge? n).isSome = true := by
    obtain ⟨c, ⟨i, hi⟩, rfl⟩ := charge?_isSome_iff.1 hn
    refine charge?_isSome_iff.2 ⟨c, ⟨i, (hiff i c).2 ⟨hi, ?_⟩⟩, rfl⟩
    by_contra hleaves
    exact hboard ((hrec c ⟨i, hi⟩).1.symm.trans (hnone c ⟨i, hi⟩ (by simpa using hleaves)))
  refine boardsKept_iff.2 ⟨boardsSound_iff.2 ⟨?_, ?_, ?_, ?_⟩, ?_⟩
  · exact fun i j c d hi hj => hapart i j c d ((hiff i c).1 hi).1 ((hiff j d).1 hj).1
  · rintro c ⟨i, hi⟩
    simpa [recordSound, State.boardsOf, State.pendingOf, hqueue, hheld] using hrec c ⟨i, ((hiff i c).1 hi).1⟩
  · intro b hb
    rw [hqueue] at hb
    exact ⟨fun n hn => hstays ((hq b hb).1 n hn) fun h0 => (countP_eq_zero_of_boardsOf h0).1 b hb hn, (hq b hb).2⟩
  · intro h hmem
    rw [hheld] at hmem
    exact hstays (hh h hmem) fun h0 => (countP_eq_zero_of_boardsOf h0).2 h hmem rfl
  · rintro c ⟨i, hi⟩
    exact htop c ⟨i, ((hiff i c).1 hi).1⟩

theorem dropCharge_keeps (n : Nat) (s : State) (h : ∀ c, holdsRecord s c → c.number = n → s.numbersApart → c.inFlight = 0) :
    Keeps l s (s.dropCharge n) where
  boards _ hs := boardsKept_drop (leaves := fun c => decide (c.number = n)) hs (by simp [State.dropCharge])
    (fun c hc hn => h c hc (by simpa using hn) hs.1.1) rfl rfl

theorem freeTest_keeps (n : Nat) (s : State) : Keeps l s (freeTest n s) := by
  unfold freeTest
  split
  case h_2 => exact .refl l s
  case h_1 c hc =>
    refine .ite (fun hfree => ?_) (fun _ => .refl l s)
    refine (dropCharge_keeps n s fun d hd hn hapart => ?_).trans (queueReport_keeps _ _)
    obtain ⟨hcr, hcn⟩ := holdsRecord_of_charge? hc
    obtain rfl := numbersApart_unique hapart hd hcr (hn.trans hcn.symm)
    simp only [ChargeRecord.freeable, Bool.and_eq_true, decide_eq_true_eq] at hfree
    exact hfree.1.2

theorem freeTests_keeps (numbers : List Nat) (s : State) : Keeps l s (freeTests numbers s) :=
  .foldl numbers (fun s n _ => freeTest_keeps n s) s

end Sys2Proof.Proofs.Invariants
end

section
/-!
The kiln unit, the field bus controller and the supervision timer (chapters 4 and 5, section 11.6) keep the agreements.
-/
namespace Sys2Proof.Proofs.Invariants
open Sys2Proof.Machine
set_option Elab.async false

variable {l : Leave} {s t : State}

/-! ## Kiln contexts by their state -/

theorem modDrying_keeps (k : Fin 6) (f : DryingRun → DryingRun) (s : State) : Keeps l s (s.modDrying k f) :=
  modKiln_keeps_of_sameShape k _ s fun c => ⟨rfl, rfl, rfl, rfl, by simp⟩

theorem modSamples_keeps (k : Fin 6) (f : Kiln → Vector (Option Sample) 8) (s : State) :
    Keeps l s (s.modKiln k fun c => { c with samples := f c }) :=
  modKiln_keeps_of_sameShape k _ s

/-- A running phase gives way to another (R65, R67, R68). -/
theorem phase_sound {c : Kiln} {st : KilnState} {drying : Option DryingRun} (hc : c.state.running = true)
    (hst : st.running = true) (hdrying : drying.isSome = c.drying.isSome) (remaining : Option Nat) (h : c.sound) :
    ({ c with state := st, drying := drying, conditionRemaining := remaining } : Kiln).sound := by
  cases hcs : c.state <;> simp [hcs, KilnState.running, KilnState.phase?] at hc <;>
    cases st <;> simp [KilnState.running, KilnState.phase?] at hst <;> simp_all [Kiln.sound]

theorem scanning_of_running {st : KilnState} (h : st.running = true) : st.scanning = true := by
  simp [KilnState.scanning, h]

/-! ## Figures -/

theorem testSamplesLost_keeps (hp : l.polls = true) (k : Fin 6) (s : State) : Keeps l s (testSamplesLost k s) := by
  have hset (lost : Bool) : Keeps l s (s.modKiln k fun c => { c with samplesLost := lost }) :=
    modKiln_keeps_of_sameShape k _ s
  unfold testSamplesLost
  dsimp only
  exact .ite (fun _ => hset false) fun _ =>
    .ite (fun _ => (hset true).trans (raiseKiln_keeps hp _ k _)) fun _ => .refl l s

theorem formFigures_keeps (hp : l.polls = true) (k : Fin 6) (s : State) : Keeps l s (formFigures k s) :=
  Keeps.trans (Keeps.trans (modKiln_keeps_of_sameShape k _ s) (testSamplesLost_keeps hp k _))
    (queueReport_keeps _ _)

/-! ## Steps and phases -/

/-- A step advance of a kiln in RUN (R65, R67). -/
theorem advanceStep_keeps {k : Fin 6} (cause : StepCause) {s : State} (hrun : s.kilns[k].state = .run) :
    Keeps l s (advanceStep k cause s) := by
  have hrunning : s.kilns[k].state.running = true := by rw [hrun]; rfl
  unfold advanceStep
  split
  · exact .refl l s
  split
  · exact (modDrying_keeps k _ s).trans (queueReport_keeps _ _)
  · refine ((modKiln_keeps k _ s ?_ ?_ ?_).trans (queueReport_keeps _ _)).trans (queueReport_keeps _ _)
    · exact phase_sound hrunning rfl (by simp) _
    · rw [scanning_of_running hrunning]; rfl
    · exact fun _ => .inl hrunning

/-- The charge side of an event reads nothing of the controller's items. -/
theorem changeHeld_modLink (k : Fin 6) (f : ChargeRecord → ChargeRecord) (g : KilnLink → KilnLink) (s : State) :
    changeHeld k f (s.modLink k g) = (changeHeld k f s).modLink k g := by
  unfold changeHeld
  rw [modLink_kilns]
  cases s.kilns[k].charge with
  | none => rfl
  | some n =>
    have hc : ((s.modLink k g).modCharge n f).charge? n = (s.modCharge n f).charge? n := rfl
    simp only [changeCharge, hc]
    cases (s.modCharge n f).charge? n <;> rfl

/-- Entry to DONE from a running phase (R69). -/
theorem enterDone_keeps (hp : l.polls = true) {k : Fin 6} {s : State} (hrunning : s.kilns[k].state.running = true) :
    Keeps l s (enterDone k s) := by
  unfold enterDone
  dsimp only
  refine Keeps.trans ?_ (pollDue_keeps hp k (.inl rfl) _)
  have hswap (cause : KilnCause) (g : KilnLink → KilnLink) (s : State) :
      (reportKiln k cause s).modLink k g = reportKiln k cause (s.modLink k g) := rfl
  rw [hswap, ← changeHeld_modLink]
  refine Keeps.trans (Keeps.trans (modContext_keeps k _ _ s ?_ ?_) (changeHeld_keeps ?_ k _)) (reportKiln_keeps k _ _)
  · rintro ⟨hsound, -⟩
    refine ⟨?_, by simp [KilnState.scanning, KilnState.running, KilnState.phase?, KilnState.held]⟩
    cases hcs : s.kilns[k].state <;> simp [KilnState.running, KilnState.phase?] at hrunning <;>
      simp_all [Kiln.sound]
  · exact fun h => by simp [KilnState.running, KilnState.phase?] at h
  · exact fun _ => ⟨rfl, rfl, rfl⟩

/-- Entry to CONDITION from a running phase (R68). -/
theorem enterCondition_keeps (hp : l.polls = true) {k : Fin 6} {s : State} (hrunning : s.kilns[k].state.running = true) :
    Keeps l s (enterCondition k s) := by
  unfold enterCondition
  split
  · exact .refl l s
  · dsimp only
    refine Keeps.trans ((modKiln_keeps k _ s ?_ ?_ ?_).trans (reportKiln_keeps k _ _)) (.ite (fun _ => ?_) fun _ => .refl l _)
    · exact phase_sound hrunning rfl (by simp) _
    · rw [scanning_of_running hrunning]; rfl
    · exact fun _ => .inl hrunning
    · exact enterDone_keeps hp (by simp [KilnState.running, KilnState.phase?])

/-! ## The minute tick -/

/-- A part of the tick after the parts before it. -/
theorem inStates_keeps {k : Fin 6} {test : KilnState → Bool} {f : State → State} (hst : Keeps l s t)
    (h : test t.kilns[k].state = true → Keeps l t (f t)) : Keeps l s (inStates k test f t) :=
  hst.trans (.ite h fun _ => .refl l t)

theorem testOvertime_keeps (hp : l.polls = true) (k : Fin 6) (s : State) : Keeps l s (testOvertime k s) := by
  unfold testOvertime
  split
  · exact .refl l s
  split
  · exact .refl l s
  · exact .ite (fun _ => (modDrying_keeps k _ s).trans (raiseKiln_keeps hp _ k _)) fun _ => .refl l s

theorem testTimeLeave_keeps {k : Fin 6} {s : State} (hrun : s.kilns[k].state = .run) : Keeps l s (testTimeLeave k s) := by
  unfold testTimeLeave
  split
  · exact .refl l s
  split
  · exact .refl l s
  split
  · exact .ite (fun _ => advanceStep_keeps _ hrun) fun _ => .refl l s
  · exact .refl l s

theorem countDeviation_keeps (hp : l.polls = true) (k : Fin 6) (s : State) : Keeps l s (countDeviation k s) := by
  have hset (f : Kiln → Nat) : Keeps l s (s.modKiln k fun c => { c with deviation := f c }) :=
    modKiln_keeps_of_sameShape k _ s
  unfold countDeviation
  dsimp only
  split
  case h_2 => exact .refl l s
  case h_1 =>
    exact .ite (fun _ => .refl l s) fun _ =>
      .ite (fun _ => .ite (fun _ => (hset fun _ => 0).trans (raiseKiln_keeps hp _ k _)) fun _ => hset _) fun _ => hset _

theorem countCondition_keeps (hp : l.polls = true) {k : Fin 6} {s : State} (hstate : s.kilns[k].state = .condition) :
    Keeps l s (countCondition k s) := by
  unfold countCondition
  split
  · exact .refl l s
  · refine Keeps.trans (modKiln_keeps_of_sameShape k _ s)
      (.ite (fun _ => enterDone_keeps hp ?_) fun _ => .refl l _)
    rw [Fin.getElem_fin] at hstate
    simp [hstate, KilnState.running, KilnState.phase?]

theorem minuteTick_keeps (hp : l.polls = true) (k : Fin 6) (s : State) : Keeps l s (minuteTick k s) := by
  unfold minuteTick
  dsimp only
  refine inStates_keeps (inStates_keeps (inStates_keeps (inStates_keeps (inStates_keeps
    (modKiln_keeps_of_sameShape k Kiln.aged s) ?ramp) ?overtime) ?leave) ?deviation) ?condition
  case ramp => exact fun _ => modDrying_keeps k _ _
  case overtime => exact fun _ => testOvertime_keeps hp k _
  case leave => exact fun h => testTimeLeave_keeps (of_decide_eq_true h)
  case deviation => exact fun _ => countDeviation_keeps hp k _
  case condition => exact fun h => countCondition_keeps hp (of_decide_eq_true h)

/-! ## Results of the field bus -/

theorem deliverReading_keeps (hp : l.polls = true) (k : Fin 6) (p : Fin 8) (w : Nat) (s : State) :
    Keeps l s (deliverReading k p w s) := by
  unfold deliverReading
  split
  · exact .refl l s
  · exact ((modSamples_keeps k _ s).trans (.ite (fun _ => raiseKiln_keeps hp _ k _) fun _ => .refl l _)).trans
      (.ite (fun _ => raiseKiln_keeps hp _ k _) fun _ => .refl l _)

theorem testMCLeave_keeps {k : Fin 6} {s : State} (hrun : s.kilns[k].state = .run) : Keeps l s (testMCLeave k s) := by
  unfold testMCLeave
  dsimp only
  split
  case h_2 => exact .refl l s
  split
  · exact .ite (fun _ => advanceStep_keeps _ hrun) fun _ => .refl l s
  · exact .refl l s

theorem testEqualiseEnd_keeps (hp : l.polls = true) {k : Fin 6} {s : State} (hstate : s.kilns[k].state = .equalise) :
    Keeps l s (testEqualiseEnd k s) := by
  unfold testEqualiseEnd
  dsimp only
  split
  · exact .ite (fun _ => enterCondition_keeps hp (by rw [hstate]; rfl)) fun _ => .refl l s
  · exact .refl l s

theorem completeScan_keeps (hp : l.polls = true) (k : Fin 6) (s : State) : Keeps l s (completeScan k s) := by
  unfold completeScan
  dsimp only
  refine (formFigures_keeps hp k s).trans ?_
  split
  · exact testMCLeave_keeps ‹_›
  · exact testEqualiseEnd_keeps hp ‹_›
  · exact .refl l _

theorem deliverClimate_keeps (hp : l.polls = true) (k : Fin 6) (dryBulb wetBulb : Int) (status : Byte) (s : State) :
    Keeps l s (deliverClimate k dryBulb wetBulb status s) :=
  (modKiln_keeps_of_sameShape k _ s).trans
    (.ite (fun _ => raiseKiln_keeps hp _ k _) fun _ => .refl l _)

/-! ## The controller -/

theorem settleGood_keeps (p : CurrentPoll) (s : State) : Keeps l s (settleGood p s) := by
  unfold settleGood
  dsimp only
  exact .ite (fun _ => .refl l s) fun _ =>
    (modLink_keeps _ _ s).trans (.ite (fun _ => queueReport_keeps _ _) fun _ => .refl l _)

theorem settleFailed_keeps (hp : l.polls = true) (p : CurrentPoll) (s : State) : Keeps l s (settleFailed p s) := by
  unfold settleFailed
  exact .ite (fun _ => .refl l s) fun _ => .ite
    (fun _ => ((modLink_keeps _ _ s).trans (modKiln_keeps_of_sameShape _ _ _)).trans
      (raiseKiln_keeps hp _ _ _))
    fun _ => modLink_keeps _ _ s

theorem beginPoll_keeps (hp : l.polls = true) (e : PollEntry) (s : State) : Keeps l s (beginPoll e s) := by
  unfold beginPoll
  dsimp only
  split
  · exact setPoll_keeps hp _ s
  · refine .ite (fun _ => ?_) fun _ => .refl l s
    split
    · exact (completeScan_keeps hp _ s).trans (settleGood_keeps _ _)
    · exact setPoll_keeps hp _ s

theorem serveUpTo_keeps (hp : l.polls = true) (n : Nat) (s : State) : Keeps l s (serveUpTo n s) := by
  induction n generalizing s with
  | zero => exact .refl l s
  | succ n ih =>
    unfold serveUpTo
    split
    case h_2 => exact .refl l s
    case h_1 e rest _ hpolls =>
      have hrest : Keeps l s { s with bus := { s.bus with pendingPolls := rest } } :=
        setPolls_keeps hp rest s.bus.current s (by simp [hpolls])
      exact (hrest.trans (beginPoll_keeps hp e _)).trans (ih _)

theorem endPoll_keeps (hp : l.polls = true) (good : Bool) (p : CurrentPoll) (s : State) : Keeps l s (endPoll good p s) :=
  Keeps.trans (.ite (fun _ => settleGood_keeps p s) fun _ => settleFailed_keeps hp p s) (setPoll_keeps hp none _)

theorem climateSecond_keeps (hp : l.polls = true) (k : Fin 6) (s : State) : Keeps l s (climateSecond k s) :=
  .ite (fun _ => (modLink_keeps k _ s).trans (pollDue_keeps hp k (.inl rfl) _)) fun _ => modLink_keeps k _ s

theorem climateDue_keeps (hp : l.polls = true) (k : Fin 6) (s : State) : Keeps l s (climateDue k s) :=
  (modLink_keeps k _ s).trans (pollDue_keeps hp k (.inl rfl) _)

theorem scanMinute_keeps (hp : l.polls = true) (hs : l.scans = true) (k : Fin 6) (s : State) : Keeps l s (scanMinute k s) := by
  unfold scanMinute
  split
  · exact .refl l s
  case h_2 n htimer =>
    have hset (m : Nat) : Keeps l s (s.modLink k fun i => { i with scanTimer := some m }) := modLink_keeps k _ s (by rw [htimer]; rfl)
    exact .ite (fun _ => (hset 0).trans (pollDue_keeps hp k (.inr hs) _)) fun _ => hset _

theorem scanDue_keeps (hp : l.polls = true) (hs : l.scans = true) (k : Fin 6) (s : State) : Keeps l s (scanDue k s) := by
  unfold scanDue
  split
  · exact .refl l s
  case h_2 n htimer => exact (modLink_keeps k _ s (by rw [htimer]; rfl)).trans (pollDue_keeps hp k (.inr hs) _)

theorem kilnMinute_keeps (hp : l.polls = true) (hs : l.scans = true) (k : Fin 6) (s : State) : Keeps l s (kilnMinute k s) :=
  (minuteTick_keeps hp k s).trans (scanMinute_keeps hp hs k _)

theorem eachKiln_keeps {f : Fin 6 → State → State} (hf : ∀ k s, Keeps l s (f k s)) (s : State) : Keeps l s (eachKiln f s) :=
  .foldl allKilns (fun s k _ => hf k s) s

theorem bumpMark_keeps (k : Fin 6) (s : State) : Keeps l s (bumpMark k s) := modLink_keeps k _ s

end Sys2Proof.Proofs.Invariants
end

section
/-!
The service of the poll list settles it (section 5.3), and with it the commands of the kiln unit, of the supervision timer and of the
clock keep the agreements.
-/
namespace Sys2Proof.Proofs.Invariants
open Sys2Proof.Machine
set_option Elab.async false

variable {l : Leave} {s t : State}

/-! ## Service of the list -/

theorem scansWaiting_le (b : Bus) (h : pollsApart b) : scansWaiting b ≤ 6 := by
  have hscans : ((b.pendingPolls.filter fun e => decide (e.kind = .scan)).map fun e => e.kiln).Nodup := by
    rw [List.nodup_map_iff_inj_on (h.of_map.filter _)]
    intro e he f hf hk
    simp only [List.mem_filter, decide_eq_true_eq] at he hf
    exact List.inj_on_of_nodup_map h he.1 hf.1 (by simp [hk, he.2, hf.2])
  have hcard := hscans.length_le_card
  simpa [scansWaiting, List.countP_eq_length_filter] using hcard

theorem serveUpTo_of_current {n : Nat} (h : s.bus.current ≠ none) : serveUpTo n s = s := by
  cases n with
  | zero => rfl
  | succ n =>
    unfold serveUpTo
    split
    · exact absurd ‹_› h
    · rfl

/-- Service goes on past scans that end at their beginning alone, and each of them leaves one scan less waiting (R88). -/
theorem serveUpTo_settled (n : Nat) (s : State) (hapart : pollsApart s.bus) (hn : scansWaiting s.bus < n) :
    (serveUpTo n s).bus.settled := by
  induction n generalizing s with
  | zero => omega
  | succ n ih =>
    unfold serveUpTo
    split
    case h_2 hnone =>
      intro hcurrent
      cases hpolls : s.bus.pendingPolls with
      | nil => rfl
      | cons e rest => exact absurd hpolls (hnone e rest hcurrent)
    case h_1 e rest hcurrent hpolls =>
      cases hkind : e.kind with
      | climate =>
        rw [serveUpTo_of_current] <;> simp [beginPoll, hkind, State.setPoll, Bus.settled]
      | scan =>
        let l : Leave := ⟨true, false, true, true, true⟩
        have hrest : Keeps l s { s with bus := { s.bus with pendingPolls := rest } } :=
          setPolls_keeps rfl rest s.bus.current s (by simp [hpolls])
        have hbegin := beginPoll_keeps (l := l) rfl e { s with bus := { s.bus with pendingPolls := rest } }
        have hfewer := hbegin.scans rfl
        refine ih _ ((hrest.trans hbegin).apart hapart) ?_
        simp only [scansWaiting, hpolls, hkind, List.countP_cons] at hn hfewer ⊢
        simp at hn
        omega

/-- An operation that leaves polls unserved, and their service after it. -/
theorem serve_keeps (hst : Keeps { l with polls := true, scans := true } s t) (hs : l.scans = true) : Keeps l s (serve t) := by
  have h := hst.trans (serveUpTo_keeps rfl 32 t)
  refine { h with settled := fun _ hsound => ?_, scans := fun hf => by simp [hs] at hf }
  have hapart := hst.apart hsound.1
  exact serveUpTo_settled 32 t hapart (by have := scansWaiting_le t.bus hapart; omega)

/-! ## The supervision timer -/

theorem caused_eq_self {kind : HoldKind} {level : Nat} {c : Kiln} (hstate : (c.caused kind level).state = c.state)
    (hlevel : (c.caused kind level).level = c.level) : c.caused kind level = c := by
  obtain ⟨state, resume, level', charge, drying, remaining, deviation, measured, samples, figures, lost, config⟩ := c
  cases state <;> cases kind <;> simp_all [Kiln.caused]

/-- A cause makes of its kiln what `Kiln.caused` says, and nothing of another. -/
theorem applyCause_kilns (k : Fin 6) (kind : HoldKind) (level : Nat) (cause : KilnCause) (s : State) :
    (applyCause k kind level cause s).kilns = vmod s.kilns k (Kiln.caused kind level) := by
  have hset : vmod s.kilns k (fun _ => s.kilns[k].caused kind level) = vmod s.kilns k (Kiln.caused kind level) := rfl
  unfold applyCause
  dsimp only
  split
  case isFalse =>
    rw [← hset]
    split <;> simp
  case isTrue hsame =>
    rw [← hset, caused_eq_self hsame.1 hsame.2]
    simp [vmod]

/-- A kiln does not run after the causes of a list that names it. -/
theorem applyCauses_not_running {kind : HoldKind} {level : Nat} {cause : KilnCause} {ks : List (Fin 6)} {k : Fin 6} {s : State}
    (h : k ∈ ks ∨ s.kilns[k].state.running = false) : (applyCauses kind level cause ks s).kilns[k].state.running = false := by
  induction ks generalizing s with
  | nil => simpa [applyCauses] using h
  | cons j ks ih =>
    refine ih ?_
    by_cases hjk : j = k
    · subst hjk
      simp [applyCause_kilns, caused_running]
    · obtain hk | hk := h
      · exact .inl (by simpa [Ne.symm hjk] using hk)
      · rw [Fin.getElem_fin] at hk
        exact .inr (by simp [applyCause_kilns, vmod_getElem, hjk, hk])

end Sys2Proof.Proofs.Invariants
end

section
/-!
The requests and timers of the kiln unit, the supervision timer and the clock keep the agreements.
-/
namespace Sys2Proof.Proofs.Invariants
open Sys2Proof.Machine
set_option Elab.async false

variable {l : Leave} {s t : State}

/-! ## The latch and the timer of the port, read after an operation -/

/-- The latch and the supervision timer stand as they did. -/
def sameLatch (s t : State) : Prop := t.port.latch = s.port.latch ∧ t.port.supervision = s.port.supervision

theorem sameLatch.trans {u : State} (h : sameLatch s t) (g : sameLatch t u) : sameLatch s u :=
  ⟨g.1.trans h.1, g.2.trans h.2⟩

theorem sameLatch.latchHolds (h : sameLatch s t) : t.port.latchHolds = s.port.latchHolds := by
  simp [Port.latchHolds, h.1, h.2]

theorem sameLatch_of_port (h : t.port = s.port) : sameLatch s t := by simp [sameLatch, h]

theorem queueReport_sameLatch (r : Report) (s : State) : sameLatch s (queueReport r s) := by
  obtain ⟨reports, gap, owed, hq, -⟩ := queue_eq r s.port
  simp [sameLatch, queueReport, hq]

theorem sameLatch_foldl {α : Type} {f : State → α → State} (xs : List α) (h : ∀ s x, sameLatch s (f s x)) (s : State) :
    sameLatch s (xs.foldl f s) := by
  induction xs generalizing s with
  | nil => exact ⟨rfl, rfl⟩
  | cons x xs ih => exact (h s x).trans (ih _)

theorem enterLine_sameLatch (st : LineState) (ret : Option ReturnState) (cause : LineCause) (s : State) :
    sameLatch s (enterLine st ret cause s) :=
  queueReport_sameLatch _ (s.lineIn st ret)

theorem trip_sameLatch (cause : LineCause) (s : State) : sameLatch s (trip cause s) := by
  unfold trip
  split
  · exact ⟨rfl, rfl⟩
  · exact enterLine_sameLatch ..

theorem applyCause_sameLatch (k : Fin 6) (kind : HoldKind) (level : Nat) (cause : KilnCause) (s : State) :
    sameLatch s (applyCause k kind level cause s) := by
  unfold applyCause
  dsimp only
  split
  · exact ⟨rfl, rfl⟩
  · have h : sameLatch s (reportKiln k cause (s.modKiln k fun _ => s.kilns[k].caused kind level)) :=
      queueReport_sameLatch _ (s.modKiln k _)
    split
    · exact h
    · exact h.trans (sameLatch_of_port (pollDue_port ..))

theorem applyCauses_sameLatch (kind : HoldKind) (level : Nat) (cause : KilnCause) (ks : List (Fin 6)) (s : State) :
    sameLatch s (applyCauses kind level cause ks s) :=
  sameLatch_foldl ks (fun s k => applyCause_sameLatch k kind level cause s) s

theorem raise_supervisionExpired_port (d : Domain) (x : FaultContext) (s : State) :
    (raise .supervisionExpired d x s).port = s.port := by
  unfold raise
  dsimp only
  split
  · rfl
  · rfl

/-! ## The supervision timer (R188 to R190) -/

theorem mem_allKilns (k : Fin 6) : k ∈ allKilns := by
  fin_cases k <;> simp [allKilns]

theorem trip_atRest (cause : LineCause) (s : State) : (trip cause s).line.state.atRest = true := by
  unfold trip
  split
  case isTrue h => rw [h]; rfl
  case isFalse => rfl

/-- The latch of an expiry: NOTIFY holds nothing, HOLD_ALL leaves no kiln running and the line at rest. -/
theorem expire_latchKept (v : Supervision) (s : State) : (expire v s).latchKept := by
  unfold expire
  dsimp only
  generalize hlogged : raise .supervisionExpired _ _ _ = logged
  have hport : logged.port.latch = true ∧ logged.port.supervision = some { v with remaining := 0 } := by
    rw [← hlogged, raise_supervisionExpired_port]
    exact ⟨rfl, rfl⟩
  cases hmode : v.mode with
  | notify =>
    obtain ⟨hlatch, hsup⟩ := queueReport_sameLatch (.supervision .expired v.mode v.unit v.count) logged
    rw [hmode] at hlatch hsup
    simp [State.latchKept, supervisionActs, Port.latchHolds, hsup, hport, hmode]
  | holdAll =>
    simp only [supervisionActs]
    generalize hreported : queueReport _ logged = reported
    have hreport : sameLatch logged reported := hreported ▸ queueReport_sameLatch _ logged
    have hlatch := (hreport.trans (applyCauses_sameLatch .hold 3 .supervision allKilns reported)).trans
      (trip_sameLatch .supervision _)
    refine ⟨fun _ => by simp [hlatch.2, hport], fun _ => ⟨fun k => ?_, trip_atRest .supervision _⟩⟩
    rw [trip_kilns]
    exact applyCauses_not_running (.inl (mem_allKilns k))

theorem supervisionActs_keeps (hp : l.polls = true) (mode : SuperviseMode) (s : State) : Keeps l s (supervisionActs mode s) := by
  unfold supervisionActs
  split
  · exact (applyCauses_keeps hp .hold ⟨by omega, by omega⟩ _ _ _).trans (trip_keeps _ _)
  · exact .refl l s

theorem expire_keeps (hp : l.polls = true) (v : Supervision) (s : State) : Keeps l s (expire v s) := by
  let l' : Leave := { l with latch := true }
  have hpolls : l'.polls = true := hp
  have hset : Keeps l' s (s.modPort fun p =>
      { p with latch := true, expiredSinceCold := true, supervision := some { v with remaining := 0 } }) :=
    modPort_keeps _ s rfl rfl id fun h => by cases h
  have hacts : Keeps l' s (expire v s) :=
    ((hset.trans (raise_keeps (.inr hpolls) _ _ _)).trans (queueReport_keeps _ _)).trans (supervisionActs_keeps hpolls _ _)
  exact { hacts with latch := fun _ _ => expire_latchKept v s }

theorem supervisionReached_keeps (hp : l.polls = true) (s : State) : Keeps l s (supervisionReached s) := by
  unfold supervisionReached
  split
  · exact .ite (fun _ => .refl l s) fun _ => expire_keeps hp _ s
  · exact .refl l s

/-- A timer that goes on in its mode keeps what the latch stands for. -/
theorem latchKept_reload {v w : Supervision} {port : Port} (hv : s.port.supervision = some v) (hw : port.supervision = some w)
    (hmode : w.mode = v.mode) (hlatch : port.latch = true → s.port.latch = true) (h : s.latchKept) :
    ({ s with port := port } : State).latchKept := by
  refine ⟨fun _ => by simp [hw], fun hl => h.2 ?_⟩
  simp only [Port.latchHolds, hw, hv, Bool.and_eq_true, hmode] at hl ⊢
  exact ⟨hlatch hl.1, hl.2⟩

theorem supervisionSecond_keeps (hp : l.polls = true) (s : State) : Keeps l s (supervisionSecond s) := by
  unfold supervisionSecond
  split
  · exact .refl l s
  case h_2 v hv =>
    exact .ite (fun _ => .refl l s) fun _ => .ite (fun _ => expire_keeps hp v s) fun _ =>
      modPort_keeps _ s rfl rfl id fun _ => latchKept_reload hv rfl rfl id

/-! ## The second tick -/

/-- Polls in kiln order are the polls. -/
theorem inKilnOrder_perm (polls : List PollEntry) : (inKilnOrder polls).Perm polls := by
  rw [List.perm_iff_count]
  intro e
  have hcount (p : PollEntry → Bool) : (polls.filter p).count e = if p e = true then polls.count e else 0 := by
    split
    case isTrue h => exact List.count_filter h
    case isFalse h => exact List.count_eq_zero.2 fun hmem => h (List.mem_filter.1 hmem).2
  obtain ⟨k, kind, mark⟩ := e
  simp only [inKilnOrder, allKilns, List.flatMap_cons, List.flatMap_nil, List.count_append, hcount, List.count_nil]
  cases kind <;> simp <;> fin_cases k <;> simp

theorem orderJoined_keeps (hp : l.polls = true) (before : Nat) (s : State) : Keeps l s (orderJoined before s) := by
  have hperm : (s.bus.pendingPolls.take before ++ inKilnOrder (s.bus.pendingPolls.drop before)).Perm s.bus.pendingPolls := by
    conv_rhs => rw [← List.take_append_drop before s.bus.pendingPolls]
    exact (inKilnOrder_perm _).append_left _
  exact {
    apart := fun h => (hperm.map _).nodup_iff.2 h
    settled := fun hf => by simp [hp] at hf
    scans := fun _ => (hperm.countP_eq _).le }

theorem secondTick_keeps (hs : l.scans = true) (s : State) : Keeps l s (secondTick s) := by
  unfold secondTick
  dsimp only
  refine serve_keeps (Keeps.trans ?_ (orderJoined_keeps rfl _ _)) hs
  refine Keeps.trans (Keeps.trans (modPort_keeps _ s rfl rfl id fun _ => id) (eachKiln_keeps ?_ _)) (supervisionSecond_keeps rfl _)
  exact fun k s => (climateSecond_keeps rfl k s).trans (.ite (fun _ => kilnMinute_keeps rfl rfl k _) fun _ => .refl _ _)

/-! ## The requests of the kiln unit -/

theorem configureKiln_keeps (k : Fin 6) (cfg : KilnConfig) (s : State) : Keeps l s (configureKiln k cfg s) := by
  unfold configureKiln
  exact .trans (modKiln_keeps_of_sameShape k _ s) (modLink_keeps k _ _ (by simp))

theorem actKilnConfig_keeps (payload : List Byte) (s : State) : Keeps l s (actKilnConfig payload s).1 := by
  unfold actKilnConfig
  split
  · exact .refl l s
  split
  · exact .refl l s
  split
  · exact .refl l s
  · exact configureKiln_keeps _ _ s

theorem loadKiln_keeps {k : Fin 6} (n : Nat) {s : State} (hidle : s.kilns[k].state = .idle) : Keeps l s (loadKiln k n s) := by
  refine Keeps.trans (Keeps.trans (Keeps.trans (modKiln_keeps k _ s ?_ ?_ ?_) (bumpMark_keeps k _))
    (changeCharge_keeps ?_ n _)) (reportKiln_keeps k _ _)
  · simp_all [Kiln.sound]
  · rw [hidle]; rfl
  · exact fun h => by simp [KilnState.running, KilnState.phase?] at h
  · exact fun _ => ⟨rfl, rfl, rfl⟩

theorem actKilnLoad_keeps (payload : List Byte) (s : State) : Keeps l s (actKilnLoad payload s).1 := by
  unfold actKilnLoad
  split
  · exact .refl l s
  split
  · exact .refl l s
  split
  · exact .refl l s
  split
  · exact .refl l s
  · exact loadKiln_keeps _ (not_not.1 ‹_›)

theorem setSample_keeps (k : Fin 6) (p : Fin 8) (o : Option Sample) (s : State) : Keeps l s (s.setSample k p o) :=
  modSamples_keeps k _ s

theorem actSampleDefine_keeps (hs : l.scans = true) (payload : List Byte) (s : State) :
    Keeps l s (actSampleDefine payload s).1 := by
  have hdefined (r : NewSample) (s : State) (old : Option Sample) : Keeps l s (serve (if old.isSome then
      formFigures r.kiln (s.setSample r.kiln r.position (some r.record)) else s.setSample r.kiln r.position (some r.record))) :=
    serve_keeps ((setSample_keeps ..).trans (.ite (fun _ => formFigures_keeps rfl _ _) fun _ => .refl _ _)) hs
  unfold actSampleDefine
  split
  · exact .refl l s
  case h_2 r _ =>
    split
    all_goals first | exact .refl l s | exact hdefined r s _

theorem changeSample_keeps (hs : l.scans = true) (answer : Sample → Except Status Sample) (payload : List Byte) (s : State) :
    Keeps l s (changeSample answer payload s).1 := by
  unfold changeSample
  split
  · exact .refl l s
  split
  · exact .refl l s
  split
  · exact .refl l s
  split
  · exact .refl l s
  · exact serve_keeps ((setSample_keeps ..).trans (formFigures_keeps rfl _ _)) hs

theorem pollDue_modLink (k : Fin 6) (kind : PollKind) (g : KilnLink → KilnLink) (hg : ∀ i, (g i).mark = i.mark) (s : State) :
    (pollDue k kind s).modLink k g = pollDue k kind (s.modLink k g) := by
  have hmark : (vmod s.bus.links k g)[k.val].mark = s.bus.links[k.val].mark := by simp [hg]
  unfold pollDue
  by_cases hany : (s.bus.pendingPolls.any fun e => decide (e.kiln = k) && decide (e.kind = kind)) = true
  · simp [hany]
  · simp [State.modLink, hany, ← hmark]

theorem startKiln_keeps (hp : l.polls = true) (hs : l.scans = true) {k : Fin 6} (r : Schedule) {s : State}
    (hloaded : s.kilns[k].state = .loaded) (hlatch : s.port.latchHolds = false) : Keeps l s (startKiln k r s) := by
  unfold startKiln
  dsimp only
  refine .trans ?_ (pollDue_keeps hp k (.inr hs) _)
  rw [pollDue_modLink k .climate (fun i => { i with scanTimer := some 0 }) fun _ => rfl]
  refine .trans ?_ (pollDue_keeps hp k (.inl rfl) _)
  have hswap (cause : KilnCause) (g : KilnLink → KilnLink) (s : State) :
      (reportKiln k cause s).modLink k g = reportKiln k cause (s.modLink k g) := rfl
  rw [hswap, ← changeHeld_modLink]
  refine Keeps.trans (Keeps.trans (modContext_keeps k _ _ s ?_ ?_) (changeHeld_keeps ?_ k _)) (reportKiln_keeps k _ _)
  · rintro ⟨hsound, -⟩
    refine ⟨?_, by simp [KilnState.scanning, KilnState.running, KilnState.phase?]⟩
    simp_all [Kiln.sound]
  · exact fun _ => .inr hlatch
  · exact fun _ => ⟨rfl, rfl, rfl⟩

theorem checkStart_ok {k : Fin 6} {r : Schedule} (h : checkStart k s = .ok r) :
    s.kilns[k].state = .loaded ∧ s.port.latchHolds = false := by
  unfold checkStart at h
  split at h
  · cases h
  split at h
  · cases h
  · exact ⟨not_not.1 ‹_›, by simpa using ‹¬ s.port.latchHolds = true›⟩

theorem actKilnStart_keeps (hs : l.scans = true) (payload : List Byte) (s : State) : Keeps l s (actKilnStart payload s).1 := by
  unfold actKilnStart
  split
  · exact .refl l s
  split
  · exact .refl l s
  case h_2 r hcheck =>
    obtain ⟨hloaded, hlatch⟩ := checkStart_ok hcheck
    exact serve_keeps (startKiln_keeps rfl rfl r hloaded hlatch) hs

theorem actKilnAdvance_keeps (payload : List Byte) (s : State) : Keeps l s (actKilnAdvance payload s).1 := by
  unfold actKilnAdvance
  split
  · exact .refl l s
  split
  · exact advanceStep_keeps _ ‹_›
  · exact .refl l s

theorem stopKiln_keeps (hs : l.scans = true) (kind : HoldKind) (payload : List Byte) (s : State) :
    Keeps l s (stopKiln kind payload s).1 := by
  unfold stopKiln
  split
  · exact .refl l s
  split
  · exact serve_keeps (applyCause_keeps rfl _ kind ⟨by omega, by omega⟩ _ s) hs
  · exact .refl l s

theorem resumeKiln_keeps (hp : l.polls = true) {k : Fin 6} {s : State} (hheld : s.kilns[k].state.held = true)
    (hlatch : s.port.latchHolds = false) : Keeps l s (resumeKiln k s) := by
  refine Keeps.trans (Keeps.trans (modKiln_keeps k _ s ?_ ?_ fun _ => .inr hlatch) (reportKiln_keeps k _ _))
    (pollDue_keeps hp k (.inl rfl) _)
  · cases hresume : s.kilns[k].resume with
    | none =>
      cases hstate : s.kilns[k].state <;> simp [KilnState.held] at hheld <;> simp_all [Kiln.sound]
    | some ph =>
      cases hstate : s.kilns[k].state <;> simp [KilnState.held] at hheld <;> cases ph <;> simp_all [Kiln.sound, Phase.state]
  · cases hresume : s.kilns[k].resume with
    | none => rfl
    | some ph => cases ph <;> simp [Phase.state, KilnState.scanning, KilnState.running, KilnState.phase?] <;> simp_all

theorem actKilnResume_keeps (hs : l.scans = true) (payload : List Byte) (s : State) : Keeps l s (actKilnResume payload s).1 := by
  unfold actKilnResume
  split
  · exact .refl l s
  split
  · exact .refl l s
  case isFalse hheld =>
    split
    · exact .refl l s
    case isFalse hlatch =>
      split
      · exact .refl l s
      · exact serve_keeps (resumeKiln_keeps rfl (by simpa using hheld) (by simpa using hlatch)) hs

theorem unloadKiln_keeps (hp : l.polls = true) (k : Fin 6) (s : State) : Keeps l s (unloadKiln k s) := by
  have hneutral (was : KilnState) (time : Time) (final : Option FinalMC) :
      boardNeutral (ChargeRecord.afterUnload was time final) := fun c => by cases was <;> exact ⟨rfl, rfl, rfl⟩
  unfold unloadKiln
  dsimp only
  refine Keeps.trans (Keeps.trans (Keeps.trans (Keeps.trans (changeHeld_keeps (hneutral _ _ _) k s) (modContext_keeps k _ _ _ ?_ ?_))
    (bumpMark_keeps k _)) (reportKiln_keeps k _ _)) (.ite (fun _ => pollDue_keeps hp k (.inl rfl) _) fun _ => .refl l _)
  · exact fun _ => by
      simp [contextSound, Kiln.sound, Kiln.unloaded, KilnState.scanning, KilnState.running, KilnState.phase?, KilnState.held]
  · exact fun h => by simp [Kiln.unloaded, KilnState.running, KilnState.phase?] at h

theorem actKilnUnload_keeps (hs : l.scans = true) (payload : List Byte) (s : State) : Keeps l s (actKilnUnload payload s).1 := by
  unfold actKilnUnload
  split
  · exact .refl l s
  split
  all_goals first | exact .refl l s | exact serve_keeps (unloadKiln_keeps rfl _ s) hs

end Sys2Proof.Proofs.Invariants
end

section
/-!
The settings store, the charge table, the fault unit and the simple requests of the port (chapters 1, 3, 10, 11) keep the
agreements; a created charge takes a number that no record and so no board holds (R11).
-/
namespace Sys2Proof.Proofs.Invariants
open Sys2Proof.Machine
set_option Elab.async false

variable {l : Leave} {s t : State}

/-! ## The settings store -/

theorem actScheduleStore_keeps (payload : List Byte) (s : State) : Keeps l s (actScheduleStore payload s).1 := by
  unfold actScheduleStore
  split
  · exact .refl l s
  split
  · exact .refl l s
  split
  · exact .refl l s
  · exact {}

theorem actScheduleRead_keeps (payload : List Byte) (s : State) : Keeps l s (actScheduleRead payload s).1 := by
  unfold actScheduleRead
  split
  · exact .refl l s
  split <;> exact .refl l s

theorem actScheduleErase_keeps (payload : List Byte) (s : State) : Keeps l s (actScheduleErase payload s).1 := by
  unfold actScheduleErase
  split
  · exact .refl l s
  split
  · exact .refl l s
  · exact {}

theorem actSpeciesStore_keeps (payload : List Byte) (s : State) : Keeps l s (actSpeciesStore payload s).1 := by
  unfold actSpeciesStore
  split
  · exact .refl l s
  split
  · exact .refl l s
  split
  · exact .refl l s
  · exact {}

theorem actSpeciesRead_keeps (payload : List Byte) (s : State) : Keeps l s (actSpeciesRead payload s).1 := by
  unfold actSpeciesRead
  split
  · exact .refl l s
  split <;> exact .refl l s

theorem actSpeciesErase_keeps (payload : List Byte) (s : State) : Keeps l s (actSpeciesErase payload s).1 := by
  unfold actSpeciesErase
  split
  · exact .refl l s
  split
  · exact .refl l s
  · exact {}

theorem completeWrite_keeps (hs : l.scans = true) (good : Bool) (s : State) : Keeps l s (completeWrite good s) := by
  unfold completeWrite
  split
  · exact .refl l s
  case h_2 w rest _ =>
    have hsettled (l : Leave) (s : State) : Keeps l s (settleLocation w good s) := by
      cases w <;> exact {}
    dsimp only
    exact serve_keeps ((((modStore_keeps _ s).trans (hsettled _ _)).trans
      (.ite (fun _ => .refl _ _) fun _ => raise_keeps (.inr rfl) _ _ _)).trans (queueReport_keeps _ _)) hs

/-! ## A charge number drawn (R11) -/

/-- The numbers of the records in use. -/
def heldNumbers (s : State) : Finset Nat := (s.charges.records.toList.filterMap (Option.map ChargeRecord.number)).toFinset

theorem mem_heldNumbers {n : Nat} : n ∈ heldNumbers s ↔ (s.charge? n).isSome = true := by
  rw [charge?_isSome_iff, heldNumbers, List.mem_toFinset, List.mem_filterMap]
  constructor
  · rintro ⟨o, ho, hn⟩
    obtain ⟨c, rfl, rfl⟩ := Option.map_eq_some_iff.1 hn
    exact ⟨c, holdsRecord_iff_mem.2 ho, rfl⟩
  · rintro ⟨c, hc, rfl⟩
    exact ⟨some c, holdsRecord_iff_mem.1 hc, rfl⟩

theorem length_filterMap_lt {α β : Type} {f : α → Option β} {xs : List α} {x : α} (hx : x ∈ xs) (hf : f x = none) :
    (xs.filterMap f).length < xs.length := by
  induction xs with
  | nil => simp at hx
  | cons y ys ih =>
    obtain rfl | hy := List.mem_cons.1 hx
    · simpa [hf] using Nat.lt_succ_of_le (List.length_filterMap_le f ys)
    · cases hfy : f y with
      | none => simpa [hfy] using Nat.lt_succ_of_lt (ih hy)
      | some z => simpa [hfy] using ih hy

/-- At most eleven numbers are held while a position is free. -/
theorem heldNumbers_card_lt {pos : Fin 12} (h : s.charges.records[pos] = none) : (heldNumbers s).card < 12 := by
  have hmem : none ∈ s.charges.records.toList := by
    rw [Vector.mem_toList_iff, Vector.mem_iff_getElem]
    exact ⟨pos.val, pos.isLt, h⟩
  have hlt := length_filterMap_lt (f := Option.map ChargeRecord.number) hmem rfl
  have hcard := List.toFinset_card_le (s.charges.records.toList.filterMap (Option.map ChargeRecord.number))
  simp only [Vector.length_toList] at hlt
  exact lt_of_le_of_lt hcard hlt

/-- The draw stops at the first number that is not held, where one comes within the numbers it may pass over. -/
theorem drawFrom_spec (held : Nat → Bool) (fuel n : Nat) (h : ∃ j < fuel, held (nextCharge^[j] n) = false) :
    ∃ k < fuel, drawFrom held fuel n = nextCharge^[k] n ∧ held (nextCharge^[k] n) = false ∧
      ∀ j < k, held (nextCharge^[j] n) = true := by
  induction fuel generalizing n with
  | zero => obtain ⟨j, hj, -⟩ := h; omega
  | succ fuel ih =>
    unfold drawFrom
    cases hn : held n with
    | false => exact ⟨0, by omega, by simp, by simpa using hn, by simp⟩
    | true =>
      obtain ⟨j, hj, hfree⟩ := h
      cases j with
      | zero => simp [hn] at hfree
      | succ j =>
        obtain ⟨k, hk, hdraw, hfirst, hbefore⟩ := ih (nextCharge n) ⟨j, by omega, hfree⟩
        refine ⟨k + 1, by omega, by simpa using hdraw, hfirst, fun j hj => ?_⟩
        cases j with
        | zero => exact hn
        | succ j => exact hbefore j (by omega)

/-- The numbers passed over by one draw: the next ones up to 65535, and from 1 on behind it. -/
theorem iterate_nextCharge (k n : Nat) (hk : k ≤ 12) :
    nextCharge^[k] n = if n ≤ 65535 ∧ 65535 < n + k then n + k - 65535 else n + k := by
  induction k with
  | zero => simp
  | succ k ih =>
    rw [Function.iterate_succ_apply', ih (by omega), nextCharge]
    split_ifs <;> omega

theorem iterate_nextCharge_injOn (n : Nat) : Set.InjOn (fun k => nextCharge^[k] n) (Finset.range 12 : Set Nat) := by
  intro j hj k hk h
  simp only [Finset.coe_range, Set.mem_Iio] at hj hk
  simp only [iterate_nextCharge _ n (show j ≤ 12 by omega), iterate_nextCharge _ n (show k ≤ 12 by omega)] at h
  split_ifs at h <;> omega

/-- Twelve numbers come in a draw and at most eleven are held, so the draw ends at the first that is not (R11). -/
theorem drawnCharge_spec {pos : Fin 12} (h : s.charges.records[pos] = none) :
    ∃ k < 12, s.drawnCharge = nextCharge^[k] s.store.nextCharge ∧ s.charge? s.drawnCharge = none ∧
      ∀ j < k, (s.charge? (nextCharge^[j] s.store.nextCharge)).isSome = true := by
  have hfree : ∃ j < 12, (s.charge? (nextCharge^[j] s.store.nextCharge)).isSome = false := by
    by_contra hall
    push Not at hall
    have himage : (Finset.range 12).image (fun j => nextCharge^[j] s.store.nextCharge) ⊆ heldNumbers s := by
      intro n hn
      obtain ⟨j, hj, rfl⟩ := Finset.mem_image.1 hn
      exact mem_heldNumbers.2 (by simpa [Option.isSome_iff_ne_none] using hall j (Finset.mem_range.1 hj))
    have hcard := Finset.card_le_card himage
    rw [Finset.card_image_of_injOn (iterate_nextCharge_injOn _), Finset.card_range] at hcard
    have := heldNumbers_card_lt h
    omega
  obtain ⟨k, hk, hdraw, hfirst, hbefore⟩ := drawFrom_spec (fun n => (s.charge? n).isSome) 12 _ hfree
  refine ⟨k, hk, hdraw, ?_, hbefore⟩
  rw [State.drawnCharge, hdraw]
  simpa using hfirst

/-! ## The requests of the charge table -/

theorem lowestFree_spec {i p : Nat} {xs : List (Option ChargeRecord)} (h : lowestFree i xs = some p) :
    ∃ j, p = i + j ∧ xs[j]? = some none := by
  induction xs generalizing i with
  | nil => simp [lowestFree] at h
  | cons o xs ih =>
    cases o with
    | none => exact ⟨0, by simpa [lowestFree] using h.symm, by simp⟩
    | some c =>
      obtain ⟨j, hj, hnone⟩ := ih (i := i + 1) (by simpa [lowestFree] using h)
      exact ⟨j + 1, by omega, by simpa using hnone⟩

/-- The lowest free position is free (R35). -/
theorem freePosition_free {pos : Fin 12} (h : s.freePosition = some pos) : s.charges.records[pos] = none := by
  obtain ⟨p, hp, hfin⟩ := Option.bind_eq_some_iff.1 h
  obtain ⟨j, hj, hnone⟩ := lowestFree_spec hp
  obtain ⟨hlt, rfl⟩ : ∃ hlt : p < 12, (⟨p, hlt⟩ : Fin 12) = pos := by
    unfold fin? at hfin
    split at hfin
    · exact ⟨‹_›, by simpa using hfin⟩
    · simp at hfin
  obtain rfl : j = p := by omega
  obtain ⟨hj', hj''⟩ := List.getElem?_eq_some_iff.1 hnone
  simpa using hj''

theorem checkCreate_ok {r : NewCharge} {pos : Fin 12} (h : checkCreate r s = .ok pos) : s.freePosition = some pos := by
  unfold checkCreate at h
  split at h
  · cases h
  case h_2 p hp =>
    split at h
    · cases h
    split at h
    · cases h
    split_ifs at h
    rw [hp, Except.ok.inj h]

/-- A record with a number of its own, and no boards yet, takes a free position (R37). -/
theorem boardsKept_create {pos : Fin 12} {c : ChargeRecord} (hfree : s.charges.records[pos] = none)
    (hnumber : s.charge? c.number = none) (hflight : c.inFlight = 0) (hcounts : c.counts = ⟨0, 0, 0, 0, 0, 0⟩)
    (hrecords : t.charges.records = s.charges.records.set pos (some c)) (hqueue : t.line.queue = s.line.queue)
    (hheld : t.packs.held = s.packs.held) (h : boardsKept s) : boardsKept t := by
  obtain ⟨hsound, htop⟩ := boardsKept_iff.1 h
  obtain ⟨hapart, hrec, hq, hh⟩ := boardsSound_iff.1 hsound
  have hget (i : Fin 12) : t.charges.records[i] = if i = pos then some c else s.charges.records[i] := by
    rw [hrecords]
    by_cases hi : i = pos
    · subst hi; simp
    · have hv : pos.val ≠ i.val := fun e => hi (Fin.ext e.symm)
      simp [hi, Vector.getElem_set_ne _ _ hv]
  have hholds (d : ChargeRecord) : holdsRecord t d ↔ d = c ∨ holdsRecord s d := by
    constructor
    · rintro ⟨i, hi⟩
      rw [hget] at hi
      split_ifs at hi
      · exact .inl (by simpa using hi.symm)
      · exact .inr ⟨i, hi⟩
    · rintro (rfl | ⟨i, hi⟩)
      · exact ⟨pos, by simp [hget]⟩
      · refine ⟨i, ?_⟩
        rw [hget, if_neg (by rintro rfl; simp [hfree] at hi), hi]
  have hunheld (d : ChargeRecord) (hd : holdsRecord s d) : d.number ≠ c.number := fun hn => by
    have := charge?_isSome_iff.2 ⟨d, hd, hn⟩
    simp [hnumber] at this
  have hmono {n : Nat} (hn : (s.charge? n).isSome = true) : (t.charge? n).isSome = true := by
    obtain ⟨d, hd, rfl⟩ := charge?_isSome_iff.1 hn
    exact charge?_isSome_iff.2 ⟨d, (hholds d).2 (.inr hd), rfl⟩
  have hnoBoard : (∀ b ∈ s.line.queue, b.charge ≠ some c.number) ∧ ∀ h ∈ s.packs.held, h.charge ≠ c.number := by
    refine ⟨fun b hb hn => ?_, fun h hmem hn => ?_⟩
    · simpa [hnumber] using (hq b hb).1 _ hn
    · simpa [hn, hnumber] using hh h hmem
  have hboards : s.boardsOf c.number = 0 := by
    simpa [State.boardsOf, List.countP_eq_zero] using hnoBoard
  have hpending : s.pendingOf c.number = 0 := by
    simpa [State.pendingOf, List.countP_eq_zero] using fun b hb hn => absurd hn (hnoBoard.1 b hb)
  have hsame (d : ChargeRecord) (hd : recordSound s d) : recordSound t d := by
    simpa [recordSound, State.boardsOf, State.pendingOf, hqueue, hheld] using hd
  refine boardsKept_iff.2 ⟨boardsSound_iff.2 ⟨?_, ?_, ?_, ?_⟩, ?_⟩
  · intro i j d e hi hj hn
    rw [hget] at hi hj
    split_ifs at hi hj with hip hjp hjp
    · rw [hip, hjp]
    · exact absurd (hn.symm.trans (by rw [← Option.some.inj hi])) (hunheld e ⟨j, hj⟩)
    · exact absurd (hn.trans (by rw [← Option.some.inj hj])) (hunheld d ⟨i, hi⟩)
    · exact hapart i j d e hi hj hn
  · intro d hd
    obtain rfl | hd := (hholds d).1 hd
    · exact hsame d ⟨by rw [hflight, hboards], by simp [settledCount, hcounts, hpending]⟩
    · exact hsame d (hrec d hd)
  · intro b hb
    rw [hqueue] at hb
    exact ⟨fun n hn => hmono ((hq b hb).1 n hn), (hq b hb).2⟩
  · intro h hmem
    rw [hheld] at hmem
    exact hmono (hh h hmem)
  · intro d hd
    obtain rfl | hd := (hholds d).1 hd
    · simp [hcounts]
    · exact htop d hd

theorem createCharge_keeps (r : NewCharge) {pos : Fin 12} {s : State} (hfree : s.charges.records[pos] = none) :
    Keeps l s (createCharge r pos s).1 := by
  have hplaced : Keeps l s { s.modStore (fun t => { t with nextCharge := nextCharge s.drawnCharge }) with
      charges := { s.charges with records := s.charges.records.set pos (some (r.record s.drawnCharge s.now)) } } :=
    { boards := fun _ => boardsKept_create hfree (drawnCharge_spec hfree).choose_spec.2.2.1 rfl rfl rfl rfl rfl }
  have hlower (s : State) : Keeps l s (lowerTally r.redryPart s) := by
    unfold lowerTally
    split
    · exact setTally_keeps _ s
    · exact .refl l s
  exact (hplaced.trans (hlower _)).trans (queueReport_keeps _ _)

theorem actChargeCreate_keeps (payload : List Byte) (s : State) : Keeps l s (actChargeCreate payload s).1 := by
  unfold actChargeCreate
  split
  · exact .refl l s
  split
  · exact .refl l s
  case h_2 hcheck => exact createCharge_keeps _ (freePosition_free (checkCreate_ok hcheck))

theorem setState_keeps (st : ChargeState) (n : Nat) (s : State) :
    Keeps l s (changeCharge n (fun c => { c with state := st }) s) :=
  changeCharge_keeps (f := fun c => { c with state := st }) (fun _ => ⟨rfl, rfl, rfl⟩) n s

theorem actChargeClose_keeps (payload : List Byte) (s : State) : Keeps l s (actChargeClose payload s).1 := by
  unfold actChargeClose
  split
  · exact .refl l s
  split
  · exact .refl l s
  split
  all_goals first | exact .refl l s | exact (setState_keeps _ _ s).trans (freeTest_keeps _ _)

theorem actChargeQuery_keeps (payload : List Byte) (s : State) : Keeps l s (actChargeQuery payload s).1 := by
  unfold actChargeQuery
  split
  · exact .refl l s
  split <;> exact .refl l s

/-! ## The fault unit -/

theorem modLogs_keeps (d : Fin 10) (f : DomainLog → DomainLog) (hf : ∀ log, log.sound → (f log).sound) (s : State) :
    Keeps l s (s.modFaults fun u => { u with logs := vmod u.logs d f }) :=
  setLog_keeps d _ s (hf _)

theorem index_injective : Function.Injective FaultKind.index := by
  intro j k h
  cases j <;> cases k <;> first | rfl | exact absurd h (by decide)

theorem actFaultConfig_keeps (payload : List Byte) (s : State) : Keeps l s (actFaultConfig payload s).1 := by
  unfold actFaultConfig
  split
  · exact .refl l s
  split
  · split <;> exact .refl l s
  case isFalse k cfg _ hfixed =>
    refine { faults := fun h => ⟨h.1, fun j hj => ?_⟩ }
    have hne : k.index.val ≠ j.index.val := fun hv => by
      obtain rfl := index_injective (Fin.ext hv)
      exact hfixed hj
    simpa [done, State.modFaults, hne] using h.2 j hj

theorem actFaultActions_keeps (payload : List Byte) (s : State) : Keeps l s (actFaultActions payload s).1 := by
  unfold actFaultActions
  split
  · exact .refl l s
  · exact {}

theorem actFaultLogClear_keeps (payload : List Byte) (s : State) : Keeps l s (actFaultLogClear payload s).1 := by
  unfold actFaultLogClear
  split
  · exact .refl l s
  · exact modLogs_keeps _ (fun log => { log with first := none, next := none }) (fun log h => ⟨h.1, fun _ => rfl⟩) s

theorem actFaultCountClear_keeps (payload : List Byte) (s : State) : Keeps l s (actFaultCountClear payload s).1 := by
  unfold actFaultCountClear
  split
  · exact .refl l s
  · exact modLogs_keeps _ (fun log => { log with counter := 0, overflow := false }) (fun log h => ⟨Nat.zero_le _, h.2⟩) s

theorem actFaultQuery_keeps (payload : List Byte) (s : State) : Keeps l s (actFaultQuery payload s).1 := by
  unfold actFaultQuery
  split <;> exact .refl l s

/-! ## The port's own requests -/

theorem actSubscribe_keeps (payload : List Byte) (s : State) : Keeps l s (actSubscribe payload s).1 := by
  unfold actSubscribe
  split
  · exact .refl l s
  · exact {}

theorem actSuperviseArm_keeps (payload : List Byte) (s : State) : Keeps l s (actSuperviseArm payload s).1 := by
  unfold actSuperviseArm
  split
  · exact .refl l s
  split
  · exact .refl l s
  case isFalse v _ hdisarmed =>
    refine modPort_keeps (fun p => { p with supervision := some v }) s rfl rfl id fun _ h => ⟨fun _ => rfl, fun hl => ?_⟩
    have hset : s.port.latch = true := by
      simp only [modPort_port, Port.latchHolds, Bool.and_eq_true] at hl
      exact hl.1
    exact absurd (h.1 hset) hdisarmed

theorem actSuperviseRefresh_keeps (s : State) : Keeps l s (actSuperviseRefresh s).1 := by
  unfold actSuperviseRefresh
  split
  · exact .refl l s
  case h_2 v hv =>
    refine .trans (modPort_keeps _ s rfl rfl id fun _ => ?_) (.ite (fun _ => queueReport_keeps _ _) fun _ => .refl l _)
    exact latchKept_reload (w := v.reload) hv rfl rfl fun h => by cases h

theorem actSetClock_keeps (payload : List Byte) (s : State) : Keeps l s (actSetClock payload s).1 := by
  unfold actSetClock
  split
  · exact .refl l s
  · exact {}

theorem actClearStartCauses_keeps (s : State) : Keeps l s (actClearStartCauses s).1 := {}

theorem actRestart_keeps (s : State) : Keeps l s (actRestart s).1 := {}

end Sys2Proof.Proofs.Invariants
end

section
/-!
The line terminals, the label unit and the packs (chapters 6, 8, 9) keep the agreements: what drives a pin, what fills a queue, and how
an append counts its piece.
-/
namespace Sys2Proof.Proofs.Invariants
open Sys2Proof.Machine
set_option Elab.async false

variable {l : Leave} {s t : State}

/-! ## Terminals -/

/-- A terminal's pin agrees with the level it drives. -/
def pinFollows (level : Option Bool) (r : Terminal) : Prop :=
  r.drive = level.map r.polarity.through ∧ ∀ b, level = some b → r.input = b

/-- The level a record drives, given the demands of the line. -/
def levelOf (line : Line) (r : Terminal) : Option Bool :=
  match r.fn with
  | .generalOut => some r.stored
  | .redryGate => some line.redryDemand
  | .rejectGate => some line.rejectDemand
  | .lineStop => some line.stopDemand
  | .generalIn | .infeedEye | .outfeedEye | .encoder | .meterFault | .meterIn | .tempIn => none

theorem drivenLevel_eq (n : Fin 16) (s : State) : s.drivenLevel n = levelOf s.line s.terminals[n] := rfl

/-- The level a terminal drives depends on its function, its stored level and the demands of the line. -/
theorem levelOf_congr {line line' : Line} {r r' : Terminal} (hfn : r'.fn = r.fn) (hstored : r'.stored = r.stored)
    (hredry : line'.redryDemand = line.redryDemand) (hreject : line'.rejectDemand = line.rejectDemand)
    (hstop : line'.stopDemand = line.stopDemand) : levelOf line' r' = levelOf line r := by
  unfold levelOf
  rw [hfn]
  cases r.fn <;> simp [hstored, hredry, hreject, hstop]

theorem outputsFollow_iff : s.outputsFollow ↔ ∀ n : Fin 16, pinFollows (levelOf s.line s.terminals[n]) s.terminals[n] := Iff.rfl

theorem modTerminal_keeps (n : Fin 16) (f : Terminal → Terminal) (s : State)
    (h : pinFollows (levelOf s.line s.terminals[n]) s.terminals[n] → pinFollows (levelOf s.line (f s.terminals[n])) (f s.terminals[n])) :
    Keeps l s (s.modTerminal n f) where
  outputs hs := outputsFollow_iff.2 fun m => by
    by_cases hnm : n = m
    · subst hnm
      simpa using h (outputsFollow_iff.1 hs n)
    · simpa [vmod_getElem, hnm] using outputsFollow_iff.1 hs m

/-- A change of a terminal that drives no pin, to one that drives none either. -/
theorem modTerminal_keeps_of_undriven (n : Fin 16) (f : Terminal → Terminal) (s : State)
    (hlevel : levelOf s.line s.terminals[n] = none) (hlevel' : levelOf s.line (f s.terminals[n]) = none)
    (hdrive : (f s.terminals[n]).drive = s.terminals[n].drive := by rfl) : Keeps l s (s.modTerminal n f) :=
  modTerminal_keeps n f s fun h => by
    rw [hlevel] at h
    rw [hlevel']
    exact ⟨hdrive.trans h.1, by simp⟩

theorem takePin_keeps (n : Fin 16) (high : Bool) (s : State) (h : levelOf s.line s.terminals[n] = none) :
    Keeps l s (takePin n high s) :=
  modTerminal_keeps_of_undriven n _ s h h

theorem holder_fn {f : TermFn} {n : Fin 16} (h : s.holder f = some n) : s.terminals[n].fn = f := by
  simpa using List.find?_some h

theorem levelOf_of_fn {f : TermFn} {r : Terminal} (h : r.fn = f) (line : Line)
    (hf : f ≠ .generalOut ∧ f ≠ .redryGate ∧ f ≠ .rejectGate ∧ f ≠ .lineStop) : levelOf line r = none := by
  subst h
  unfold levelOf
  split <;> simp_all

theorem actTerminalSet_keeps (payload : List Byte) (s : State) : Keeps l s (actTerminalSet payload s).1 := by
  unfold actTerminalSet
  split
  · exact .refl l s
  case h_2 n level _ =>
    split
    case h_1 hfn =>
      refine modTerminal_keeps n (fun r => ({ r with stored := level } : Terminal).driven level) s fun _ => ?_
      have hlevel : levelOf s.line (({ s.terminals[n] with stored := level } : Terminal).driven level) = some level := by
        simp only [levelOf, driven_fn]
        rw [hfn]
        rfl
      rw [hlevel]
      exact ⟨rfl, fun b hb => Option.some.inj hb⟩
    case h_2 hfn =>
      have hin (r : Terminal) (hr : r.fn = .generalIn) : levelOf s.line r = none := levelOf_of_fn hr s.line (by decide)
      exact modTerminal_keeps_of_undriven n (fun r => { r with stored := level }) s (hin _ hfn) (hin _ hfn)
    all_goals exact .refl l s

theorem generalInPin_keeps (n : Fin 16) (high : Bool) (s : State) : Keeps l s (generalInPin n high s) := by
  refine .ite (fun hfn => ?_) fun _ => .refl l s
  have hshape : (s.terminals[n].pinChanged high).fn = s.terminals[n].fn ∧
      (s.terminals[n].pinChanged high).drive = s.terminals[n].drive := by
    unfold Terminal.pinChanged
    split <;> exact ⟨rfl, rfl⟩
  exact modTerminal_keeps_of_undriven n _ s (levelOf_of_fn hfn _ (by decide))
    (levelOf_of_fn (hshape.1.trans hfn) _ (by decide)) hshape.2

theorem generalInTaken_keeps (n : Fin 16) (s : State) : Keeps l s (generalInTaken n s) := by
  unfold generalInTaken
  dsimp only
  split
  case h_1 high hfn _ =>
    have hnone : levelOf s.line s.terminals[n] = none := levelOf_of_fn hfn _ (by decide)
    generalize htaken : s.modTerminal n _ = taken
    have hkeep : Keeps l s taken := by
      rw [← htaken]
      exact modTerminal_keeps_of_undriven n _ s hnone (by exact hnone)
    exact hkeep.trans <| .ite (fun _ => queueReport_keeps _ _) fun _ => .refl l _
  case h_2 => exact .refl l s

theorem meterFaultPin_keeps (high : Bool) (s : State) : Keeps l s (meterFaultPin high s) := by
  unfold meterFaultPin
  split
  · exact takePin_keeps _ high s (levelOf_of_fn (holder_fn ‹_›) _ (by decide))
  · exact .refl l s

theorem conversionDone_keeps (c : Converter) (count : Nat) (s : State) : Keeps l s (conversionDone c count s) := by
  unfold conversionDone
  split
  case h_1 n hn =>
    have hfn := holder_fn hn
    have hnone : levelOf s.line s.terminals[n] = none := levelOf_of_fn hfn _ (by cases c <;> decide)
    exact modTerminal_keeps_of_undriven n _ s hnone (by exact hnone)
  case h_2 => exact .refl l s

/-! ## Changes of the line's own items -/

/-- A change of the line that keeps its state, its demands and its boards. -/
theorem modLine_keeps (f : Line → Line) (s : State) (hstate : (f s.line).state = s.line.state := by rfl)
    (hreturn : (f s.line).returnTo = s.line.returnTo := by rfl) (hredry : (f s.line).redryDemand = s.line.redryDemand := by rfl)
    (hreject : (f s.line).rejectDemand = s.line.rejectDemand := by rfl)
    (hstop : (f s.line).stopDemand = s.line.stopDemand := by rfl)
    (hlength : (f s.line).queue.length ≤ 16 ∨ (f s.line).queue.length ≤ s.line.queue.length := by exact .inr le_rfl)
    (hboards : l.entry = false → boardsKept s → boardsKept (s.modLine f) := by
      exact fun _ => boardsKept_congr rfl rfl rfl) :
    Keeps l s (s.modLine f) where
  line h := by simpa [Line.sound, hstate, hreturn, hstop] using h
  outputs h n := by
    have hlevel : (s.modLine f).drivenLevel n = s.drivenLevel n := levelOf_congr rfl rfl hredry hreject hstop
    rw [hlevel]
    exact h n
  planer h := ⟨by simp only [modLine_line]; have := h.1; omega, h.2⟩
  latch _ h := by simpa [State.latchKept, hstate] using h
  boards := hboards

theorem settleGates_keeps (s : State) : Keeps l s (settleGates s) := by
  have hredry (d : Bool) (s : State) : Keeps l s (driveOutput .redryGate d (s.modLine fun l => { l with redryDemand := d })) :=
    { outputs := setDemand_outputs (line := { s.line with redryDemand := d })
        (fun n hn => by rw [drivenLevel_eq, levelOf]; simp only [hn])
        (fun n hn => by rw [drivenLevel_eq, drivenLevel_eq, levelOf, levelOf]; dsimp only; split <;> simp_all) }
  have hreject (d : Bool) (s : State) : Keeps l s (driveOutput .rejectGate d (s.modLine fun l => { l with rejectDemand := d })) :=
    { outputs := setDemand_outputs (line := { s.line with rejectDemand := d })
        (fun n hn => by rw [drivenLevel_eq, levelOf]; simp only [hn])
        (fun n hn => by rw [drivenLevel_eq, drivenLevel_eq, levelOf, levelOf]; dsimp only; split <;> simp_all) }
  unfold settleGates
  dsimp only
  exact .trans (.ite (fun _ => .refl l s) fun _ => hredry _ s) (.ite (fun _ => .refl l _) fun _ => hreject _ _)

/-! ## The drain test and the unblock -/

theorem drainTest_keeps (s : State) : Keeps l s (drainTest s) :=
  .ite (fun _ => enterLine_keeps _ _ _ s (by simp) (.inl rfl)) fun _ => .refl l s

theorem enterDraining_keeps (cause : LineCause) (s : State)
    (h : s.line.state.atRest = false ∨ s.port.latchHolds = false) : Keeps l s (enterDraining cause s) :=
  (enterLine_keeps _ _ _ s (by simp) (.inr h)).trans (drainTest_keeps _)

theorem unblock_keeps (s : State) : Keeps l s (unblock s) := by
  unfold unblock
  split
  case h_1 hstate _ => exact enterLine_keeps _ _ _ s (by simp) (.inr (.inl (by rw [hstate]; rfl)))
  case h_2 hstate _ => exact enterDraining_keeps _ s (.inl (by rw [hstate]; rfl))
  case h_3 => exact .refl l s

theorem feedLine_keeps (s : State) : Keeps l s (feedLine s) := by
  unfold feedLine
  split
  case h_1 hstate => exact enterLine_keeps _ _ _ s (by simp) (.inr (.inl (by rw [hstate]; rfl)))
  case h_2 hstate _ => exact enterLine_keeps _ _ _ s (by simp) (.inr (.inl (by rw [hstate]; rfl)))
  case h_3 => exact .refl l s

theorem feedEndLine_keeps (s : State) : Keeps l s (feedEndLine s) := by
  unfold feedEndLine
  split
  case h_1 hstate => exact enterDraining_keeps _ s (.inl (by rw [hstate]; rfl))
  case h_2 hstate _ => exact enterLine_keeps _ _ _ s (by simp) (.inr (.inl (by rw [hstate]; rfl)))
  case h_3 => exact .refl l s

theorem unfeed_keeps (s : State) : Keeps l s (unfeed s) := by
  unfold unfeed
  split
  · exact setState_keeps _ _ s
  · exact .refl l s

theorem actFeed_keeps (payload : List Byte) (s : State) : Keeps l s (actFeed payload s).1 := by
  unfold actFeed
  split
  · exact .refl l s
  split
  · exact .refl l s
  split
  · exact ((unfeed_keeps s).trans (setState_keeps _ _ _)).trans (feedLine_keeps _)
  · exact .refl l s

theorem actFeedEnd_keeps (s : State) : Keeps l s (actFeedEnd s).1 := by
  unfold actFeedEnd
  split
  · exact (unfeed_keeps s).trans (feedEndLine_keeps _)
  · exact .refl l s

/-! ## Labels -/

theorem modLabels_keeps (f : LabelUnit → LabelUnit) (s : State)
    (h : s.labels.queue.length ≤ 4 → (f s.labels).queue.length ≤ 4) : Keeps l s (s.modLabels f) where
  planer hs := ⟨hs.1, hs.2.1, h hs.2.2⟩

theorem modHead_length (f : LabelEntry → LabelEntry) (u : LabelUnit) : (u.modHead f).queue.length = u.queue.length := by
  unfold LabelUnit.modHead
  cases u.queue <;> rfl

/-- A pack that counts the same pieces in the same lineage. -/
def samePieces (p q : Pack) : Prop :=
  q.pieces = p.pieces ∧ q.lineage = p.lineage ∧ q.unlisted = p.unlisted ∧ q.cls = p.cls

theorem setBay_keeps (b : Fin 8) (o : Option Pack) (s : State)
    (h : s.packsSound → ∀ p, o = some p → p.sound ∧ p.cls = bayClass b) : Keeps l s (s.setBay b o) where
  packs hs c p hp := by
    by_cases hbc : b = c
    · subst hbc
      exact h hs p (by simpa using hp)
    · have hv : b.val ≠ c.val := fun hv => hbc (Fin.ext hv)
      exact hs c p (by simpa [hv] using hp)

theorem modBay_keeps (b : Fin 8) (f : Pack → Pack) (s : State) (h : ∀ p, samePieces p (f p)) : Keeps l s (s.modBay b f) := by
  refine setBay_keeps b _ s fun hs p hp => ?_
  obtain ⟨q, hq, rfl⟩ := Option.map_eq_some_iff.1 hp
  obtain ⟨hpieces, hlineage, hunlisted, hcls⟩ := h q
  simpa [Pack.sound, hpieces, hlineage, hunlisted, hcls] using hs b q hq

theorem setLabel_keeps (b : Fin 8) (st : LabelState) (s : State) : Keeps l s (setLabel b st s) :=
  modBay_keeps b _ s fun _ => ⟨rfl, rfl, rfl, rfl⟩

theorem startTransmission_keeps (s : State) : Keeps l s (startTransmission s) :=
  modLabels_keeps _ s (by simp [LabelUnit.transmit, modHead_length])

theorem startHead_keeps (s : State) : Keeps l s (startHead s) := by
  unfold startHead
  split
  · exact .refl l s
  · exact (modLabels_keeps _ s id).trans (startTransmission_keeps _)

theorem joinLabels_keeps (b : Fin 8) (pack : Nat) (reprint : Bool) (s : State) (hroom : s.labels.queue.length < 4) :
    Keeps l s (joinLabels b pack reprint s) := by
  unfold joinLabels
  dsimp only
  refine .trans (.trans (setLabel_keeps b _ s) (modLabels_keeps _ _ fun _ => ?_)) (.ite (fun _ => startHead_keeps _) fun _ => .refl l _)
  simp [setLabel]
  omega

theorem admitLabel_keeps (b : Fin 8) (pack : Nat) (s : State) : Keeps l s (admitLabel b pack s) :=
  .ite (fun hroom => joinLabels_keeps b pack false s hroom) fun _ =>
    .trans (.trans (setLabel_keeps b _ s) (modLabels_keeps _ _ id)) (raisePacking_keeps _ _ _)

theorem reportLabel_keeps (e : LabelEntry) (s : State) : Keeps l s (reportLabel e s) := by
  unfold reportLabel
  split
  · exact queueReport_keeps _ s
  · exact .refl l s

theorem reportLabel_labels (e : LabelEntry) (s : State) : (reportLabel e s).labels = s.labels := by
  unfold reportLabel
  split <;> rfl

/-- The head entry leaves the queue and the pack at the head of the waiting list takes its place (R149, R153). -/
theorem serveWaiting_keeps {e : LabelEntry} {rest : List LabelEntry} (s : State) (hqueue : s.labels.queue = e :: rest) :
    Keeps l s (serveWaiting (s.modLabels fun u => { u with queue := rest, head := none })) := by
  unfold serveWaiting
  split
  · exact modLabels_keeps _ s (by simp [hqueue]; omega)
  · exact (modLabels_keeps (fun u => { u with queue := rest ++ _, head := none, waiting := _ }) s (by simp [hqueue])).trans
      (setLabel_keeps _ _ _)

theorem labelAcknowledged_keeps (s : State) : Keeps l s (labelAcknowledged s) := by
  unfold labelAcknowledged
  split
  case h_2 => exact .refl l s
  case h_1 e rest _ hqueue =>
    dsimp only
    generalize hprinted : s.modBay e.bay _ = printed
    have hprint : Keeps l s printed := by
      rw [← hprinted]
      exact modBay_keeps _ _ s fun _ => ⟨rfl, rfl, rfl, rfl⟩
    have hlabels : (reportLabel e printed).labels.queue = e :: rest := by
      rw [reportLabel_labels, ← hprinted]
      exact hqueue
    refine ((hprint.trans (reportLabel_keeps e _)).trans (serveWaiting_keeps _ hlabels)).trans ?_
    exact .ite (fun _ => modLabels_keeps _ _ id) fun _ => startHead_keeps _

theorem transmissionFailed_keeps (e : LabelEntry) (s : State) : Keeps l s (transmissionFailed e s) := by
  have hhead (s : State) : Keeps l s (s.modLabels (LabelUnit.modHead fun e => { e with timeoutReported := true })) :=
    modLabels_keeps _ s (by rw [modHead_length]; exact id)
  unfold transmissionFailed
  dsimp only
  exact .trans (.ite (fun _ => .refl l s) fun _ => (hhead s).trans (raisePacking_keeps _ _ _)) (modLabels_keeps _ _ id)

theorem labelRejected_keeps (s : State) : Keeps l s (labelRejected s) := by
  unfold labelRejected
  split
  case h_2 => exact .refl l s
  case h_1 e rest _ _ =>
    refine (raisePacking_keeps _ _ s).trans (.ite (fun _ => transmissionFailed_keeps e _) fun _ => ?_)
    exact (modLabels_keeps _ _ (by rw [modHead_length]; exact id)).trans (startTransmission_keeps _)

theorem labelUnanswered_keeps (s : State) : Keeps l s (labelUnanswered s) := by
  unfold labelUnanswered
  split
  · exact transmissionFailed_keeps _ s
  · exact .refl l s

theorem labelSent_keeps (s : State) : Keeps l s (labelSent s) := by
  unfold labelSent
  split
  · exact modLabels_keeps _ s id
  · exact .refl l s

theorem labelRetry_keeps (s : State) : Keeps l s (labelRetry s) := by
  unfold labelRetry
  split
  · exact startTransmission_keeps s
  · exact .refl l s

theorem printerAnswered_keeps (a : PrinterAnswer) (s : State) : Keeps l s (printerAnswered a s) := by
  cases a with
  | ack => exact labelAcknowledged_keeps s
  | nak => exact labelRejected_keeps s
  | busy => exact labelUnanswered_keeps s

theorem otherLine_keeps (line : List Byte) (s : State) : Keeps l s (otherLine line s) := by
  unfold otherLine
  split
  · exact printerAnswered_keeps _ s
  · exact .refl l s

theorem actReprint_keeps (payload : List Byte) (s : State) : Keeps l s (actReprint payload s).1 := by
  unfold actReprint
  split
  · exact .refl l s
  split
  · exact .refl l s
  split
  · exact .refl l s
  case isFalse hroom =>
    refine .trans ?_ (joinLabels_keeps _ _ _ _ (by exact Nat.lt_of_not_le hroom))
    exact modBay_keeps _ _ s fun _ => ⟨rfl, rfl, rfl, rfl⟩

end Sys2Proof.Proofs.Invariants
end

section
/-!
The boards and the charge records change together (sections 3.4, 7.7 to 7.10): a board taken from the queue is in hand until it is
held or has landed, a decision is written and counted, the queue is emptied, a board enters.
-/
namespace Sys2Proof.Proofs.Invariants
open Sys2Proof.Machine
set_option Elab.async false

variable {l : Leave} {s t : State} {b : Board} {i : Nat}

/-! ## States with the same boards and records -/

/-- Records, queue and hold list as they were. -/
structure SameBoards (s t : State) : Prop where
  records : t.charges.records = s.charges.records := by rfl
  queue : t.line.queue = s.line.queue := by rfl
  held : t.packs.held = s.packs.held := by rfl

theorem SameBoards.trans {u : State} (h : SameBoards s t) (g : SameBoards t u) : SameBoards s u :=
  ⟨g.records.trans h.records, g.queue.trans h.queue, g.held.trans h.held⟩

theorem SameBoards.boardsSound (h : SameBoards s t) (hs : s.boardsSound) : t.boardsSound := by
  have hmap := RecordsMap.id s t h.records
  obtain ⟨-, -, hq, hh⟩ := boardsSound_iff.1 hs
  refine boardsSound_map hmap hs (fun c _ hc => ?_) (by rwa [h.queue]) (by rwa [h.held])
  simpa [recordSound, State.boardsOf, State.pendingOf, h.queue, h.held] using hc

theorem SameBoards.boardsKept (h : SameBoards s t) : boardsKept s → boardsKept t :=
  boardsKept_congr h.records h.queue h.held

theorem enterLine_sameBoards (st : LineState) (ret : Option ReturnState) (cause : LineCause) (s : State) :
    SameBoards s (enterLine st ret cause s) := {}

theorem trip_sameBoards (cause : LineCause) (s : State) : SameBoards s (trip cause s) := by
  unfold trip
  split
  · exact {}
  · exact enterLine_sameBoards ..

theorem raise_sameBoards (kind : FaultKind) (d : Domain) (x : FaultContext) (s : State) : SameBoards s (raise kind d x s) where
  records := by rw [raise_charges]
  held := by rw [raise_packs]
  queue := by
    unfold raise applyActions
    dsimp only
    repeat' split
    all_goals simp [(trip_sameBoards _ _).queue]

theorem settleGates_sameBoards (s : State) : SameBoards s (settleGates s) := by
  unfold settleGates
  dsimp only
  split <;> split <;> exact {}

/-! ## A board in hand -/

def withHeld (held : List HeldBoard) (s : State) : State := { s with packs := { s.packs with held := held } }

/-- The balance while one board is neither in the queue nor in the hold list: as if the hold list had taken it. -/
def inHand (h : HeldBoard) (s : State) : Prop := boardsKept (withHeld (s.packs.held ++ [h]) s)

theorem SameBoards.inHand {h : HeldBoard} (hst : SameBoards s t) : inHand h s → inHand h t :=
  boardsKept_congr hst.records hst.queue (by simp [withHeld, hst.held])

theorem boardsOf_of_getElem? (hb : s.line.queue[i]? = some b) (n : Nat) :
    s.boardsOf n = (s.line.queue.eraseIdx i).countP (fun b => decide (b.charge = some n)) +
      (if b.charge = some n then 1 else 0) + s.packs.held.countP (fun h => decide (h.charge = n)) := by
  obtain ⟨hi, rfl⟩ := List.getElem?_eq_some_iff.1 hb
  rw [State.boardsOf, ← (List.getElem_cons_eraseIdx_perm hi).countP_eq, List.countP_cons]
  simp

theorem pendingOf_of_getElem? (hb : s.line.queue[i]? = some b) (n : Nat) :
    s.pendingOf n = (s.line.queue.eraseIdx i).countP (fun b => decide (b.charge = some n) && decide (b.decision = .pending)) +
      (if b.charge = some n ∧ b.decision = .pending then 1 else 0) := by
  obtain ⟨hi, rfl⟩ := List.getElem?_eq_some_iff.1 hb
  rw [State.pendingOf, ← (List.getElem_cons_eraseIdx_perm hi).countP_eq, List.countP_cons]
  simp

/-- A decided board of a charge that leaves the queue is in hand. -/
theorem inHand_of_erase {h : HeldBoard} (hb : s.line.queue[i]? = some b) (hdecided : b.decision ≠ .pending)
    (hcharge : b.charge = some h.charge) (hrecords : t.charges.records = s.charges.records)
    (hqueue : t.line.queue = s.line.queue.eraseIdx i) (hheld : t.packs.held = s.packs.held) (hs : boardsKept s) :
    inHand h t := by
  obtain ⟨hsound, htop⟩ := boardsKept_iff.1 hs
  obtain ⟨-, -, hq, hh⟩ := boardsSound_iff.1 hsound
  have hmap : RecordsMap (fun c => c) s (withHeld (t.packs.held ++ [h]) t) := RecordsMap.id _ _ hrecords
  refine boardsKept_iff.2 ⟨boardsSound_map hmap hsound (fun c _ hc => ?_) (fun d hd => ?_) (fun g hg => ?_),
    enteredBelowTop_map hmap (fun _ => rfl) htop⟩
  · rw [recordSound, boardsOf_of_getElem? hb, pendingOf_of_getElem? hb] at hc
    obtain ⟨hflight, hentered⟩ := hc
    refine ⟨?_, ?_⟩
    · simp only [withHeld, State.boardsOf, hqueue, hheld, List.countP_append, List.countP_singleton]
      simp only [hcharge, Option.some_inj] at hflight
      simp only [decide_eq_true_eq]
      omega
    · simpa [withHeld, State.pendingOf, hqueue, hdecided] using hentered
  · simp only [withHeld, hqueue] at hd
    exact hq d (List.mem_of_mem_eraseIdx hd)
  · simp only [withHeld, hheld, List.mem_append, List.mem_singleton] at hg
    obtain hg | rfl := hg
    · exact hh g hg
    · exact (hq b (List.mem_of_getElem? hb)).1 _ hcharge

/-- A board of no charge leaves the queue. -/
theorem boardsKept_of_erase (hb : s.line.queue[i]? = some b) (hcharge : b.charge = none)
    (hrecords : t.charges.records = s.charges.records)
    (hqueue : t.line.queue = s.line.queue.eraseIdx i) (hheld : t.packs.held = s.packs.held) (hs : boardsKept s) :
    boardsKept t := by
  obtain ⟨hsound, htop⟩ := boardsKept_iff.1 hs
  obtain ⟨-, -, hq, hh⟩ := boardsSound_iff.1 hsound
  have hmap := RecordsMap.id s t hrecords
  refine boardsKept_iff.2 ⟨boardsSound_map hmap hsound (fun c _ hc => ?_) (fun d hd => ?_) (by rwa [hheld]),
    enteredBelowTop_map hmap (fun _ => rfl) htop⟩
  · rw [recordSound, boardsOf_of_getElem? hb, pendingOf_of_getElem? hb] at hc
    simpa [recordSound, State.boardsOf, State.pendingOf, hqueue, hheld, hcharge] using hc
  · rw [hqueue] at hd
    exact hq d (List.mem_of_mem_eraseIdx hd)

/-- A change of a record that counts one board in flight less and leaves its planer counts. -/
def landsOne (f : ChargeRecord → ChargeRecord) : Prop :=
  ∀ c, (f c).number = c.number ∧ (f c).counts = c.counts ∧ (f c).inFlight = c.inFlight - 1

theorem landed_landsOne : landsOne ChargeRecord.landed := fun _ => ⟨rfl, rfl, rfl⟩

theorem appended_landsOne (first : Bool) : landsOne (ChargeRecord.appended first) := fun c => by
  cases first <;> exact ⟨rfl, rfl, rfl⟩

/-- The board in hand lands: its record counts one in flight less (R46, R47). -/
theorem boardsKept_of_landed {f : ChargeRecord → ChargeRecord} (hf : landsOne f) {h : HeldBoard} (hs : inHand h s) :
    boardsKept (s.modCharge h.charge f) := by
  obtain ⟨hsound, htop⟩ := boardsKept_iff.1 hs
  obtain ⟨-, -, hq, hh⟩ := boardsSound_iff.1 hsound
  have hmap : RecordsMap (fun c => if c.number = h.charge then f c else c) (withHeld (s.packs.held ++ [h]) s)
      (s.modCharge h.charge f) := ⟨(RecordsMap.modCharge (fun c => (hf c).1) h.charge s).number, rfl⟩
  refine boardsKept_iff.2 ⟨boardsSound_map hmap hsound (fun c _ hc => ?_) hq (fun g hg => hh g (List.mem_append_left _ hg)),
    enteredBelowTop_map hmap (fun c => ?_) htop⟩
  · obtain ⟨hnumber, hcounts, hflight⟩ := hf c
    obtain ⟨hboards, hentered⟩ := hc
    simp only [withHeld, State.boardsOf, List.countP_append, List.countP_singleton, decide_eq_true_eq] at hboards
    split
    case isTrue hn =>
      refine ⟨?_, by rw [settledCount, hcounts, hnumber]; exact hentered⟩
      rw [if_pos hn.symm] at hboards
      simp only [State.boardsOf, modCharge_line, modCharge_packs, hnumber]
      omega
    case isFalse hn =>
      refine ⟨?_, hentered⟩
      rw [if_neg (Ne.symm hn)] at hboards
      simpa [State.boardsOf] using hboards
  · split <;> simp [hf c]

/-! ## Changes of a board in the queue -/

theorem modify_eq_set {α : Type} {xs : List α} {a : α} (f : α → α) (ha : xs[i]? = some a) : xs.modify i f = xs.set i (f a) := by
  simp [List.modify_eq_set_getElem?, ha]

theorem modify_eq_self {α : Type} {xs : List α} (f : α → α) (ha : xs[i]? = none) : xs.modify i f = xs := by
  simp [List.modify_eq_set_getElem?, ha]

theorem countP_modify {α : Type} {xs : List α} {a : α} (f : α → α) (p : α → Bool) (ha : xs[i]? = some a) :
    (xs.modify i f).countP p + (if p a then 1 else 0) = xs.countP p + (if p (f a) then 1 else 0) := by
  rw [modify_eq_set f ha]
  obtain ⟨hi, rfl⟩ := List.getElem?_eq_some_iff.1 ha
  have := List.boole_getElem_le_countP (p := p) hi
  rw [List.countP_set hi]
  omega

/-- The boards of a charge, where the record at a place changes and keeps its charge. -/
theorem boardsOf_modify {f : Board → Board} (hb : s.line.queue[i]? = some b) (hcharge : (f b).charge = b.charge)
    (hqueue : t.line.queue = s.line.queue.modify i f) (hheld : t.packs.held = s.packs.held) (n : Nat) :
    t.boardsOf n = s.boardsOf n := by
  have := countP_modify f (fun b => decide (b.charge = some n)) hb
  simp only [hcharge, Nat.add_right_cancel_iff] at this
  rw [State.boardsOf, State.boardsOf, hqueue, hheld, this]

/-- The record at a place changes in nothing that the balance speaks of. -/
theorem modBoard_keeps (f : Board → Board) (s : State)
    (hf : ∀ b, s.line.queue[i]? = some b → (f b).charge = b.charge ∧ (f b).decision = b.decision ∧
      ((f b).spansRedry = true ∨ (f b).spansReject = true → b.spansRedry = true ∨ b.spansReject = true ∨ b.decision ≠ .pending)) :
    Keeps l s (s.modBoard i f) := by
  refine modLine_keeps _ s (hlength := .inr (by simp)) (hboards := fun _ h => ?_)
  change boardsKept (s.modBoard i f)
  cases hb : s.line.queue[i]? with
  | none => exact SameBoards.boardsKept (s := s) { queue := modify_eq_self f hb } h
  | some b =>
    obtain ⟨hcharge, hdecision, hspans⟩ := hf b hb
    obtain ⟨hsound, htop⟩ := boardsKept_iff.1 h
    obtain ⟨-, -, hq, hh⟩ := boardsSound_iff.1 hsound
    obtain ⟨hrecord, hnone, hspan⟩ := hq b (List.mem_of_getElem? hb)
    have hmap := RecordsMap.id s (s.modBoard i f) rfl
    refine boardsKept_iff.2 ⟨boardsSound_map hmap hsound (fun c _ hc => ⟨?_, ?_⟩) (fun d hd => ?_) hh,
      enteredBelowTop_map hmap (fun _ => rfl) htop⟩
    · rw [boardsOf_modify (t := s.modBoard i f) hb hcharge rfl rfl]
      exact hc.1
    · have := countP_modify f (fun b => decide (b.charge = some c.number) && decide (b.decision = .pending)) hb
      simp only [hcharge, hdecision, Nat.add_right_cancel_iff] at this
      rw [State.pendingOf, State.modBoard, modLine_line, this]
      exact hc.2
    · rw [State.modBoard, modLine_line, modify_eq_set f hb] at hd
      obtain hd | rfl := List.mem_or_eq_of_mem_set hd
      · exact hq d hd
      · refine ⟨by rwa [hcharge], by rwa [hcharge, hdecision], fun hs => ?_⟩
        rw [hdecision]
        obtain hs | hs | hs := hspans hs
        · exact hspan (.inl hs)
        · exact hspan (.inr hs)
        · exact hs

/-! ## A decision -/

/-- The mean's statistics are no part of the balance. -/
theorem decided_shape (d : Decision) (mean : Option Nat) (c : ChargeRecord) :
    (c.decided d mean).number = c.number ∧ (c.decided d mean).inFlight = c.inFlight ∧
      (c.decided d mean).counts = c.counts.decided c.number d := by
  unfold ChargeRecord.decided
  cases mean with
  | none => exact ⟨rfl, rfl, rfl⟩
  | some m =>
    dsimp only
    split <;> exact ⟨rfl, rfl, rfl⟩

theorem raiseCount_of_lt {number n : Nat} (h : n < 4294967295) : raiseCount number n = n + 1 := if_pos h

/-- A decision leaves the entered count and adds one to the others, none of which is at its top (R45). -/
theorem decided_counts {d : Decision} (hd : d ≠ .pending) (mean : Option Nat) {c : ChargeRecord}
    (htop : settledCount c < 4294967295) :
    (c.decided d mean).counts.entered = c.counts.entered ∧ settledCount (c.decided d mean) = settledCount c + 1 := by
  obtain ⟨-, -, hcounts⟩ := decided_shape d mean c
  unfold settledCount at htop ⊢
  rw [hcounts]
  have hraise {n : Nat} (hn : n ≤ settledCount c) : raiseCount c.number n = n + 1 :=
    raiseCount_of_lt (hn.trans_lt htop)
  unfold settledCount at hraise
  cases d with
  | pending => exact absurd rfl hd
  | accept cls => simp only [PlanerCounts.decided, hraise (n := c.counts.accepted) (by omega), true_and]; omega
  | redry => simp only [PlanerCounts.decided, hraise (n := c.counts.redry) (by omega), true_and]; omega
  | reject reason => simp only [PlanerCounts.decided, hraise (n := c.counts.rejected) (by omega), true_and]; omega
  | unmeasured => simp only [PlanerCounts.decided, hraise (n := c.counts.unmeasured) (by omega), true_and]; omega

/-- A PENDING board of the queue takes its decision, and its record counts it (R45, R48). -/
theorem boardsKept_of_decided {f : Board → Board} {n : Nat} {mean : Option Nat} (hb : s.line.queue[i]? = some b)
    (hpending : b.decision = .pending) (hcharge : b.charge = some n) (hcharge' : (f b).charge = some n)
    (hdecided : (f b).decision ≠ .pending)
    (hmap : RecordsMap (fun c => if c.number = n then c.decided (f b).decision mean else c) s t)
    (hqueue : t.line.queue = s.line.queue.modify i f) (hheld : t.packs.held = s.packs.held) (hs : boardsKept s) :
    boardsKept t := by
  obtain ⟨hsound, htop⟩ := boardsKept_iff.1 hs
  obtain ⟨-, hrec, hq, hh⟩ := boardsSound_iff.1 hsound
  have hpendingOf (m : Nat) : t.pendingOf m + (if m = n then 1 else 0) = s.pendingOf m := by
    have := countP_modify f (fun b => decide (b.charge = some m) && decide (b.decision = .pending)) hb
    rw [State.pendingOf, State.pendingOf, hqueue]
    simpa [hcharge, hcharge', hpending, hdecided, eq_comm] using this
  have hbelow {c : ChargeRecord} (hc : holdsRecord s c) (hn : c.number = n) : settledCount c < 4294967295 := by
    have hentered := (hrec c hc).2
    have := htop c hc
    omega
  have hcount {c : ChargeRecord} (hc : holdsRecord s c) (hn : c.number = n) :=
    decided_counts hdecided mean (hbelow hc hn)
  refine boardsKept_iff.2 ⟨boardsSound_map hmap hsound (fun c hc hsound => ?_) (fun d hd => ?_) (by rwa [hheld]), fun d hd => ?_⟩
  · obtain ⟨hflight, hentered⟩ := hsound
    have hpend := hpendingOf c.number
    rw [← boardsOf_modify hb (hcharge'.trans hcharge.symm) hqueue hheld] at hflight
    split
    case isTrue hn =>
      obtain ⟨hnumber, hflight', -⟩ := decided_shape (f b).decision mean c
      obtain ⟨hentered', hsettled⟩ := hcount hc hn
      rw [if_pos hn] at hpend
      refine ⟨by rw [hflight', hnumber]; exact hflight, ?_⟩
      rw [hentered', hsettled, hnumber]
      omega
    case isFalse hn =>
      rw [if_neg hn] at hpend
      exact ⟨hflight, by omega⟩
  · rw [hqueue, modify_eq_set f hb] at hd
    obtain hd | rfl := List.mem_or_eq_of_mem_set hd
    · exact hq d hd
    · refine ⟨fun m hm => (hq b (List.mem_of_getElem? hb)).1 m ?_, fun hnone => ?_, fun _ => hdecided⟩
      · rw [hcharge, ← hm, hcharge']
      · simp [hcharge'] at hnone
  · obtain ⟨c, hc, rfl⟩ := hmap.holdsRecord_iff.1 hd
    split
    case isTrue hn => rw [(hcount hc hn).1]; exact htop c hc
    case isFalse => exact htop c hc

end Sys2Proof.Proofs.Invariants
end

section
/-!
The boards of the queue settled in their records as the queue is emptied (R48, R52, R113), and a board that enters with the feed
charge, into the queue or past a full one (R44).
-/
namespace Sys2Proof.Proofs.Invariants
open Sys2Proof.Machine
set_option Elab.async false

variable {l : Leave} {s t : State} {b : Board} {i : Nat}

/-! ## The queue is emptied -/

def withQueue (queue : List Board) (s : State) : State := s.modLine fun l => { l with queue := queue }

/-- The boards settled in their records, head first (R48). -/
def untrackBoards (boards : List Board) (s : State) : State :=
  boards.foldl (fun s b => countCharge b.charge (ChargeRecord.untrack (decide (b.decision = .pending))) s) s

theorem untrack_shape (pending : Bool) {c : ChargeRecord} (htop : settledCount c < 4294967295) :
    (c.untrack pending).number = c.number ∧ (c.untrack pending).inFlight = c.inFlight - 1 ∧
      (c.untrack pending).counts.entered = c.counts.entered ∧
      settledCount (c.untrack pending) = settledCount c + (if pending = true then 1 else 0) := by
  cases pending with
  | false => exact ⟨rfl, rfl, rfl, rfl⟩
  | true =>
    refine ⟨rfl, rfl, rfl, ?_⟩
    have hraise : raiseCount c.number c.counts.untracked = c.counts.untracked + 1 :=
      raiseCount_of_lt (by unfold settledCount at htop; omega)
    simp only [settledCount, ChargeRecord.untrack, ChargeRecord.landed, if_true, hraise]
    omega

theorem untrack_number (pending : Bool) (c : ChargeRecord) : (c.untrack pending).number = c.number := by
  cases pending <;> rfl

/-- The head of the queue leaves it and is settled in its record. -/
theorem boardsKept_of_untracked {rest : List Board} (hqueue : s.line.queue = b :: rest) (hs : boardsKept s) :
    boardsKept (countCharge b.charge (ChargeRecord.untrack (decide (b.decision = .pending))) (withQueue rest s)) := by
  have hb : s.line.queue[0]? = some b := by rw [hqueue]; rfl
  have herase : s.line.queue.eraseIdx 0 = rest := by rw [hqueue]; rfl
  cases hcharge : b.charge with
  | none => exact boardsKept_of_erase hb hcharge rfl herase.symm rfl hs
  | some n =>
    obtain ⟨hsound, htop⟩ := boardsKept_iff.1 hs
    obtain ⟨-, hrec, hq, hh⟩ := boardsSound_iff.1 hsound
    have hmap : RecordsMap (fun c => if c.number = n then c.untrack (decide (b.decision = .pending)) else c) s
        ((withQueue rest s).modCharge n (ChargeRecord.untrack (decide (b.decision = .pending)))) :=
      ⟨(RecordsMap.modCharge (untrack_number _) n s).number, rfl⟩
    have hbelow {c : ChargeRecord} (hc : holdsRecord s c) : settledCount c < 4294967295 := by
      have := (hrec c hc).2
      have := htop c hc
      omega
    change boardsKept ((withQueue rest s).modCharge n _)
    refine boardsKept_iff.2 ⟨boardsSound_map hmap hsound (fun c hc hsound => ?_)
      (fun d hd => hq d (by rw [hqueue]; exact List.mem_cons_of_mem _ hd)) hh, fun d hd => ?_⟩
    · obtain ⟨hnumber, hflight', hentered', hsettled⟩ := untrack_shape (decide (b.decision = .pending)) (hbelow hc)
      rw [recordSound, boardsOf_of_getElem? hb, pendingOf_of_getElem? hb, herase, hcharge] at hsound
      simp only [Option.some_inj] at hsound
      obtain ⟨hflight, hentered⟩ := hsound
      by_cases hn : c.number = n
      · rw [if_pos hn.symm] at hflight
        simp only [hn.symm, true_and] at hentered
        rw [if_pos hn]
        refine ⟨?_, ?_⟩
        · rw [hflight', hnumber]
          simp only [State.boardsOf, modCharge_line, modCharge_packs, withQueue, modLine_line, modLine_packs]
          omega
        · rw [hentered', hsettled, hnumber]
          simp only [State.pendingOf, modCharge_line, withQueue, modLine_line, decide_eq_true_eq]
          omega
      · rw [if_neg (Ne.symm hn)] at hflight
        rw [if_neg fun h => hn h.1.symm] at hentered
        rw [if_neg hn]
        exact ⟨hflight, hentered⟩
    · obtain ⟨c, hc, rfl⟩ := hmap.holdsRecord_iff.1 hd
      split
      · rw [(untrack_shape _ (hbelow hc)).2.2.1]
        exact htop c hc
      · exact htop c hc

theorem countCharge_withQueue (o : Option Nat) (f : ChargeRecord → ChargeRecord) (queue : List Board) (s : State) :
    countCharge o f (withQueue queue s) = withQueue queue (countCharge o f s) := by
  cases o <;> rfl

/-- Every board of the queue is settled, and none is left (R48). -/
theorem boardsKept_of_untrackBoards (boards : List Board) (s : State) (hs : boardsKept (withQueue boards s)) :
    boardsKept (withQueue [] (untrackBoards boards s)) := by
  induction boards generalizing s with
  | nil => exact hs
  | cons b rest ih =>
    refine ih _ ?_
    rw [← countCharge_withQueue]
    exact boardsKept_of_untracked (s := withQueue (b :: rest) s) rfl hs

theorem modCharge_open (he : l.entry = true) (n : Nat) (f : ChargeRecord → ChargeRecord) (s : State) :
    Keeps l s (s.modCharge n f) where
  boards hf := by simp [he] at hf

theorem countCharge_open (he : l.entry = true) (o : Option Nat) (f : ChargeRecord → ChargeRecord) (s : State) :
    Keeps l s (countCharge o f s) := by
  cases o with
  | none => exact .refl l s
  | some n => exact modCharge_open he n f s

theorem untrackBoards_open (he : l.entry = true) (boards : List Board) (s : State) : Keeps l s (untrackBoards boards s) :=
  .foldl boards (fun s b _ => countCharge_open he b.charge _ s) s

/-- A change that closes the balance again keeps it. -/
theorem Keeps.close (h : Keeps { l with entry := true } s t) (hboards : boardsKept s → boardsKept t) : Keeps l s t :=
  { h with boards := fun _ => hboards }

theorem withQueue_open (he : l.entry = true) (queue : List Board) (s : State)
    (hlength : queue.length ≤ 16 ∨ queue.length ≤ s.line.queue.length) : Keeps l s (withQueue queue s) :=
  modLine_keeps _ s (hlength := hlength) (hboards := fun hf => by simp [he] at hf)

theorem untrackBoards_withQueue (queue boards : List Board) (s : State) :
    untrackBoards boards (withQueue queue s) = withQueue queue (untrackBoards boards s) := by
  induction boards generalizing s with
  | nil => rfl
  | cons b rest ih =>
    simp only [untrackBoards, List.foldl_cons, countCharge_withQueue]
    exact ih _

theorem withQueue_self (s : State) : withQueue s.line.queue s = s := rfl

theorem emptyQueue_eq (s : State) : emptyQueue s =
    freeTests (s.line.queue.filterMap (·.charge)) (settleGates (withQueue [] (untrackBoards s.line.queue s))) := by
  rw [← untrackBoards_withQueue]
  rfl

theorem emptyQueue_keeps (s : State) : Keeps l s (emptyQueue s) := by
  rw [emptyQueue_eq]
  refine .trans (Keeps.close ?_ (boardsKept_of_untrackBoards s.line.queue s)) ((settleGates_keeps _).trans (freeTests_keeps _ _))
  exact (untrackBoards_open rfl _ s).trans (withQueue_open rfl [] _ (.inl (by simp)))

theorem clearTracking_keeps (s : State) : Keeps l s (clearTracking s) :=
  (emptyQueue_keeps s).trans (modLine_keeps _ _)

/-! ## A board enters -/

theorem feedCharge_eq_some {c : ChargeRecord} (h : s.feedCharge = some c) : holdsRecord s c := by
  obtain ⟨o, ho, hc⟩ := List.exists_of_findSome?_eq_some h
  cases o with
  | none => simp at hc
  | some d =>
    obtain ⟨-, rfl⟩ : d.state = .planing ∧ d = c := by simpa using hc
    exact holdsRecord_iff_mem.2 ho

/-- A board of the feed charge enters the queue, and its record counts it (R44). -/
theorem boardsSound_of_entered {n : Nat} (hn : (s.charge? n).isSome = true) (hcharge : b.charge = some n)
    (hdecision : b.decision = .pending) (hspan : b.spansRedry = false ∧ b.spansReject = false)
    (hrecords : t.charges.records = (s.modCharge n ChargeRecord.entered).charges.records)
    (hqueue : t.line.queue = s.line.queue ++ [b]) (hheld : t.packs.held = s.packs.held) (hs : boardsKept s) :
    t.boardsSound := by
  obtain ⟨hsound, htop⟩ := boardsKept_iff.1 hs
  obtain ⟨-, -, hq, hh⟩ := boardsSound_iff.1 hsound
  have hmap : RecordsMap (fun c => if c.number = n then c.entered else c) s t :=
    ⟨(RecordsMap.modCharge (f := ChargeRecord.entered) (fun _ => rfl) n s).number, hrecords⟩
  refine boardsSound_map hmap hsound (fun c hc hsound => ?_) (fun d hd => ?_) (by rwa [hheld])
  · obtain ⟨hflight, hentered⟩ := hsound
    have hflight' : t.boardsOf c.number = s.boardsOf c.number + if c.number = n then 1 else 0 := by
      simp only [State.boardsOf, hqueue, hheld, List.countP_append, List.countP_singleton, hcharge, decide_eq_true_eq,
        Option.some_inj, eq_comm (a := n)]
      omega
    have hpending' : t.pendingOf c.number = s.pendingOf c.number + if c.number = n then 1 else 0 := by
      simp [State.pendingOf, hqueue, List.countP_append, List.countP_singleton, hcharge, hdecision, eq_comm (a := n)]
    split
    case isTrue hn' =>
      rw [if_pos hn'] at hflight' hpending'
      have hraise : raiseCount c.number c.counts.entered = c.counts.entered + 1 := raiseCount_of_lt (htop c hc)
      refine ⟨?_, ?_⟩
      · simp only [ChargeRecord.entered]
        omega
      · simp only [ChargeRecord.entered, settledCount, hraise]
        unfold settledCount at hentered
        omega
    case isFalse hn' =>
      rw [if_neg hn'] at hflight' hpending'
      exact ⟨by omega, by omega⟩
  · rw [hqueue, List.mem_append, List.mem_singleton] at hd
    obtain hd | rfl := hd
    · exact hq d hd
    · refine ⟨fun m hm => ?_, fun hnone => by simp [hcharge] at hnone, fun h => by simp [hspan] at h⟩
      obtain rfl : n = m := Option.some_inj.1 (hcharge.symm.trans hm)
      exact hn

/-- A board without a charge enters the queue (R121). -/
theorem boardsSound_of_uncharged (hcharge : b.charge = none) (hdecision : b.decision = .reject .noCharge)
    (hrecords : t.charges.records = s.charges.records) (hqueue : t.line.queue = s.line.queue ++ [b])
    (hheld : t.packs.held = s.packs.held) (hs : boardsKept s) : t.boardsSound := by
  obtain ⟨-, -, hq, hh⟩ := boardsSound_iff.1 hs.1
  refine boardsSound_map (RecordsMap.id s t hrecords) hs.1 (fun c _ hc => ?_) (fun d hd => ?_) (by rwa [hheld])
  · simpa [recordSound, State.boardsOf, State.pendingOf, hqueue, hheld, List.countP_append, hcharge] using hc
  · rw [hqueue, List.mem_append, List.mem_singleton] at hd
    obtain hd | rfl := hd
    · exact hq d hd
    · exact ⟨fun m hm => by simp [hcharge] at hm, fun _ => hdecision, fun _ => by simp [hdecision]⟩

/-- A board of the feed charge passes a full queue: it is entered and untracked at once (R44). -/
theorem boardsSound_of_overran {n : Nat} (hs : boardsKept s) : (s.modCharge n ChargeRecord.overran).boardsSound := by
  obtain ⟨hsound, htop⟩ := boardsKept_iff.1 hs
  obtain ⟨-, -, hq, hh⟩ := boardsSound_iff.1 hsound
  refine boardsSound_map (.modCharge (f := ChargeRecord.overran) (fun _ => rfl) n s) hsound (fun c hc hsound => ?_) hq hh
  obtain ⟨hflight, hentered⟩ := hsound
  split
  · have hbelow := htop c hc
    have hraise : raiseCount c.number c.counts.entered = c.counts.entered + 1 := raiseCount_of_lt hbelow
    unfold settledCount at hentered
    have hraise' : raiseCount c.number c.counts.untracked = c.counts.untracked + 1 := raiseCount_of_lt (by omega)
    refine ⟨hflight, ?_⟩
    simp only [ChargeRecord.overran, settledCount, hraise, hraise', State.pendingOf, modCharge_line]
    unfold State.pendingOf at hentered
    omega
  · exact ⟨hflight, hentered⟩

end Sys2Proof.Proofs.Invariants
end

section
/-!
The pack builder (chapter 8): what an append makes of a pack, and the board in hand that it lands. The piece counts and classes of the
packs, the hold list within its capacity, and the balance of the boards.
-/
namespace Sys2Proof.Proofs.Invariants
open Sys2Proof.Machine
set_option Elab.async false

variable {l : Leave} {s t : State}

/-! ## Bays of a class (R132) -/

theorem bayClass_classBays (c : Fin 4) : bayClass (classBays c).1 = c ∧ bayClass (classBays c).2 = c := by
  constructor <;> apply Fin.ext <;> simp only [bayClass, classBays] <;> omega

theorem openBay_eq_some {p : PackBuilder} {c : Fin 4} {b : Fin 8} (h : p.openBay c = some b) :
    ∃ k, p.bays[b] = some k ∧ k.state = .opened := by
  have := List.find?_some h
  split at this
  case h_1 k hk => exact ⟨k, hk, by simpa using this⟩
  case h_2 => cases this

theorem freeBay_eq_some {p : PackBuilder} {c : Fin 4} {b : Fin 8} (h : p.freeBay c = some b) :
    p.bays[b] = none ∧ bayClass b = c := by
  refine ⟨by simpa using List.find?_some h, ?_⟩
  have hb : b = (classBays c).1 ∨ b = (classBays c).2 := by simpa using List.mem_of_find?_eq_some h
  obtain rfl | rfl := hb
  · exact (bayClass_classBays c).1
  · exact (bayClass_classBays c).2

/-! ## One board more in a pack (R135) -/

theorem mem_charges_iff_lists {lineage : List LineageEntry} {charge : Nat} :
    lists lineage charge = true ↔ charge ∈ lineage.map (·.charge) := by
  simp [lists]

theorem sum_pieces_raised {lineage : List LineageEntry} {charge : Nat} (hnodup : (lineage.map (·.charge)).Nodup)
    (hmem : charge ∈ lineage.map (·.charge)) :
    ((lineage.map fun e => if e.charge = charge then { e with pieces := e.pieces + 1 } else e).map (·.pieces)).sum =
      (lineage.map (·.pieces)).sum + 1 := by
  have hcount (xs : List LineageEntry) :
      ((xs.map fun e => if e.charge = charge then { e with pieces := e.pieces + 1 } else e).map (·.pieces)).sum =
        (xs.map (·.pieces)).sum + (xs.map (·.charge)).count charge := by
    induction xs with
    | nil => rfl
    | cons e rest ih =>
      simp only [List.map_cons, List.sum_cons, List.count_cons, ih, beq_iff_eq]
      by_cases he : e.charge = charge
      · simp only [he, if_true]
        omega
      · simp only [he, if_false]
        omega
  rw [hcount, List.count_eq_one_of_mem hnodup hmem]

/-- A pack that counts one piece more than its lineage is sound once the lineage has taken the piece (R135 step 3). -/
theorem withLineage_sound (charge : Nat) {p : Pack} (hpieces : p.pieces = (p.lineage.map (·.pieces)).sum + p.unlisted + 1)
    (hlength : p.lineage.length ≤ 4) (hnodup : (p.lineage.map (·.charge)).Nodup) : (p.withLineage charge).sound := by
  unfold Pack.withLineage
  split
  case isTrue hlists =>
    refine ⟨?_, by simpa using hlength, ?_⟩
    · have := sum_pieces_raised hnodup (mem_charges_iff_lists.1 hlists)
      simp only [this, hpieces]
      omega
    · have hcharges : (p.lineage.map fun e => if e.charge = charge then { e with pieces := e.pieces + 1 } else e).map (·.charge) =
          p.lineage.map (·.charge) := by
        rw [List.map_map]
        refine List.map_congr_left fun e _ => ?_
        simp only [Function.comp]
        split <;> rfl
      rw [hcharges]
      exact hnodup
  case isFalse hlists =>
    split
    case isTrue hroom =>
      refine ⟨?_, by simp; omega, ?_⟩
      · simp [hpieces]
        omega
      · have hnot : charge ∉ p.lineage.map (·.charge) := fun h => hlists (mem_charges_iff_lists.2 h)
        simp only [List.map_append, List.map_cons, List.map_nil]
        exact hnodup.append (List.nodup_singleton _) (by simpa using hnot)
    case isFalse => exact ⟨by simp [hpieces]; omega, hlength, hnodup⟩

theorem withLineage_cls (charge : Nat) (p : Pack) : (p.withLineage charge).cls = p.cls := by
  unfold Pack.withLineage
  split
  · rfl
  · split <;> rfl

/-! ## Closing and opening (R134, R136) -/

theorem reportPack_keeps (b : Fin 8) (s : State) : Keeps l s (reportPack b s) := by
  unfold reportPack
  split
  · exact queueReport_keeps _ s
  · exact .refl l s

theorem closePack_keeps (b : Fin 8) (reason : CloseReason) (s : State) : Keeps l s (closePack b reason s) := by
  unfold closePack
  split
  · exact .refl l s
  case h_2 p hp =>
    dsimp only
    exact ((setBay_keeps b _ s fun hs q hq => by obtain rfl := Option.some.inj hq; exact hs b p hp).trans
      (admitLabel_keeps b _ _)).trans (reportPack_keeps b _)

theorem openPack_keeps (b : Fin 8) (c : Fin 4) (s : State) (hb : bayClass b = c) : Keeps l s (openPack b c s) := by
  refine .trans (modStore_keeps _ s) (setBay_keeps b _ _ fun _ q hq => ?_)
  obtain rfl := Option.some.inj hq
  exact ⟨⟨rfl, by simp, List.nodup_nil⟩, hb.symm⟩

theorem openPack_bay (b : Fin 8) (c : Fin 4) (s : State) : ((openPack b c s).packs.bays[b]).isSome = true := by
  simp [openPack]

/-! ## An append -/

/-- An append keeps a pack sound and lands the board in hand (R47, R135). -/
theorem appendBoard_keeps (he : l.entry = true) {free : Nat → State → State} (hfree : ∀ n s, Keeps l s (free n s)) (b : Fin 8)
    (h : HeldBoard) (s : State) : Keeps l s (appendBoard free b h s) := by
  unfold appendBoard
  split
  · exact .refl l s
  case h_2 p hp =>
    refine .trans (.trans (.trans (setBay_keeps b _ s fun hs q hq => ?_) (modCharge_open he _ _ _)) (hfree _ _))
      (.ite (fun _ => closePack_keeps b _ _) fun _ => .refl l _)
    obtain rfl := Option.some.inj hq
    obtain ⟨⟨hpieces, hlength, hnodup⟩, hcls⟩ := hs b p hp
    exact ⟨withLineage_sound _ (by simpa [Pack.withBoard] using hpieces) hlength hnodup, (withLineage_cls _ _).trans hcls⟩

theorem appendBoard_boards {free : Nat → State → State} (hfree : ∀ n s, boardsKept s → boardsKept (free n s)) {b : Fin 8}
    {h : HeldBoard} (hb : (s.packs.bays[b]).isSome = true) (hs : inHand h s) : boardsKept (appendBoard free b h s) := by
  unfold appendBoard
  split
  case h_1 hnone => simp [hnone] at hb
  case h_2 p _ =>
    dsimp only
    generalize hset : s.setBay b _ = u
    have hsame : SameBoards s u := by rw [← hset]; exact {}
    have happended := hfree h.charge _ (boardsKept_of_landed (appended_landsOne (p.givesEntry h.charge)) (hsame.inHand hs))
    split
    · exact (closePack_keeps (l := ⟨true, true, false, true, true⟩) b .count _).boards rfl happended
    · exact happended

theorem packBoard_keeps (he : l.entry = true) {free : Nat → State → State} (hfree : ∀ n s, Keeps l s (free n s)) (h : HeldBoard)
    (s : State) : Keeps l s (packBoard free h s) := by
  unfold packBoard
  split
  · exact appendBoard_keeps he hfree _ h s
  split
  case h_1 b hfreeBay =>
    exact (openPack_keeps b h.cls s (freeBay_eq_some hfreeBay).2).trans (appendBoard_keeps he hfree _ h _)
  · exact .refl l s

theorem packBoard_boards {free : Nat → State → State} (hfree : ∀ n s, boardsKept s → boardsKept (free n s)) {h : HeldBoard}
    (hplace : s.packs.hasPlace h.cls = true) (hs : inHand h s) : boardsKept (packBoard free h s) := by
  unfold packBoard
  split
  case h_1 b hopen =>
    obtain ⟨k, hk, -⟩ := openBay_eq_some hopen
    exact appendBoard_boards hfree (by rw [hk]; rfl) hs
  case h_2 hopen =>
    split
    · exact appendBoard_boards hfree (openPack_bay _ _ _) (SameBoards.inHand {} hs)
    case h_2 hfreeBay => simp [PackBuilder.hasPlace, hopen, hfreeBay] at hplace

/-! ## A board from the outfeed eye (R133, R139) -/

theorem freeTest_boards (n : Nat) (s : State) : boardsKept s → boardsKept (freeTest n s) :=
  (freeTest_keeps (l := ⟨true, true, false, true, true⟩) n s).boards rfl

theorem withHeld_open (he : l.entry = true) (held : List HeldBoard) (s : State) (hlength : s.packs.held.length ≤ 16 → held.length ≤ 16) :
    Keeps l s (withHeld held s) where
  planer h := ⟨h.1, hlength h.2.1, h.2.2⟩
  boards hf := by simp [he] at hf

theorem setOverflow_keeps (n : Nat) (s : State) : Keeps l s { s with packs := { s.packs with overflow := n } } := {}

theorem holdBoard_keeps (he : l.entry = true) (h : HeldBoard) (s : State) : Keeps l s (holdBoard h s) := by
  refine .ite (fun hroom => withHeld_open he _ s fun _ => by simp; omega) fun _ => ?_
  exact (((setOverflow_keeps _ s).trans (modCharge_open he _ _ _)).trans (freeTest_keeps _ _)).trans (raisePacking_keeps _ _ _)

theorem holdBoard_boards {h : HeldBoard} (hs : inHand h s) : boardsKept (holdBoard h s) := by
  unfold holdBoard
  split
  · exact hs
  · exact (raise_sameBoards _ _ _ _).boardsKept (freeTest_boards _ _ (boardsKept_of_landed landed_landsOne (SameBoards.inHand {} hs)))

theorem placeBoard_keeps (he : l.entry = true) (h : HeldBoard) (s : State) : Keeps l s (placeBoard h s) :=
  .ite (fun _ => packBoard_keeps he freeTest_keeps h s) fun _ => holdBoard_keeps he h s

theorem placeBoard_boards {h : HeldBoard} (hs : inHand h s) : boardsKept (placeBoard h s) := by
  unfold placeBoard
  split
  case isTrue hplace => exact packBoard_boards freeTest_boards hplace hs
  case isFalse => exact holdBoard_boards hs

/-! ## Refill and clearing (R140 to R142) -/

theorem takeFirst_perm {α : Type} {test : α → Bool} {xs rest : List α} {a : α} (h : takeFirst test xs = some (a, rest)) :
    (rest ++ [a]).Perm xs ∧ test a = true := by
  induction xs generalizing a rest with
  | nil => simp [takeFirst] at h
  | cons x xs ih =>
    unfold takeFirst at h
    split at h
    case isTrue hx =>
      obtain ⟨rfl, rfl⟩ : x = a ∧ xs = rest := by simpa using h
      exact ⟨List.perm_append_singleton _ _, hx⟩
    case isFalse =>
      obtain ⟨a', rest', hx, heq⟩ : ∃ a' rest', takeFirst test xs = some (a', rest') ∧ (a', x :: rest') = (a, rest) := by
        simpa using h
      obtain ⟨rfl, rfl⟩ : a' = a ∧ x :: rest' = rest := by simpa using heq
      exact ⟨(ih hx).1.cons x, (ih hx).2⟩

/-- The order of the hold list is no part of the balance. -/
theorem boardsKept_withHeld_perm {held : List HeldBoard} (hperm : held.Perm s.packs.held) (hs : boardsKept s) :
    boardsKept (withHeld held s) := by
  obtain ⟨hsound, htop⟩ := boardsKept_iff.1 hs
  obtain ⟨-, -, hq, hh⟩ := boardsSound_iff.1 hsound
  have hmap := RecordsMap.id s (withHeld held s) rfl
  refine boardsKept_iff.2 ⟨boardsSound_map hmap hsound (fun c _ hc => ?_) hq (fun g hg => hh g (hperm.mem_iff.1 hg)),
    enteredBelowTop_map hmap (fun _ => rfl) htop⟩
  simpa [recordSound, State.boardsOf, State.pendingOf, withHeld, hperm.countP_eq] using hc

theorem refill_keeps (c : Fin 4) (n : Nat) (s : State) : Keeps l s (refill c n s).1 := by
  induction n generalizing s with
  | zero => exact .refl l s
  | succ n ih =>
    unfold refill
    split
    · exact .refl l s
    case h_2 h rest hfirst =>
      split
      case isFalse => exact .refl l s
      case isTrue hplace =>
        refine .trans (Keeps.close ?_ fun hs => ?_) (ih _)
        · exact (withHeld_open rfl rest s (by have := takeFirst_length hfirst; omega)).trans
            (packBoard_keeps rfl (fun _ s => .refl _ s) h _)
        · obtain ⟨hperm, hcls⟩ := takeFirst_perm hfirst
          obtain rfl : h.cls = c := by simpa using hcls
          exact packBoard_boards (s := withHeld rest s) (fun _ _ => id) hplace (boardsKept_withHeld_perm (s := s) hperm hs)

theorem unlist_keeps (numbers : List Nat) (s : State) :
    Keeps l s (numbers.foldl (fun s n => s.modCharge n ChargeRecord.unlisted) s) :=
  .foldl numbers (fun s n _ => modCharge_keeps (f := ChargeRecord.unlisted) (fun _ => ⟨rfl, rfl, rfl⟩) n s) s

theorem clearBay_keeps (b : Fin 8) (p : Pack) (s : State) : Keeps l s (clearBay b p s) := by
  have hunlisted := (setBay_keeps (l := l) b none s fun _ _ h => by cases h).trans (unlist_keeps (p.lineage.map (·.charge)) _)
  unfold clearBay
  dsimp only
  generalize List.foldl _ (s.setBay b none) _ = unlisted at hunlisted ⊢
  have hrefilled := hunlisted.trans (refill_keeps (bayClass b) unlisted.packs.held.length unlisted)
  generalize refill _ _ _ = r at hrefilled ⊢
  generalize hdrained : (if (!unlisted.packs.held.isEmpty && r.1.packs.held.isEmpty) = true then drainTest r.1 else r.1) = drained
  have hdrain : Keeps l r.1 drained := by
    rw [← hdrained]
    exact .ite (fun _ => drainTest_keeps _) fun _ => .refl l _
  refine ((hrefilled.trans hdrain).trans ?_).trans (freeTests_keeps _ _)
  exact .ite (fun _ => unblock_keeps _) fun _ => .refl l _

/-! ## The requests of the pack builder -/

theorem actPackClose_keeps (payload : List Byte) (s : State) : Keeps l s (actPackClose payload s).1 := by
  unfold actPackClose
  split
  · exact .refl l s
  split
  · exact .refl l s
  split
  · exact closePack_keeps _ _ s
  · exact .refl l s

theorem actPackTarget_keeps (payload : List Byte) (s : State) : Keeps l s (actPackTarget payload s).1 := by
  unfold actPackTarget
  split
  · exact .refl l s
  · exact {}

theorem actBayCleared_keeps (payload : List Byte) (s : State) : Keeps l s (actBayCleared payload s).1 := by
  unfold actBayCleared
  split
  · exact .refl l s
  split
  · exact .refl l s
  split
  · exact clearBay_keeps _ _ s
  · exact .refl l s

end Sys2Proof.Proofs.Invariants
end

section
/-!
The board tracker (chapter 7): decisions, the points of a board, the eyes and their filters, the encoder, and the assignment of
terminals and the requests of the line, which set the views of the eyes.
-/
namespace Sys2Proof.Proofs.Invariants
open Sys2Proof.Machine
set_option Elab.async false

variable {l : Leave} {s t u : State} {b b' : Board} {i : Nat}

/-! ## A decision is counted (R45) -/

theorem decideBoard_decided (c : LineConfig) (length : Nat) (entry : Option SpeciesEntry) (figures : BoardFigures) :
    decideBoard c length entry figures ≠ .pending := by
  unfold decideBoard
  split
  · simp
  split
  · split
    · simp
    · split <;> simp
  · simp

theorem modBoard_getElem? {f : Board → Board} (hb : s.line.queue[i]? = some b) :
    (s.modBoard i f).line.queue[i]? = some (f b) := by
  simp [State.modBoard, hb]

theorem testRedryRate_keeps (b : Board) (n : Nat) (s : State) : Keeps l s (testRedryRate b n s) := by
  unfold testRedryRate
  split
  · exact .refl l s
  split
  · refine .trans ?_ (raiseLine_keeps _ _ _ _ _)
    exact modCharge_keeps (f := fun c => { c with redryHigh := true }) (fun _ => ⟨rfl, rfl, rfl⟩) n s
  · exact .refl l s

theorem raiseTally_keeps (sp : Fin 8) (s : State) : Keeps l s (raiseTally sp s) := setTally_keeps _ s

/-- What follows a counted decision: the redry tally and the redry rate test. -/
theorem afterDecision_keeps (b : Board) (n : Nat) (sp : Fin 8) (s : State) :
    Keeps l s (if b.decision.measured then testRedryRate b n (if b.decision = .redry then raiseTally sp s else s)
      else if b.decision = .redry then raiseTally sp s else s) := by
  have htally : Keeps l s (if b.decision = .redry then raiseTally sp s else s) :=
    .ite (fun _ => raiseTally_keeps sp s) fun _ => .refl l s
  exact htally.trans (.ite (fun _ => testRedryRate_keeps b n _) fun _ => .refl l _)

theorem countDecision_open (he : l.entry = true) (b : Board) (s : State) : Keeps l s (countDecision b s) := by
  unfold countDecision
  split
  · exact .refl l s
  split
  · exact .refl l s
  · exact (modCharge_open he _ _ s).trans (afterDecision_keeps b _ _ _)

/-- A PENDING board takes its decision and its record counts it; `u` is the state between (R45, R48). -/
theorem countDecision_boards (hb : s.line.queue[i]? = some b) (hpending : b.decision = .pending) (hcharge : b'.charge = b.charge)
    (hdecided : b'.decision ≠ .pending) (hu : SameBoards (s.modBoard i fun _ => b') u) (hs : boardsKept s) :
    boardsKept (countDecision b' u) := by
  obtain ⟨-, -, hq, -⟩ := boardsSound_iff.1 hs.1
  obtain ⟨hrecord, hnone, -⟩ := hq b (List.mem_of_getElem? hb)
  cases hn : b.charge with
  | none => simp [hnone hn] at hpending
  | some n =>
    have hrecords : u.charges.records = s.charges.records := hu.records
    obtain ⟨c, hc⟩ : ∃ c, u.charge? n = some c :=
      Option.isSome_iff_exists.1 (((RecordsMap.id s u hrecords).charge?_isSome n).trans (hrecord n hn))
    unfold countDecision
    simp only [hcharge, hn, hc]
    refine (afterDecision_keeps (l := ⟨true, true, false, true, true⟩) b' n c.species _).boards rfl ?_
    refine boardsKept_of_decided (f := fun _ => b') (mean := (b'.figures.bind (·.moisture)).map (·.mean)) hb hpending hn (hcharge.trans hn) hdecided ?_ hu.queue hu.held hs
    exact ⟨(RecordsMap.modCharge (fun c => (decided_shape b'.decision _ c).1) n u).number,
      by rw [← hrecords]; rfl⟩

/-- The record at a place takes a decision: the queue is as long as it was. -/
theorem modBoard_open (he : l.entry = true) (f : Board → Board) (s : State) : Keeps l s (s.modBoard i f) :=
  modLine_keeps _ s (hlength := .inr (by simp)) (hboards := fun hf => by simp [he] at hf)

theorem reportBoard_keeps (b : Board) (s : State) : Keeps l s (reportBoard b s) := queueReport_keeps _ s

theorem askPlace_keeps (c : Fin 4) (s : State) : Keeps l s (askPlace c s) := by
  unfold askPlace
  refine .ite (fun _ => .refl l s) fun _ => ?_
  have hraised := raisePacking_keeps (l := l) .bayBlock none s
  generalize raisePacking .bayBlock none s = raised at hraised ⊢
  refine hraised.trans ?_
  dsimp only
  split
  case h_1 hstate => exact enterLine_keeps _ _ _ raised (by simp) (.inr (.inl (by rw [hstate]; rfl)))
  case h_2 hstate => exact enterLine_keeps _ _ _ raised (by simp) (.inr (.inl (by rw [hstate]; rfl)))
  all_goals exact .refl l raised

theorem judgeBoard_keeps (s : State) (hb : s.line.queue[i]? = some b) (hpending : b.decision = .pending) :
    Keeps l s (judgeBoard i b s) := by
  unfold judgeBoard
  dsimp only
  generalize hjudged : b.judged s.line.config (s.boardEntry b) = b'
  have hcharge : b'.charge = b.charge := by rw [← hjudged]; rfl
  have hdecided : b'.decision ≠ .pending := by rw [← hjudged]; exact decideBoard_decided _ _ _ _
  have hcounted : Keeps l s (countDecision b' (s.modBoard i fun _ => b')) :=
    Keeps.close ((modBoard_open rfl _ s).trans (countDecision_open rfl b' _))
      (countDecision_boards hb hpending hcharge hdecided {})
  have hreported := hcounted.trans (reportBoard_keeps b' _)
  split
  · exact hreported.trans (askPlace_keeps _ _)
  · exact hreported

theorem forceLate_keeps (s : State) {b₀ : Board} (hb : s.line.queue[i]? = some b₀) (hpending : b₀.decision = .pending)
    (hcharge : b.charge = b₀.charge) : Keeps l s (forceLate i b s) := by
  unfold forceLate
  dsimp only
  refine .trans (.close ?_ ?_) (reportBoard_keeps _ _)
  · exact ((modBoard_open rfl _ s).trans (raiseLine_keeps _ _ _ _ _)).trans (countDecision_open rfl _ _)
  · exact countDecision_boards hb hpending (b' := { b with decision := .reject .late }) hcharge (by simp) (raise_sameBoards ..)

/-! ## The knife (R128) -/

theorem testKnife_keeps (b : Board) (s : State) : Keeps l s (testKnife b s) :=
  .ite (fun _ => (modLine_keeps _ s).trans (raiseLine_keeps _ _ _ _ _)) fun _ => .refl l s

theorem testKnife_sameBoards (b : Board) (s : State) : SameBoards s (testKnife b s) := by
  unfold testKnife
  split
  · exact .trans {} (raise_sameBoards ..)
  · exact {}

/-! ## A board leaves at a gate (R126, R46) -/

theorem leaveAtGate_keeps (s : State) (hb : s.line.queue[i]? = some b) (hdecided : boardsKept s → b.decision ≠ .pending) :
    Keeps l s (leaveAtGate i b s) := by
  have hlanded (hs : boardsKept s) : boardsKept (settleGates
      (countCharge b.charge ChargeRecord.landed (s.modLine fun l => { l with queue := l.queue.eraseIdx i }))) := by
    refine (settleGates_sameBoards _).boardsKept ?_
    cases hcharge : b.charge with
    | none => exact boardsKept_of_erase hb hcharge rfl rfl rfl hs
    | some n =>
      exact boardsKept_of_landed landed_landsOne (h := ⟨b.number, n, 0, 0, 0, 0⟩)
        (inHand_of_erase hb (hdecided hs) hcharge rfl rfl rfl hs)
  have herased : Keeps { l with entry := true } s (s.modLine fun l => { l with queue := l.queue.eraseIdx i }) :=
    modLine_keeps _ s (hlength := .inr (List.length_eraseIdx_le _ _)) (hboards := fun hf => by cases hf)
  unfold leaveAtGate
  dsimp only
  generalize s.modLine _ = erased at hlanded herased ⊢
  have hleft := Keeps.close ((herased.trans (countCharge_open rfl b.charge _ _)).trans (settleGates_keeps _)) hlanded
  refine (hleft.trans ?_).trans (drainTest_keeps _)
  split
  · exact freeTest_keeps _ _
  · exact .refl l _

/-! ## The points of a board (R119, R123 to R126) -/

theorem takeSample_keeps (b : Board) (s : State) : Keeps l s (takeSample i b s) := by
  have hpair (meter temp : Option Nat) (b : Board) : (b.withPair meter temp).charge = b.charge ∧
      (b.withPair meter temp).decision = b.decision ∧ (b.withPair meter temp).spansRedry = b.spansRedry ∧
      (b.withPair meter temp).spansReject = b.spansReject := by
    unfold Board.withPair
    split
    · split <;> exact ⟨rfl, rfl, rfl, rfl⟩
    · exact ⟨rfl, rfl, rfl, rfl⟩
  unfold takeSample
  dsimp only
  refine .ite (fun _ => ?_) fun _ => ?_
  · have hfault : Keeps l s (s.modBoard i fun b => { b with meterFault := true, nextSample := b.nextSample + 1 }) :=
      modBoard_keeps _ s fun b _ => ⟨rfl, rfl, by tauto⟩
    exact .ite (fun _ => hfault) fun _ => hfault.trans (raiseLine_keeps _ _ _ _ _)
  · refine modBoard_keeps _ s fun d _ => ?_
    obtain ⟨hcharge, hdecision, hredry, hreject⟩ := hpair (s.conversionOf .meterIn) (s.conversionOf .tempIn) d
    refine ⟨hcharge, hdecision, fun h => ?_⟩
    rw [← hredry, ← hreject]
    tauto

theorem passMeter_keeps (s : State) (hb : s.line.queue[i]? = some b) : Keeps l s (passMeter i b s) := by
  unfold passMeter
  dsimp only
  generalize hplaned : s.modLine (fun l => { l with planedLength := min 4294967295 (l.planedLength + b.length.getD 0) }) = planed
  have hplane : Keeps l s planed := by
    rw [← hplaned]
    exact modLine_keeps _ s
  have hb' : planed.line.queue[i]? = some b := by
    rw [← hplaned]
    exact hb
  have hpassed : Keeps l s (planed.modBoard i fun b => { b with pastMeter := true }) :=
    hplane.trans (modBoard_keeps _ planed fun b _ => ⟨rfl, rfl, by tauto⟩)
  have htested := hpassed.trans (testKnife_keeps b _)
  refine .ite (fun hpending => htested.trans (judgeBoard_keeps _ ?_ hpending)) fun _ => htested
  rw [(testKnife_sameBoards b _).queue]
  exact modBoard_getElem? hb'

/-- The board at a place is written back with its marks changed, or as spanning a gate once it is decided. -/
theorem writeBoard_keeps (s : State) (hb : s.line.queue[i]? = some b) (hcharge : b'.charge = b.charge)
    (hdecision : b'.decision = b.decision)
    (hspan : b'.spansRedry = b.spansRedry ∧ b'.spansReject = b.spansReject ∨ b.decision ≠ .pending) :
    Keeps l s (s.modBoard i fun _ => b') :=
  modBoard_keeps _ s fun d hd => by
    obtain rfl : b = d := Option.some.inj (hb.symm.trans hd)
    refine ⟨hcharge, hdecision, fun h => ?_⟩
    obtain ⟨hredry, hreject⟩ | hdecided := hspan
    · rw [hredry, hreject] at h
      tauto
    · exact .inr (.inr hdecided)

/-- A board that spans a gate is decided (R126). -/
theorem decided_of_spans (hb : s.line.queue[i]? = some b) (hspan : b.spansRedry = true ∨ b.spansReject = true)
    (hs : boardsKept s) : b.decision ≠ .pending := by
  obtain ⟨-, -, hq, -⟩ := boardsSound_iff.1 hs.1
  exact (hq b (List.mem_of_getElem? hb)).2.2 hspan

theorem reachRedry_keeps (s : State) (hb : s.line.queue[i]? = some b) : Keeps l s (reachRedry i b s) := by
  refine .ite (fun hpending => forceLate_keeps s hb hpending rfl) fun hdecided => .ite (fun _ => ?_) fun _ => ?_
  · refine .trans ?_ (settleGates_keeps _)
    exact writeBoard_keeps s hb rfl rfl (.inr hdecided)
  · exact writeBoard_keeps s hb rfl rfl (.inr hdecided)

theorem reachReject_keeps (s : State) (hb : s.line.queue[i]? = some b) : Keeps l s (reachReject i b s) := by
  refine .ite (fun hrejected => ?_) fun _ => writeBoard_keeps s hb rfl rfl (.inl ⟨rfl, rfl⟩)
  refine .trans ?_ (settleGates_keeps _)
  refine writeBoard_keeps s hb rfl rfl (.inr fun hpending => ?_)
  simp [hpending, Decision.rejected] at hrejected

theorem passRedry_keeps (s : State) (hb : s.line.queue[i]? = some b) : Keeps l s (passRedry i b s) := by
  have hmarked := writeBoard_keeps (l := l) (b' := { b with marks := { b.marks with redryTrailing := true } }) s hb rfl rfl (.inl ⟨rfl, rfl⟩)
  have hb' := modBoard_getElem? (f := fun _ => { b with marks := { b.marks with redryTrailing := true } }) hb
  exact .ite (fun hspan => hmarked.trans (leaveAtGate_keeps _ hb' (decided_of_spans hb' (.inl hspan)))) fun _ => hmarked

theorem passReject_keeps (s : State) (hb : s.line.queue[i]? = some b) : Keeps l s (passReject i b s) := by
  have hmarked := writeBoard_keeps (l := l) (b' := { b with marks := { b.marks with rejectTrailing := true } }) s hb rfl rfl (.inl ⟨rfl, rfl⟩)
  have hb' := modBoard_getElem? (f := fun _ => { b with marks := { b.marks with rejectTrailing := true } }) hb
  exact .ite (fun hspan => hmarked.trans (leaveAtGate_keeps _ hb' (decided_of_spans hb' (.inr hspan)))) fun _ => hmarked

theorem takePoint_keeps (p : Point) (s : State) (hb : s.line.queue[i]? = some b) : Keeps l s (takePoint i b p s) := by
  cases p with
  | sample => exact takeSample_keeps b s
  | trailingMeter => exact passMeter_keeps s hb
  | leadingRedry => exact reachRedry_keeps s hb
  | trailingRedry => exact passRedry_keeps s hb
  | leadingReject => exact reachReject_keeps s hb
  | trailingReject => exact passReject_keeps s hb

theorem takePoints_keeps (i fuel : Nat) (s : State) : Keeps l s (takePoints i fuel s) := by
  induction fuel generalizing s with
  | zero => exact .refl l s
  | succ fuel ih =>
    unfold takePoints
    split
    · exact .refl l s
    case h_2 b hb =>
      split
      · exact .refl l s
      case h_2 p _ =>
        have hpoint : Keeps l s (takePoint i b p s) := takePoint_keeps p s hb
        exact .ite (fun _ => hpoint) fun _ => hpoint.trans (ih _)

theorem takeBoards_keeps (n i : Nat) (s : State) : Keeps l s (takeBoards i n s) := by
  induction n generalizing i s with
  | zero => exact .refl l s
  | succ n ih => exact (takePoints_keeps i 670 s).trans (ih _ _)

/-! ## The outfeed eye (R127) -/

theorem mismatch_keeps (head : Option Board) (s : State) : Keeps l s (mismatch head s) :=
  (raiseLine_keeps _ _ _ _ s).trans (trip_keeps _ _)

theorem class?_eq_some {d : Decision} {c : Fin 4} (h : d.class? = some c) : d = .accept c := by
  cases d <;> simp_all [Decision.class?]

theorem outfeedLeading_keeps (s : State) : Keeps l s (outfeedLeading s) := by
  unfold outfeedLeading
  split
  · exact mismatch_keeps none s
  case h_2 b rest hqueue =>
    split
    case h_2 => exact mismatch_keeps (some b) s
    case h_1 c hclass =>
      refine .ite (fun _ => ?_) fun _ => mismatch_keeps (some b) s
      have haccept := class?_eq_some hclass
      have hb : s.line.queue[0]? = some b := by rw [hqueue]; rfl
      refine .trans (.close ?_ fun hs => ?_) (drainTest_keeps _)
      · refine .trans (.trans ?_ (settleGates_keeps _)) (placeBoard_keeps rfl _ _)
        exact withQueue_open rfl rest s (.inr (by simp [hqueue]))
      · refine placeBoard_boards ((settleGates_sameBoards _).inHand ?_)
        obtain ⟨-, -, hq, -⟩ := boardsSound_iff.1 hs.1
        obtain ⟨-, hnone, -⟩ := hq b (List.mem_of_getElem? hb)
        refine inHand_of_erase hb (by simp [haccept]) ?_ rfl (by simp [hqueue]) rfl hs
        cases hcharge : b.charge with
        | none => simp [hnone hcharge] at haccept
        | some n => simp [Board.held, hcharge]

/-! ## The infeed eye (R121, R122) -/

theorem modLast_eq_modify {α : Type} (f : α → α) (xs : List α) : modLast f xs = xs.modify (xs.length - 1) f := by
  induction xs with
  | nil => rfl
  | cons a rest ih =>
    cases rest with
    | nil => rfl
    | cons b rest => simpa [modLast] using ih

theorem settleTail_keeps (edge : Nat) (s : State) : Keeps l s (settleTail edge s) := by
  refine .ite (fun _ => ?_) fun _ => .refl l s
  have htail : s.modLine (fun l => { l with queue := modLast (Board.trailAt edge) l.queue }) =
      s.modBoard (s.line.queue.length - 1) (Board.trailAt edge) := by
    simp [State.modBoard, State.modLine, modLast_eq_modify]
  rw [htail]
  exact modBoard_keeps _ s fun _ _ => ⟨rfl, rfl, by simp only [Board.trailAt]; tauto⟩

theorem infeedTrailing_keeps (edge : Nat) (s : State) : Keeps l s (infeedTrailing edge s) :=
  (settleTail_keeps edge s).trans (modLine_keeps _ _)

theorem infeedLeading_open (he : l.entry = true) (edge : Nat) (s : State) : Keeps l s (infeedLeading edge s) := by
  unfold infeedLeading
  dsimp only
  refine .ite (fun hroom => ?_) fun _ => ?_
  · generalize hentered : s.modLine _ = entered
    have henter : Keeps l s entered := by
      rw [← hentered]
      exact modLine_keeps _ s (hlength := .inl (by simp; omega)) (hboards := fun hf => by simp [he] at hf)
    split
    · exact henter.trans (modCharge_open he _ _ _)
    · exact (henter.trans (modLine_keeps Line.uncharge _)).trans (reportBoard_keeps _ _)
  · generalize hcondition : s.modLine _ = passed
    have hpass : Keeps l s passed := by
      rw [← hcondition]
      exact modLine_keeps _ s
    refine (hpass.trans ?_).trans (raiseLine_keeps _ _ _ _ _)
    split
    · exact modCharge_open he _ _ _
    · exact modLine_keeps Line.uncharge _

/-- A board that enters, or passes a full queue, is counted into its record (R44, R48). -/
theorem infeedLeading_boards (edge : Nat) (hs : boardsKept s) : (infeedLeading edge s).boardsSound := by
  unfold infeedLeading
  dsimp only
  cases hfeed : s.feedCharge with
  | none =>
    simp only [Option.map_none]
    split
    · exact boardsSound_of_uncharged (s := s) (b := newBoard s.line.nextBoard none edge) rfl rfl rfl rfl rfl hs
    · exact (raise_sameBoards ..).boardsSound (SameBoards.boardsSound {} hs.1)
  | some c =>
    simp only [Option.map_some]
    split
    · have hn : (s.charge? c.number).isSome = true := charge?_isSome_iff.2 ⟨c, feedCharge_eq_some hfeed, rfl⟩
      exact boardsSound_of_entered (s := s) (b := newBoard s.line.nextBoard (some c.number) edge) hn rfl rfl ⟨rfl, rfl⟩ rfl rfl rfl hs
    · refine (raise_sameBoards ..).boardsSound ?_
      exact boardsSound_of_overran (SameBoards.boardsKept {} hs)

/-! ## The filters of the eyes (R120) -/

theorem setFilter_keeps (e : Eye) (f : EyeFilter) (s : State) : Keeps l s (s.modLine (Line.setFilter e f)) := by
  cases e <;> exact modLine_keeps _ s

theorem takeEye_outfeed_keeps (edge : Nat) (s : State) : Keeps l s (takeEye .outfeed edge s) := by
  unfold takeEye
  dsimp only
  cases (s.line.filter .outfeed).taken with
  | false => exact (setFilter_keeps .outfeed _ s).trans (outfeedLeading_keeps _)
  | true => exact setFilter_keeps .outfeed _ s

theorem takeEye_open (he : l.entry = true) (e : Eye) (edge : Nat) (s : State) : Keeps l s (takeEye e edge s) := by
  cases e with
  | outfeed => exact takeEye_outfeed_keeps edge s
  | infeed =>
    unfold takeEye
    dsimp only
    cases (s.line.filter .infeed).taken with
    | false => exact (setFilter_keeps .infeed _ s).trans (infeedLeading_open he edge _)
    | true => exact (setFilter_keeps .infeed _ s).trans (infeedTrailing_keeps edge _)

/-- The strictest claim. -/
def strict : Leave := ⟨false, false, false, false, false⟩

theorem takeEye_boards (e : Eye) (edge : Nat) (hs : boardsKept s) : (takeEye e edge s).boardsSound := by
  cases e with
  | outfeed => exact ((takeEye_outfeed_keeps (l := strict) edge s).boards rfl hs).1
  | infeed =>
    unfold takeEye
    dsimp only
    cases (s.line.filter .infeed).taken with
    | false => exact infeedLeading_boards edge ((setFilter_keeps (l := strict) .infeed _ s).boards rfl hs)
    | true => exact (((setFilter_keeps (l := strict) .infeed _ s).trans (infeedTrailing_keeps edge _)).boards rfl hs).1

theorem testFilter_outfeed_keeps (s : State) : Keeps l s (testFilter .outfeed s) := by
  unfold testFilter
  split
  · exact .refl l s
  · exact .ite (fun _ => takeEye_outfeed_keeps _ s) fun _ => .refl l s

theorem testFilter_open (he : l.entry = true) (e : Eye) (s : State) : Keeps l s (testFilter e s) := by
  unfold testFilter
  split
  · exact .refl l s
  · exact .ite (fun _ => takeEye_open he e _ s) fun _ => .refl l s

theorem testFilter_boards (e : Eye) (hs : boardsKept s) : (testFilter e s).boardsSound := by
  unfold testFilter
  split
  · exact hs.1
  · split
    · exact takeEye_boards e _ hs
    · exact hs.1

theorem eyeEdge_open (he : l.entry = true) (e : Eye) (level : Bool) (s : State) : Keeps l s (eyeEdge e level s) :=
  .ite (fun _ => setFilter_keeps e _ s) fun _ => (setFilter_keeps e _ s).trans (.ite (fun _ => takeEye_open he e _ _) fun _ => .refl l _)

theorem eyeEdge_boards (e : Eye) (level : Bool) (hs : boardsKept s) : (eyeEdge e level s).boardsSound := by
  have hset (f : EyeFilter) : boardsKept (s.modLine (Line.setFilter e f)) := (setFilter_keeps (l := strict) e f s).boards rfl hs
  unfold eyeEdge
  dsimp only
  split
  · exact (hset _).1
  · split
    · exact takeEye_boards e _ (hset _)
    · exact (hset _).1

theorem eye_fn_undriven (e : Eye) : Eye.fn e ≠ .generalOut ∧ Eye.fn e ≠ .redryGate ∧ Eye.fn e ≠ .rejectGate ∧
    Eye.fn e ≠ .lineStop := by
  cases e <;> decide

theorem eyePin_open (he : l.entry = true) (e : Eye) (high : Bool) (s : State) : Keeps l s (eyePin e high s) := by
  unfold eyePin
  split
  · exact .refl l s
  case h_2 n hn =>
    have hpin : Keeps l s (takePin n high s) := takePin_keeps n high s (levelOf_of_fn (holder_fn hn) _ (eye_fn_undriven e))
    exact .ite (fun _ => hpin.trans (eyeEdge_open he e _ _)) fun _ => hpin

theorem eyePin_boards (e : Eye) (high : Bool) (hs : boardsKept s) : (eyePin e high s).boardsSound := by
  unfold eyePin
  split
  · exact hs.1
  · dsimp only
    have hpin (n : Fin 16) : boardsKept (takePin n high s) := SameBoards.boardsKept {} hs
    split
    · exact eyeEdge_boards e _ (hpin _)
    · exact (hpin _).1

/-! ## The encoder (R119) -/

/-- One advance up to the infeed eye, the last to be taken. -/
def advanced (s : State) : State :=
  testFilter .outfeed (takeAllPoints (s.modLine fun l => { l with position := (l.position + l.config.resolution) % positionRange }))

theorem advance_eq (s : State) : advance s = testFilter .infeed (advanced s) := rfl

theorem advanced_keeps (s : State) : Keeps l s (advanced s) :=
  ((modLine_keeps _ s).trans (takeBoards_keeps _ _ _)).trans (testFilter_outfeed_keeps _)

theorem encoderLevel_keeps (level : Bool) (s : State) {n : Fin 16} (hn : s.holder .encoder = some n) :
    Keeps l s (encoderLevel n level s) := by
  have hnone : levelOf s.line s.terminals[n] = none := levelOf_of_fn (holder_fn hn) _ (by decide)
  exact modTerminal_keeps_of_undriven n _ s hnone hnone

theorem encoderFalls_keeps (s : State) : Keeps l s (encoderFalls s) := by
  unfold encoderFalls
  split
  · exact encoderLevel_keeps false s ‹_›
  · exact .refl l s

theorem encoderRises_open (he : l.entry = true) (s : State) : Keeps l s (encoderRises s) := by
  unfold encoderRises
  split
  · exact ((encoderLevel_keeps true s ‹_›).trans (advanced_keeps _)).trans (testFilter_open he .infeed _)
  · exact .refl l s

theorem encoderRises_boards (hs : boardsKept s) : (encoderRises s).boardsSound := by
  unfold encoderRises
  split
  case h_1 n hn =>
    exact testFilter_boards .infeed (((encoderLevel_keeps (l := strict) true s hn).trans (advanced_keeps _)).boards rfl hs)
  case h_2 => exact hs.1

/-! ## The assignment of a terminal (R101) -/

theorem setEyeView_keeps (e : Eye) (level : Bool) (s : State) : Keeps l s (setEyeView e level s) := by
  cases e with
  | outfeed => exact setFilter_keeps .outfeed _ s
  | infeed =>
    unfold setEyeView
    exact ((setFilter_keeps .infeed _ s).trans (settleTail_keeps _ _)).trans (modLine_keeps _ _)

theorem driven_pinFollows {line : Line} {level : Bool} (r : Terminal) (h : levelOf line (r.driven level) = some level) :
    pinFollows (levelOf line (r.driven level)) (r.driven level) := by
  rw [h]
  exact ⟨rfl, fun _ hb => Option.some.inj hb⟩

theorem setFunctionView_keeps (f : TermFn) (level : Bool) (s : State) : Keeps l s (setFunctionView f level s) := by
  unfold setFunctionView
  split
  · exact setEyeView_keeps _ level s
  · exact .refl l s

/-- The record after an assignment drives its pin at the level of its new function, or releases it (R101, R106). -/
theorem assigned_pinFollows (a : Assignment) (s : State) : pinFollows (levelOf s.line (assigned a s)) (assigned a s) := by
  unfold assigned
  dsimp only
  split
  case isTrue hinput =>
    have hnone (r : Terminal) (hr : r.fn = a.fn) : levelOf s.line r = none :=
      levelOf_of_fn hr _ (by refine ⟨?_, ?_, ?_, ?_⟩ <;> intro h <;> simp [h, TermFn.digitalInput] at hinput)
    rw [hnone _ rfl]
    exact ⟨rfl, fun _ h => by cases h⟩
  split
  case isTrue hanalogue =>
    have hnone (r : Terminal) (hr : r.fn = a.fn) : levelOf s.line r = none :=
      levelOf_of_fn hr _ (by refine ⟨?_, ?_, ?_, ?_⟩ <;> intro h <;> simp [h, TermFn.analogue] at hanalogue)
    rw [hnone _ rfl]
    exact ⟨rfl, fun _ h => by cases h⟩
  split
  case isTrue hout =>
    refine driven_pinFollows _ ?_
    simp [levelOf, hout]
  case isFalse hinput hanalogue hout =>
    refine driven_pinFollows _ ?_
    cases hfn : a.fn <;> simp_all [levelOf, State.demand, TermFn.digitalInput, TermFn.analogue]

theorem setFreeCount_keeps (n : Nat) (s : State) : Keeps l s { s with freeCount := n } := {}

theorem assignTerminal_keeps (a : Assignment) (s : State) : Keeps l s (assignTerminal a s) := by
  have hviewed := setFunctionView_keeps (l := l) s.terminals[a.terminal].fn false s
  unfold assignTerminal
  dsimp only
  generalize setFunctionView s.terminals[a.terminal].fn false s = viewed at hviewed ⊢
  have hassigned : Keeps l viewed (viewed.modTerminal a.terminal fun _ => assigned a viewed) :=
    modTerminal_keeps _ _ _ fun _ => assigned_pinFollows a _
  exact ((hviewed.trans hassigned).trans (setFreeCount_keeps _ _)).trans (setFunctionView_keeps a.fn _ _)

theorem actTerminalAssign_keeps (payload : List Byte) (s : State) : Keeps l s (actTerminalAssign payload s).1 := by
  unfold actTerminalAssign
  split
  · exact .refl l s
  split
  · exact .refl l s
  split
  · exact .refl l s
  split
  · exact .refl l s
  · exact assignTerminal_keeps _ s

/-! ## The requests of the line (R109, R112 to R114, R128) -/

theorem actLineConfig_keeps (payload : List Byte) (s : State) : Keeps l s (actLineConfig payload s).1 := by
  unfold actLineConfig
  split
  · exact .refl l s
  case h_2 cfg _ =>
    split
    · exact modLine_keeps (fun l => { l with config := cfg }) s
    · exact .refl l s

theorem actKnifeReset_keeps (s : State) : Keeps l s (actKnifeReset s).1 :=
  modLine_keeps (fun l => { l with planedLength := 0, knifeFlag := false }) s

theorem actLineStop_keeps (s : State) : Keeps l s (actLineStop s).1 := by
  unfold actLineStop
  split
  case h_4 => exact .refl l s
  case h_5 => exact .refl l s
  all_goals exact enterLine_keeps _ _ _ s (by simp) (.inl rfl)

theorem clearTracking_sameLatch (s : State) : sameLatch s (clearTracking s) := by
  have hfree (n : Nat) (s : State) : sameLatch s (freeTest n s) := by
    unfold freeTest
    split
    · split
      · exact queueReport_sameLatch _ (s.dropCharge n)
      · exact ⟨rfl, rfl⟩
    · exact ⟨rfl, rfl⟩
  have hcount (s : State) (b : Board) :
      sameLatch s (countCharge b.charge (ChargeRecord.untrack (decide (b.decision = .pending))) s) := by
    cases b.charge <;> exact ⟨rfl, rfl⟩
  have hgates (s : State) : sameLatch s (settleGates s) := by
    unfold settleGates
    dsimp only
    split <;> split <;> exact ⟨rfl, rfl⟩
  have hqueue (s : State) : sameLatch s (withQueue [] s) := ⟨rfl, rfl⟩
  have hempty : sameLatch s (emptyQueue s) := by
    rw [emptyQueue_eq]
    exact (((sameLatch_foldl _ hcount s).trans (hqueue _)).trans (hgates _)).trans (sameLatch_foldl _ (fun s n => hfree n s) _)
  exact hempty

theorem clearIf_keeps (clear : Bool) (s : State) : Keeps l s (clearIf clear s) :=
  .ite (fun _ => clearTracking_keeps s) fun _ => .refl l s

theorem clearIf_latchHolds (clear : Bool) (s : State) : (clearIf clear s).port.latchHolds = s.port.latchHolds := by
  unfold clearIf
  split
  · exact (clearTracking_sameLatch s).latchHolds
  · rfl

theorem actLineStart_keeps (payload : List Byte) (s : State) : Keeps l s (actLineStart payload s).1 := by
  unfold actLineStart
  split
  · exact .refl l s
  case h_2 clear _ =>
    have hrun (hlatch : s.port.latchHolds = false) : Keeps l s (enterLine .running none .request (clearIf clear s)) :=
      (clearIf_keeps clear s).trans (enterLine_keeps _ _ _ _ (by simp) (.inr (.inr (by rw [clearIf_latchHolds, hlatch]))))
    have hdrain (hlatch : s.port.latchHolds = false) : Keeps l s (enterDraining .request (clearIf clear s)) :=
      (clearIf_keeps clear s).trans (enterDraining_keeps _ _ (.inr (by rw [clearIf_latchHolds, hlatch])))
    split
    · split
      · exact .refl l s
      case isFalse hlatch =>
        split
        · exact .refl l s
        split
        · exact .refl l s
        · exact hrun (by simpa using hlatch)
    · split
      · exact .refl l s
      case isFalse hlatch =>
        split
        · exact .refl l s
        split
        · exact .refl l s
        split
        · exact hrun (by simpa using hlatch)
        · exact hdrain (by simpa using hlatch)
    all_goals exact .refl l s

end Sys2Proof.Proofs.Invariants
end

section
/-!
The ends of bus transfers, the four starts, and the taking of requests, frames and bytes: the last operations that the commands are
composed of.
-/
namespace Sys2Proof.Proofs.Invariants
open Sys2Proof.Machine
set_option Elab.async false

variable {l : Leave} {s t : State}

/-! ## Ends of transfers on the bus (R90 to R94) -/

/-- Another poll in service, or the same one further on. -/
theorem setPoll_some_keeps (p : CurrentPoll) (s : State) : Keeps l s (s.setPoll (some p)) where
  settled _ _ h := by cases h

theorem climateDone_keeps (hs : l.scans = true) (dryBulb wetBulb : Int) (status : Byte) (s : State) :
    Keeps l s (climateDone dryBulb wetBulb status s) := by
  unfold climateDone
  split
  case h_2 => exact .refl l s
  split
  case h_2 => exact .refl l s
  exact serve_keeps (.trans (.ite (fun _ => deliverClimate_keeps rfl _ _ _ _ s) fun _ => .refl _ s) (endPoll_keeps rfl true _ _)) hs

theorem weighDone_keeps (hs : l.scans = true) (weight : Nat) (s : State) : Keeps l s (weighDone weight s) := by
  unfold weighDone
  split
  case h_2 => exact .refl l s
  split
  · exact .refl l s
  split
  · exact .refl l s
  refine .ite (fun _ => ?_) fun _ => serve_keeps (endPoll_keeps rfl true _ s) hs
  have hread (k : Fin 6) (q : Fin 8) (w : Nat) : Keeps { l with polls := true, scans := true } s (deliverReading k q w s) :=
    deliverReading_keeps rfl k q w s
  refine .ite (fun _ => serve_keeps ((hread ..).trans (setPoll_some_keeps _ _)) hs) fun _ => serve_keeps ?_ hs
  exact ((hread ..).trans (completeScan_keeps rfl _ _)).trans (endPoll_keeps rfl true _ _)

theorem attemptFailed_keeps (hs : l.scans = true) (failure : BusFailure) (s : State) : Keeps l s (attemptFailed failure s) := by
  unfold attemptFailed
  split
  case h_2 => exact .refl l s
  have hfailed (l : Leave) (address : Nat) (k : Fin 6) : Keeps l s ((raise (busFault failure) .links (.links (some address) none) s).modLink k
      fun i => { i with failedAttempts := wrapUp i.failedAttempts }) :=
    (raise_keeps (.inl rfl) _ _ s).trans (modLink_keeps _ _ _)
  exact .ite (fun _ => (hfailed ..).trans (setPoll_some_keeps _ _)) fun _ =>
    serve_keeps ((hfailed ..).trans (endPoll_keeps rfl false _ _)) hs

/-! ## Cold starts (R193) -/

/-- No record is in use and no board is known. -/
theorem boardsKept_of_empty (hrecords : t.charges.records = Vector.replicate 12 none) (hqueue : t.line.queue = [])
    (hheld : t.packs.held = []) : boardsKept t := by
  have hnone (i : Fin 12) (c : ChargeRecord) : t.charges.records[i] ≠ some c := by
    rw [hrecords]
    simp
  refine ⟨⟨?_, ?_, ?_, ?_⟩, ?_⟩
  · exact fun i j c d hi => absurd hi (hnone i c)
  · exact fun i c hi => absurd hi (hnone i c)
  · simp [hqueue]
  · simp [hheld]
  · exact fun i c hi => absurd hi (hnone i c)

theorem coldFaults_sound : coldFaults.sound := by
  refine ⟨fun d => ⟨?_, ?_⟩, fun k hk => ?_⟩
  · simp [coldFaults]
  · simp [coldFaults]
  · cases k <;> simp [FaultKind.fixed] at hk <;> rfl

theorem coldKiln_sound (k : Fin 6) : (coldKiln k).sound := by
  simp [Kiln.sound, coldKiln]

theorem coldKilns_getElem (k : Fin 6) : coldKilns[k] = coldKiln k := by
  fin_cases k <;> rfl

theorem coldTerminals_getElem (pins : BitVec 16) (n : Fin 16) : (coldTerminals pins)[n] = coldTerminal (pins.getLsbD n) := by
  fin_cases n <;> rfl

theorem coldTerminal_pinFollows (pinHigh : Bool) (line : Line) :
    pinFollows (levelOf line (coldTerminal pinHigh)) (coldTerminal pinHigh) :=
  ⟨rfl, fun _ h => by cases h⟩

/-- A cold start meets every agreement by itself. -/
theorem coldStart_keeps (hr : l.reply = true) (cause : StartCause) (inputs : StartInputs) (s : State) :
    Keeps l s (coldStart cause inputs s) := by
  refine .trans ?_ (queueReport_keeps _ _)
  refine { buffers := fun hf => by simp [hr] at hf, bounded := fun _ => ?_, faults := fun _ => coldFaults_sound, kilns := fun _ k => ?_,
           apart := fun _ => List.nodup_nil, settled := fun _ _ _ => rfl, scans := fun _ => Nat.zero_le _, line := fun _ => ?_,
           outputs := fun _ => ?_, planer := fun _ => ?_, packs := fun _ b p hp => ?_, latch := fun _ _ => ?_,
           boards := fun _ _ => boardsKept_of_empty rfl rfl rfl }
  · exact ⟨Nat.zero_le _, Nat.zero_le _, Nat.zero_le _⟩
  · refine ⟨by rw [coldKilns_getElem]; exact coldKiln_sound k, ?_⟩
    rw [coldKilns_getElem]
    simp [coldBus, startedLink, coldKiln, KilnState.scanning, KilnState.running, KilnState.phase?, KilnState.held]
  · exact ⟨rfl, by simp [coldLine]⟩
  · refine outputsFollow_iff.2 fun n => ?_
    rw [coldTerminals_getElem]
    exact coldTerminal_pinFollows _ _
  · exact ⟨Nat.zero_le _, Nat.zero_le _, Nat.zero_le _⟩
  · simp [coldPacks] at hp
  · exact ⟨fun h => by simp [coldPort] at h, fun h => by simp [coldPort, Port.latchHolds] at h⟩

/-! ## Warm starts (R193) -/

theorem vec6_getElem {α : Type} (f : Fin 6 → α) (k : Fin 6) : (vec6 f)[k] = f k := by
  fin_cases k <;> rfl

theorem vec16_getElem {α : Type} (f : Fin 16 → α) (n : Fin 16) : (vec16 f)[n] = f n := by
  fin_cases n <;> rfl

theorem restarted_sound {c : Kiln} (h : c.sound) : c.restarted.sound := by
  unfold Kiln.restarted
  dsimp only
  split
  · exact caused_sound .hold ⟨le_rfl, by decide⟩ h
  · exact h

theorem restarted_not_running (c : Kiln) : c.restarted.state.running = false := by
  unfold Kiln.restarted
  dsimp only
  split
  · exact caused_running .hold 1 c
  case isFalse h => simpa using h

/-- A terminal after a warm start drives the level of a line that is STOPPED with both gates released (R108). -/
theorem restarted_pinFollows {line : Line} (pinHigh : Bool) (inputs : StartInputs) {line' : Line} (r : Terminal)
    (hredry : line'.redryDemand = false) (hreject : line'.rejectDemand = false) (hstop : line'.stopDemand = true)
    (h : pinFollows (levelOf line r) r) :
    pinFollows (levelOf line' (r.restarted pinHigh inputs)) (r.restarted pinHigh inputs) := by
  unfold Terminal.restarted
  cases hfn : r.fn <;> simp_all [pinFollows, levelOf]

theorem settleRecords_eq (s : State) : settleRecords s = { untrackBoards s.line.queue s with
    charges := { (untrackBoards s.line.queue s).charges with
      records := vmap (fun o => o.bind fun c => if c.freeable then none else some c) (untrackBoards s.line.queue s).charges.records } } := rfl

/-- Settling the boards changes the charge records alone. -/
theorem untrackBoards_eq (boards : List Board) (s : State) : ∃ charges, untrackBoards boards s = { s with charges := charges } := by
  induction boards generalizing s with
  | nil => exact ⟨s.charges, rfl⟩
  | cons b rest ih =>
    obtain ⟨charges, h⟩ := ih (countCharge b.charge (ChargeRecord.untrack (decide (b.decision = .pending))) s)
    refine ⟨charges, h.trans ?_⟩
    cases b.charge <;> rfl

/-- The records of a warm start agree with an emptied queue (R52). -/
theorem settleRecords_boards (hs : boardsKept s) : boardsKept (withQueue [] (settleRecords s)) := by
  have huntracked := boardsKept_of_untrackBoards s.line.queue s hs
  refine boardsKept_drop (leaves := ChargeRecord.freeable) huntracked rfl (fun c _ hfree => ?_) rfl rfl
  simp only [ChargeRecord.freeable, Bool.and_eq_true, decide_eq_true_eq] at hfree
  exact hfree.1.2

theorem restarted_labels_length (u : LabelUnit) : u.restarted.queue.length = u.queue.length := by
  unfold LabelUnit.restarted
  split
  · rfl
  · simp [LabelUnit.transmit, modHead_length]

/-- A warm start but for its START report. -/
def restarted (cause : StartCause) (inputs : StartInputs) (s : State) : State :=
  let s := settleRecords s
  let kilns := vmap Kiln.restarted s.kilns
  let s :=
    { s with
      store := s.store.checked inputs
      kilns := kilns
      bus := restartedBus kilns
      terminals := vec16 fun t => s.terminals[t].restarted (inputs.pins.getLsbD t.val) inputs
      labels := s.labels.restarted
      port := s.port.restarted inputs.lineIdle cause }
  s.modLine (Line.restarted (s.view .infeedEye) (s.view .outfeedEye))

theorem warmStart_eq (cause : StartCause) (inputs : StartInputs) (s : State) :
    warmStart cause inputs s = queueStart true cause (restarted cause inputs s) := rfl

theorem warmStart_keeps (hr : l.reply = true) (cause : StartCause) (inputs : StartInputs) (s : State) :
    Keeps l s (warmStart cause inputs s) := by
  rw [warmStart_eq]
  refine .trans ?_ (queueReport_keeps _ _)
  obtain ⟨charges, hcharges⟩ := untrackBoards_eq s.line.queue s
  have hsettled : ∃ charges, settleRecords s = { s with charges := charges } := by
    rw [settleRecords_eq, hcharges]
    exact ⟨_, rfl⟩
  obtain ⟨settled, hsettled⟩ := hsettled
  have hboards := settleRecords_boards (s := s)
  unfold restarted
  rw [hsettled] at hboards ⊢
  refine { buffers := fun hf => by simp [hr] at hf, bounded := fun _ => ?_, kilns := fun h k => ?_,
           apart := fun _ => List.nodup_nil, settled := fun _ _ _ => rfl, scans := fun _ => Nat.zero_le _, line := fun _ => ?_,
           outputs := fun h => ?_, planer := fun h => ?_, latch := fun _ h => ?_,
           boards := fun _ h => boardsKept_congr rfl rfl rfl (hboards h) }
  · exact ⟨Nat.zero_le _, Nat.zero_le _, Nat.zero_le _⟩
  · refine ⟨by simpa using restarted_sound (h k).1, ?_⟩
    change ((restartedBus (vmap Kiln.restarted s.kilns)).links[k]).scanTimer.isSome = true ↔ _
    rw [restartedBus, vec6_getElem]
    simp [startedLink]
  · exact ⟨rfl, by simp [Line.restarted]⟩
  · refine outputsFollow_iff.2 fun n => ?_
    simp only [modLine_terminals, modLine_line]
    rw [vec16_getElem]
    exact restarted_pinFollows _ _ _ rfl rfl rfl (outputsFollow_iff.1 h n)
  · exact ⟨Nat.zero_le _, h.2.1, by simpa [restarted_labels_length] using h.2.2⟩
  · refine ⟨fun hl => ?_, fun _ => ⟨fun k => ?_, rfl⟩⟩
    · simpa [Port.restarted] using h.1 hl
    · simpa using restarted_not_running s.kilns[k]

/-! ## Requests that are taken, frames and bytes (R178 to R180) -/

/-- A query answers from the state and leaves it. -/
theorem replyOnly_keeps (fields : State → List Byte) (s : State) : Keeps l s (replyOnly fields s).1 := .refl l s

theorem actKilnQuery_keeps (payload : List Byte) (s : State) : Keeps l s (actKilnQuery payload s).1 := by
  unfold actKilnQuery
  split <;> exact .refl l s

theorem actPackQuery_keeps (payload : List Byte) (s : State) : Keeps l s (actPackQuery payload s).1 := by
  unfold actPackQuery
  split <;> exact .refl l s

/-- Every request keeps the agreements (R176). -/
theorem actOf_keeps (hs : l.scans = true) {kind : Nat} {payload : List Byte} {act : State → State × List Byte}
    (h : actOf kind payload = some act) (s : State) : Keeps l s (act s).1 := by
  unfold actOf at h
  split at h
  all_goals cases h
  case h_1 => exact actScheduleStore_keeps payload s
  case h_2 => exact actScheduleRead_keeps payload s
  case h_3 => exact actScheduleErase_keeps payload s
  case h_4 => exact actSpeciesStore_keeps payload s
  case h_5 => exact actSpeciesRead_keeps payload s
  case h_6 => exact actSpeciesErase_keeps payload s
  case h_7 => exact replyOnly_keeps _ s
  case h_8 => exact actChargeCreate_keeps payload s
  case h_9 => exact actChargeClose_keeps payload s
  case h_10 => exact actChargeQuery_keeps payload s
  case h_11 => exact replyOnly_keeps _ s
  case h_12 => exact actFeed_keeps payload s
  case h_13 => exact actFeedEnd_keeps s
  case h_14 => exact actKilnConfig_keeps payload s
  case h_15 => exact actKilnLoad_keeps payload s
  case h_16 => exact actSampleDefine_keeps hs payload s
  case h_17 => exact changeSample_keeps hs _ payload s
  case h_18 => exact changeSample_keeps hs _ payload s
  case h_19 => exact actKilnStart_keeps hs payload s
  case h_20 => exact actKilnAdvance_keeps payload s
  case h_21 => exact stopKiln_keeps hs _ payload s
  case h_22 => exact stopKiln_keeps hs _ payload s
  case h_23 => exact actKilnResume_keeps hs payload s
  case h_24 => exact actKilnUnload_keeps hs payload s
  case h_25 => exact actKilnQuery_keeps payload s
  case h_26 => exact replyOnly_keeps _ s
  case h_27 => exact actTerminalAssign_keeps payload s
  case h_28 => exact actTerminalSet_keeps payload s
  case h_29 => exact replyOnly_keeps _ s
  case h_30 => exact actLineConfig_keeps payload s
  case h_31 => exact actLineStart_keeps payload s
  case h_32 => exact actLineStop_keeps s
  case h_33 => exact actKnifeReset_keeps s
  case h_34 => exact replyOnly_keeps _ s
  case h_35 => exact actPackClose_keeps payload s
  case h_36 => exact actPackTarget_keeps payload s
  case h_37 => exact actBayCleared_keeps payload s
  case h_38 => exact actPackQuery_keeps payload s
  case h_39 => exact replyOnly_keeps _ s
  case h_40 => exact actReprint_keeps payload s
  case h_41 => exact replyOnly_keeps _ s
  case h_42 => exact actFaultConfig_keeps payload s
  case h_43 => exact actFaultActions_keeps payload s
  case h_44 => exact actFaultLogClear_keeps payload s
  case h_45 => exact actFaultCountClear_keeps payload s
  case h_46 => exact actFaultQuery_keeps payload s
  case h_47 => exact replyOnly_keeps _ s
  case h_48 => exact actSubscribe_keeps payload s
  case h_49 => exact actSuperviseArm_keeps payload s
  case h_50 => exact actSuperviseRefresh_keeps s
  case h_51 => exact actSetClock_keeps payload s
  case h_52 => exact actClearStartCauses_keeps s
  case h_53 => exact replyOnly_keeps _ s
  case h_54 => exact actRestart_keeps s

theorem answerUnknown_keeps (hr : l.reply = true) (tag : Byte) (s : State) (hroom : s.port.replies.length < 4) :
    Keeps l s (answerUnknown tag s) :=
  pushReply_keeps hr _ s hroom

theorem respond_keeps (hr : l.reply = true) (hs : l.scans = true) (f : Frame) (s : State) (hroom : s.port.replies.length < 4) :
    Keeps l s (respond f s) := by
  unfold respond
  split
  case h_1 act hact => exact answer_keeps hr f.kind f.tag (actOf_keeps (l := { l with reply := false }) hs hact s) hroom
  case h_2 => exact answerUnknown_keeps hr f.tag s hroom

/-- An operation is an event: what is owed is taken before it, and the transmitter begins what it can after it. -/
theorem event_keeps_of (hr : l.reply = true) {f : State → State} (hf : Keeps l (takeOwed s) (f (takeOwed s))) : Keeps l s (event f s) :=
  ((takeOwed_keeps s).trans hf).trans (beginTransmit_keeps hr _)

/-- A request that waits leaves the head of the buffer (R180). -/
theorem unqueue_keeps (hr : l.reply = true) {f : Frame} {rest : List Frame} (s : State) (h : s.port.requests = f :: rest) :
    Keeps l s (s.modPort fun p => { p with requests := rest }) where
  buffers hf := by simp [hr] at hf
  bounded hb := ⟨by have := hb.1; rw [h] at this; exact Nat.le_of_succ_le this, hb.2⟩

theorem takeOwed_buffers (s : State) : (takeOwed s).port.requests = s.port.requests ∧ (takeOwed s).port.replies = s.port.replies :=
  (takeOwed_keeps (l := strict) s).buffers rfl

theorem takeRequests_keeps (hr : l.reply = true) (hs : l.scans = true) (n : Nat) (s : State) : Keeps l s (takeRequests n s) := by
  induction n generalizing s with
  | zero => exact .refl l s
  | succ n ih =>
    unfold takeRequests
    split
    · exact .refl l s
    case h_2 f rest hrequests =>
      refine .ite (fun htake => ?_) fun _ => .refl l s
      obtain ⟨hreq, hrep⟩ := takeOwed_buffers s
      refine (event_keeps_of hr ?_).trans (ih _)
      refine (unqueue_keeps hr _ (hreq.trans hrequests)).trans (respond_keeps hr hs f _ ?_)
      exact hrep ▸ canTake_room htake

theorem pump_keeps (hr : l.reply = true) (hs : l.scans = true) (s : State) : Keeps l s (pump s) := takeRequests_keeps hr hs _ s

theorem setReceiver_keeps (f : Receiver → Receiver) (s : State) : Keeps l s (s.modReceiver f) :=
  modPort_keeps _ s rfl rfl id fun _ => id

theorem testFrame_keeps (hr : l.reply = true) (f : Frame) (check : BitVec 16) (s : State) : Keeps l s (testFrame f check s) :=
  .ite (fun _ => raise_keeps (.inl rfl) _ _ s) fun _ => joinRequests_keeps hr f s

theorem completeFrame_keeps (hr : l.reply = true) (hs : l.scans = true) (f : Frame) (check : BitVec 16) (s : State) :
    Keeps l s (completeFrame f check s) :=
  .ite (fun _ => (takeOwed_keeps s).trans (beginTransmit_keeps hr _)) fun _ =>
    (event_keeps hr (fun s => (setReceiver_keeps (fun _ => .hunt) s).trans (testFrame_keeps hr f check _)) s).trans (pump_keeps hr hs _)

theorem takeByte_keeps (hr : l.reply = true) (hs : l.scans = true) (b : Byte) (s : State) : Keeps l s (takeByte b s) := by
  unfold takeByte
  split
  · exact completeFrame_keeps hr hs _ _ s
  case h_2 r _ => exact ((takeOwed_keeps s).trans (setReceiver_keeps (fun _ => r) _)).trans (beginTransmit_keeps hr _)

theorem sent_keeps (s : State) : Keeps l s (s.modPort Port.sent) := by
  have hsent (p : Port) : ∃ sending restart, p.sent = { p with sending := sending, restart := restart } := by
    unfold Port.sent
    split <;> exact ⟨_, _, rfl⟩
  obtain ⟨sending, restart, h⟩ := hsent s.port
  refine modPort_keeps _ s ?_ ?_ (by rw [h]; exact id) fun _ => latchKept_of_port ?_ ?_ rfl rfl <;> simp [h]

/-! ## A begun transmitter after every event (R182) -/

theorem event_transmits (f : State → State) (s : State) : (event f s).port.transmits := beginTransmit_transmits _

theorem takeRequests_transmits (n : Nat) (s : State) (h : s.port.transmits) : (takeRequests n s).port.transmits := by
  induction n generalizing s with
  | zero => exact h
  | succ n ih =>
    unfold takeRequests
    split
    · exact h
    split
    · exact ih _ (event_transmits _ _)
    · exact h

theorem completeFrame_transmits (f : Frame) (check : BitVec 16) (s : State) : (completeFrame f check s).port.transmits := by
  unfold completeFrame
  split
  · exact beginTransmit_transmits _
  · exact takeRequests_transmits _ _ (event_transmits _ _)

theorem takeByte_transmits (b : Byte) (s : State) : (takeByte b s).port.transmits := by
  unfold takeByte
  split
  · exact completeFrame_transmits _ _ s
  · exact beginTransmit_transmits _

end Sys2Proof.Proofs.Invariants
end

section
/-!
Every step keeps the agreements: the commands one by one, and the obligations on every step.
-/
namespace Sys2Proof.Proofs.Invariants
open Sys2Proof.Machine
set_option Elab.async false

variable {s t : State}

/-- What every command leaves open to the claim of a step: a scan more in the list, the entry of a board, the queues of the port. -/
def stepLeave (entry : Bool) : Leave := ⟨false, true, entry, true, false⟩

/-- What every command does to the agreements. -/
structure Kept (s t : State) : Prop where
  keeps : Keeps (stepLeave true) s t
  boards : boardsKept s → t.boardsSound
  transmits : s.port.transmits → t.port.transmits

theorem Kept.of_keeps (h : Keeps (stepLeave false) s t) (htransmits : t.port.transmits) : Kept s t where
  keeps := { h with boards := fun hf => by cases hf }
  boards hs := (h.boards rfl hs).1
  transmits _ := htransmits

theorem event_kept {f : State → State} (hf : ∀ s, Keeps (stepLeave false) s (f s)) (s : State) : Kept s (event f s) :=
  .of_keeps (event_keeps rfl hf s) (event_transmits f s)

/-- An event in which a board may enter. -/
theorem event_kept_of_entry {f : State → State} (hf : ∀ s, Keeps (stepLeave true) s (f s))
    (hboards : ∀ s, boardsKept s → (f s).boardsSound) (s : State) : Kept s (event f s) where
  keeps := event_keeps rfl hf s
  boards hs := SameBoards.boardsSound (s := f (takeOwed s)) {} (hboards _ ((takeOwed_keeps (l := strict) s).boards rfl hs))
  transmits _ := event_transmits f s

theorem request_kept {kind tag : Byte} {payload : List Byte} {act : State → State × List Byte}
    (h : actOf kind.toNat payload = some act) (s : State) : Kept s (request kind tag payload act s) :=
  .of_keeps (request_keeps rfl kind tag payload (actOf_keeps rfl h) s) (event_transmits _ s)

theorem kilnMinuteTick_keeps (s : State) :
    Keeps (stepLeave false) s (serve (eachKiln kilnMinute (s.modPort fun p => { p with divider := 0 }))) :=
  serve_keeps ((modPort_keeps _ s rfl rfl id fun _ => id).trans (eachKiln_keeps (kilnMinute_keeps rfl rfl) _)) rfl

theorem unknown_keeps (kind tag : Byte) (payload : List Byte) (s : State) : Keeps (stepLeave false) s
    (if s.port.canTake && s.port.requests.isEmpty then answerUnknown tag s else joinRequests ⟨kind, tag, payload⟩ s) :=
  .ite (fun htake => answerUnknown_keeps rfl tag s (canTake_room (by simp only [Bool.and_eq_true] at htake; exact htake.1)))
    fun _ => joinRequests_keeps rfl _ s

/-- Every command completes and keeps the agreements. -/
theorem exec_kept (i : Instr) (s : State) : ∃ t, exec i s = .next t ∧ Kept s t := by
  cases i with
  | scheduleStore _ _ => exact ⟨_, rfl, request_kept rfl s⟩
  | scheduleRead _ _ => exact ⟨_, rfl, request_kept rfl s⟩
  | scheduleErase _ _ => exact ⟨_, rfl, request_kept rfl s⟩
  | speciesStore _ _ => exact ⟨_, rfl, request_kept rfl s⟩
  | speciesRead _ _ => exact ⟨_, rfl, request_kept rfl s⟩
  | speciesErase _ _ => exact ⟨_, rfl, request_kept rfl s⟩
  | storeQuery _ _ => exact ⟨_, rfl, request_kept rfl s⟩
  | storeWriteComplete _ => exact ⟨_, rfl, event_kept (fun s => completeWrite_keeps rfl _ s) s⟩
  | chargeCreate _ _ => exact ⟨_, rfl, request_kept rfl s⟩
  | chargeClose _ _ => exact ⟨_, rfl, request_kept rfl s⟩
  | chargeQuery _ _ => exact ⟨_, rfl, request_kept rfl s⟩
  | chargeList _ _ => exact ⟨_, rfl, request_kept rfl s⟩
  | feed _ _ => exact ⟨_, rfl, request_kept rfl s⟩
  | feedEnd _ _ => exact ⟨_, rfl, request_kept rfl s⟩
  | kilnConfig _ _ => exact ⟨_, rfl, request_kept rfl s⟩
  | kilnLoad _ _ => exact ⟨_, rfl, request_kept rfl s⟩
  | sampleDefine _ _ => exact ⟨_, rfl, request_kept rfl s⟩
  | sampleExclude _ _ => exact ⟨_, rfl, request_kept rfl s⟩
  | sampleInclude _ _ => exact ⟨_, rfl, request_kept rfl s⟩
  | kilnStart _ _ => exact ⟨_, rfl, request_kept rfl s⟩
  | kilnAdvance _ _ => exact ⟨_, rfl, request_kept rfl s⟩
  | kilnHold _ _ => exact ⟨_, rfl, request_kept rfl s⟩
  | kilnPark _ _ => exact ⟨_, rfl, request_kept rfl s⟩
  | kilnResume _ _ => exact ⟨_, rfl, request_kept rfl s⟩
  | kilnUnload _ _ => exact ⟨_, rfl, request_kept rfl s⟩
  | kilnQuery _ _ => exact ⟨_, rfl, request_kept rfl s⟩
  | secondTick => exact ⟨_, rfl, event_kept (fun s => secondTick_keeps rfl s) s⟩
  | kilnMinuteTick => exact ⟨_, rfl, event_kept (fun s => kilnMinuteTick_keeps s) s⟩
  | climatePollDue _ => exact ⟨_, rfl, event_kept (fun s => serve_keeps (climateDue_keeps rfl _ s) rfl) s⟩
  | scanDue _ => exact ⟨_, rfl, event_kept (fun s => serve_keeps (scanDue_keeps rfl rfl _ s) rfl) s⟩
  | climateExchangeDone _ _ _ => exact ⟨_, rfl, event_kept (fun s => climateDone_keeps rfl _ _ _ s) s⟩
  | weighDone _ => exact ⟨_, rfl, event_kept (fun s => weighDone_keeps rfl _ s) s⟩
  | transferAttemptFailed _ => exact ⟨_, rfl, event_kept (fun s => attemptFailed_keeps rfl _ s) s⟩
  | busQuery _ _ => exact ⟨_, rfl, request_kept rfl s⟩
  | terminalAssign _ _ => exact ⟨_, rfl, request_kept rfl s⟩
  | terminalSet _ _ => exact ⟨_, rfl, request_kept rfl s⟩
  | terminalRead _ _ => exact ⟨_, rfl, request_kept rfl s⟩
  | generalInPinChange _ _ => exact ⟨_, rfl, event_kept (fun s => generalInPin_keeps _ _ s) s⟩
  | generalInFilterExpiry _ => exact ⟨_, rfl, event_kept (fun s => generalInTaken_keeps _ s) s⟩
  | meterFaultInputChange _ => exact ⟨_, rfl, event_kept (fun s => meterFaultPin_keeps _ s) s⟩
  | conversionComplete _ _ => exact ⟨_, rfl, event_kept (fun s => conversionDone_keeps _ _ s) s⟩
  | eyeChange _ _ => exact ⟨_, rfl, event_kept_of_entry (eyePin_open rfl _ _) (fun _ h => eyePin_boards _ _ h) s⟩
  | encoderPulse => exact ⟨_, rfl, event_kept_of_entry (encoderRises_open rfl) (fun _ h => encoderRises_boards h) s⟩
  | lineConfig _ _ => exact ⟨_, rfl, request_kept rfl s⟩
  | lineStart _ _ => exact ⟨_, rfl, request_kept rfl s⟩
  | lineStop _ _ => exact ⟨_, rfl, request_kept rfl s⟩
  | knifeReset _ _ => exact ⟨_, rfl, request_kept rfl s⟩
  | lineQuery _ _ => exact ⟨_, rfl, request_kept rfl s⟩
  | packClose _ _ => exact ⟨_, rfl, request_kept rfl s⟩
  | packTarget _ _ => exact ⟨_, rfl, request_kept rfl s⟩
  | bayCleared _ _ => exact ⟨_, rfl, request_kept rfl s⟩
  | packQuery _ _ => exact ⟨_, rfl, request_kept rfl s⟩
  | stackerQuery _ _ => exact ⟨_, rfl, request_kept rfl s⟩
  | labelEndSent => exact ⟨_, rfl, event_kept (fun s => labelSent_keeps s) s⟩
  | ackReceived => exact ⟨_, rfl, event_kept (fun s => printerAnswered_keeps _ s) s⟩
  | nakReceived => exact ⟨_, rfl, event_kept (fun s => printerAnswered_keeps _ s) s⟩
  | busyReceived => exact ⟨_, rfl, event_kept (fun s => printerAnswered_keeps _ s) s⟩
  | printerLineOther _ => exact ⟨_, rfl, event_kept (fun s => otherLine_keeps _ s) s⟩
  | answerTimeout => exact ⟨_, rfl, event_kept (fun s => labelUnanswered_keeps s) s⟩
  | retryTimerExpiry => exact ⟨_, rfl, event_kept (fun s => labelRetry_keeps s) s⟩
  | reprint _ _ => exact ⟨_, rfl, request_kept rfl s⟩
  | labelQuery _ _ => exact ⟨_, rfl, request_kept rfl s⟩
  | faultConfig _ _ => exact ⟨_, rfl, request_kept rfl s⟩
  | faultActions _ _ => exact ⟨_, rfl, request_kept rfl s⟩
  | faultLogClear _ _ => exact ⟨_, rfl, request_kept rfl s⟩
  | faultCountClear _ _ => exact ⟨_, rfl, request_kept rfl s⟩
  | faultQuery _ _ => exact ⟨_, rfl, request_kept rfl s⟩
  | faultConfigQuery _ _ => exact ⟨_, rfl, request_kept rfl s⟩
  | frameReceived _ _ _ _ => exact ⟨_, rfl, .of_keeps (completeFrame_keeps rfl rfl _ _ s) (completeFrame_transmits _ _ s)⟩
  | frameGapTimeout => exact ⟨_, rfl, event_kept (fun s => setReceiver_keeps _ s) s⟩
  | unknownRequest _ _ _ => exact ⟨_, rfl, event_kept (fun s => unknown_keeps _ _ _ s) s⟩
  | transmitComplete => exact ⟨_, rfl, .of_keeps ((event_keeps rfl sent_keeps s).trans (pump_keeps rfl rfl _)) (takeRequests_transmits _ _ (event_transmits _ s))⟩
  | reportsDropped => exact ⟨_, rfl, event_kept (fun s => .refl _ s) s⟩
  | subscribe _ _ => exact ⟨_, rfl, request_kept rfl s⟩
  | superviseArm _ _ => exact ⟨_, rfl, request_kept rfl s⟩
  | superviseRefresh _ _ => exact ⟨_, rfl, request_kept rfl s⟩
  | supervisionExpiry => exact ⟨_, rfl, event_kept (fun s => serve_keeps (supervisionReached_keeps rfl s) rfl) s⟩
  | setClock _ _ => exact ⟨_, rfl, request_kept rfl s⟩
  | clearStartCauses _ _ => exact ⟨_, rfl, request_kept rfl s⟩
  | statusQuery _ _ => exact ⟨_, rfl, request_kept rfl s⟩
  | restart _ _ => exact ⟨_, rfl, request_kept rfl s⟩
  | restartWarmStart _ => exact ⟨_, rfl, event_kept (fun s => .ite (fun _ => warmStart_keeps rfl _ _ s) fun _ => .refl _ s) s⟩
  | breakWarmStart _ => exact ⟨_, rfl, event_kept (fun s => warmStart_keeps rfl _ _ s) s⟩
  | powerColdStart _ => exact ⟨_, rfl, .of_keeps ((coldStart_keeps rfl _ _ s).trans (beginTransmit_keeps rfl _)) (beginTransmit_transmits _)⟩
  | pinColdStart _ => exact ⟨_, rfl, .of_keeps ((coldStart_keeps rfl _ _ s).trans (beginTransmit_keeps rfl _)) (beginTransmit_transmits _)⟩
  | hostByteReceived _ => exact ⟨_, rfl, .of_keeps (takeByte_keeps rfl rfl _ s) (takeByte_transmits _ s)⟩
  | byteWithoutStopBit => exact ⟨_, rfl, event_kept (fun s => setReceiver_keeps _ s) s⟩
  | receiveLineIdle => exact ⟨_, rfl, event_kept (fun s => setReceiver_keeps _ s) s⟩
  | encoderFallingEdge => exact ⟨_, rfl, event_kept (fun s => encoderFalls_keeps s) s⟩

theorem step_kept (h : step s = .next t) : Kept s t := by
  unfold step at h
  split at h
  · obtain rfl := Host.Outcome.next.inj h
    exact ⟨.refl _ s, fun hs => hs.1, id⟩
  case h_2 c rest _ =>
    obtain ⟨u, hu, hkept⟩ := exec_kept c { s with pending := rest }
    obtain rfl : u = t := Host.Outcome.next.inj (hu.symm.trans h)
    exact ⟨Keeps.trans {} hkept.keeps, hkept.boards, hkept.transmits⟩

/-! ## The obligations on every step -/

/-- Settles O56. -/
theorem stepKeepsPortAndFaultUnit : Obligations.StepKeepsPortAndFaultUnit := by
  intro s t hbounded htransmits hfaults h
  have hkept := step_kept h
  exact ⟨hkept.keeps.bounded hbounded, hkept.transmits htransmits, hkept.keeps.faults hfaults⟩

/-- Settles O57. -/
theorem stepKeepsKilnsAndBus : Obligations.StepKeepsKilnsAndBus := by
  intro s t hkilns hbus h
  have hkept := (step_kept h).keeps
  exact ⟨hkept.kilns hkilns, (bus_sound_iff _).2 ⟨hkept.apart hbus.1, hkept.settled rfl hbus⟩⟩

/-- Settles O58. -/
theorem stepKeepsThePlanerSide : Obligations.StepKeepsThePlanerSide := by
  intro s t hline houtputs hplaner hpacks h
  have hkept := (step_kept h).keeps
  exact ⟨hkept.line hline, hkept.outputs houtputs, hkept.planer hplaner, hkept.packs hpacks⟩

/-- Settles O59. -/
theorem stepKeepsTheLatch : Obligations.StepKeepsTheLatch :=
  fun _ _ hlatch h => (step_kept h).keeps.latch rfl hlatch

/-- The counted events of one board keep the balance of its record (R44, R45, R48). -/
theorem counted_balance {c : ChargeRecord} {pending : Nat} (hentered : c.counts.entered < 4294967295)
    (htop : settledCount c < 4294967295) (hbalance : c.counts.entered = settledCount c + pending) :
    c.entered.counts.entered = settledCount c.entered + (pending + 1) ∧
    c.overran.counts.entered = settledCount c.overran + pending ∧
    (∀ (d : Decision) (mean : Option Nat), d ≠ .pending → 1 ≤ pending →
      (c.decided d mean).counts.entered = settledCount (c.decided d mean) + (pending - 1)) ∧
    (1 ≤ pending → (c.untrack true).counts.entered = settledCount (c.untrack true) + (pending - 1)) ∧
    (c.untrack false).counts.entered = settledCount (c.untrack false) + pending := by
  have hraise : raiseCount c.number c.counts.entered = c.counts.entered + 1 := raiseCount_of_lt hentered
  have hraise' : raiseCount c.number c.counts.untracked = c.counts.untracked + 1 :=
    raiseCount_of_lt (by unfold settledCount at htop; omega)
  refine ⟨?_, ?_, fun d mean hd hpending => ?_, fun hpending => ?_, hbalance⟩
  · have hsettled : settledCount c.entered = settledCount c := rfl
    rw [hsettled]
    simp only [ChargeRecord.entered, hraise]
    omega
  · unfold settledCount at hbalance ⊢
    simp only [ChargeRecord.overran, hraise, hraise']
    omega
  · obtain ⟨hsame, hsettled⟩ := decided_counts hd mean htop
    omega
  · obtain ⟨-, -, hsame, hsettled⟩ := untrack_shape true htop
    rw [if_pos rfl] at hsettled
    omega

/-- Settles O11. -/
theorem boardCountsKeepTheirBalance : Obligations.BoardCountsKeepTheirBalance :=
  ⟨fun _ _ hs htop h => (step_kept h).boards ⟨hs, htop⟩, fun _ _ hentered htop hbalance => counted_balance hentered htop hbalance⟩

end Sys2Proof.Proofs.Invariants
end

section
/-!
What a command comes to, in the form of the statements: a taken request is its act, its reports in order and its reply, an event its
effect and its reports (R180, R183); and what the service of the poll list begins (R88).
-/
namespace Sys2Proof.Proofs.Answers
open Sys2Proof.Machine
set_option Elab.async false

variable {s t : State} {i : Instr} {kind tag : Byte} {payload : List Byte} {act : State → State × List Byte}

/-! ## Requests and events -/

/-- Reports queued in order on a state. -/
def reporting (reports : List Report) (s : State) : State := reports.foldl (fun s r => queueReport r s) s

theorem reporting_append (reports : List Report) (r : Report) (s : State) :
    reporting (reports ++ [r]) s = queueReport r (reporting reports s) := by
  simp [reporting, List.foldl_append]

theorem exec_eq_after (h : s.takesAtOnce) (hexec : exec i s = .next (request kind tag payload act s)) (reports : List Report)
    {fields : List Byte} (ha : act s = (reporting reports t, fields)) :
    exec i s = .next (t.after reports (replyTo kind tag fields)) := by
  rw [hexec, LineStop.request_eq_after h reports ha]

/-- A request that is accepted without a report. -/
theorem exec_of_done (h : s.takesAtOnce) (hexec : exec i s = .next (request kind tag payload act s)) (ha : act s = done t) :
    exec i s = .next (t.after [] (replyTo kind tag [0x00])) :=
  exec_eq_after h hexec [] ha

/-- A request that is refused. -/
theorem exec_of_refuse (h : s.takesAtOnce) (hexec : exec i s = .next (request kind tag payload act s)) {st : Status}
    (ha : act s = refuse st s) : exec i s = .next (s.after [] (replyTo kind tag [st.byte])) :=
  exec_eq_after h hexec [] ha

/-- A query. -/
theorem exec_of_replyOnly (h : s.takesAtOnce) (hexec : exec i s = .next (request kind tag payload act s))
    {fields : State → List Byte} (ha : act s = replyOnly fields s) :
    exec i s = .next (s.after [] (replyTo kind tag (0x00 :: fields s))) :=
  exec_eq_after h hexec [] ha

theorem exec_event_eq_after (ho : s.port.dropOwed = none) {f : State → State} (hexec : exec i s = .next (event f s))
    (reports : List Report) (hf : f s = reporting reports t) : exec i s = .next (t.after reports none) := by
  rw [hexec, event_of ho, hf, after_none]
  rfl

/-! ## The service of the poll list (R88) -/

/-- A poll begun with its work, and the rest of the list. -/
def begun (e : PollEntry) (rest : List PollEntry) (w : PollWork) (s : State) : State :=
  { s with bus := { s.bus with pendingPolls := rest, current := some ⟨e, 1, s.kilns[e.kiln].config.address, w⟩ } }

theorem serve_of_current (h : s.bus.current ≠ none) : serve s = s := Invariants.serveUpTo_of_current h

/-- A free bus takes the entry at the head of the list. -/
theorem serve_of_head {e : PollEntry} {rest : List PollEntry} (hcurrent : s.bus.current = none)
    (hpolls : s.bus.pendingPolls = e :: rest) :
    serve s = serveUpTo 31 (beginPoll e { s with bus := { s.bus with pendingPolls := rest } }) := by
  rw [serve, serveUpTo]
  split
  case h_1 e' rest' _ h =>
    obtain ⟨rfl, rfl⟩ := List.cons.inj (hpolls.symm.trans h)
    rfl
  case h_2 h => exact (h e rest hcurrent hpolls).elim

theorem serve_of_begun {e : PollEntry} {rest : List PollEntry} {w : PollWork} (hcurrent : s.bus.current = none)
    (hpolls : s.bus.pendingPolls = e :: rest)
    (hbegin : beginPoll e { s with bus := { s.bus with pendingPolls := rest } } = begun e rest w s) : serve s = begun e rest w s := by
  rw [serve_of_head hcurrent hpolls, hbegin]
  exact Invariants.serveUpTo_of_current (by simp [begun])

theorem serve_of_climate {e : PollEntry} {rest : List PollEntry} (hcurrent : s.bus.current = none)
    (hpolls : s.bus.pendingPolls = e :: rest) (hkind : e.kind = .climate) :
    serve s = begun e rest (.climate s.kilns[e.kiln].command) s :=
  serve_of_begun hcurrent hpolls (by rw [beginPoll, hkind]; rfl)

theorem serve_of_scan {e : PollEntry} {rest : List PollEntry} {p : Fin 8} {ps : List (Fin 8)} (hcurrent : s.bus.current = none)
    (hpolls : s.bus.pendingPolls = e :: rest) (hkind : e.kind = .scan) (hstands : s.scanStands e = true)
    (hpositions : positionsOf s.kilns[e.kiln].samples = p :: ps) :
    serve s = begun e rest (.scan (p :: ps) 0) s := by
  refine serve_of_begun hcurrent hpolls ?_
  have hstands' : ({ s with bus := { s.bus with pendingPolls := rest } } : State).scanStands e = true := hstands
  simp only [beginPoll, hkind]
  rw [if_pos hstands']
  simp only [hpositions]
  rfl

/-- Service begins what the statements say it begins. -/
theorem serve_begins (s : State) : s.begins (serve s) := by
  refine ⟨fun h => ?_, fun e rest work hcurrent hpolls hwork => ⟨fun hkind => ?_, fun p ps hkind hstands hpositions => ?_⟩⟩
  · obtain hcurrent | hpolls := h
    · exact serve_of_current hcurrent
    · exact serve_of_settled fun _ => hpolls
  · rw [serve_of_climate hcurrent hpolls hkind, hwork]
    rfl
  · rw [serve_of_scan hcurrent hpolls hkind hstands hpositions, hwork]
    rfl

/-- A list whose head, if any waits, is a climate poll: service queues no report. -/
def climateFirst (s : State) : Prop :=
  s.bus.current = none → ∀ e rest, s.bus.pendingPolls = e :: rest → e.kind = .climate

/-- Service of such a list commutes with a report that is queued before it. -/
theorem serve_queueReport (h : climateFirst s) (r : Report) : serve (queueReport r s) = queueReport r (serve s) := by
  by_cases hcurrent : s.bus.current = none
  · cases hpolls : s.bus.pendingPolls with
    | nil =>
      rw [serve_of_settled (s := s) fun _ => hpolls, serve_of_settled (s := queueReport r s) fun _ => hpolls]
    | cons e rest =>
      have hkind := h hcurrent e rest hpolls
      rw [serve_of_climate hcurrent hpolls hkind, serve_of_climate (s := queueReport r s) hcurrent hpolls hkind]
      rfl
  · rw [serve_of_current hcurrent, serve_of_current (s := queueReport r s) hcurrent]

/-- Every poll that an operation added is a climate poll, and the poll in service is the same. -/
def addsClimatePolls (s t : State) : Prop :=
  t.bus.current = s.bus.current ∧ ∀ e ∈ t.bus.pendingPolls, e ∈ s.bus.pendingPolls ∨ e.kind = .climate

theorem addsClimatePolls_of_bus (h : t.bus = s.bus) : addsClimatePolls s t := by
  simp only [addsClimatePolls, h, true_and]
  exact fun e he => .inl he

theorem addsClimatePolls.trans {u : State} (h : addsClimatePolls s t) (g : addsClimatePolls t u) : addsClimatePolls s u :=
  ⟨g.1.trans h.1, fun e he => (g.2 e he).elim (h.2 e) .inr⟩

theorem pollDue_addsClimatePolls (k : Fin 6) (s : State) : addsClimatePolls s (pollDue k .climate s) := by
  unfold pollDue
  split
  · exact addsClimatePolls_of_bus rfl
  · refine ⟨rfl, fun e he => ?_⟩
    obtain he | rfl : e ∈ s.bus.pendingPolls ∨ e = ⟨k, .climate, s.bus.links[k].mark⟩ := by simpa using he
    · exact .inl he
    · exact .inr rfl

theorem applyCause_addsClimatePolls (k : Fin 6) (kind : HoldKind) (level : Nat) (cause : KilnCause) (s : State) :
    addsClimatePolls s (applyCause k kind level cause s) := by
  unfold applyCause
  dsimp only
  split
  · exact addsClimatePolls_of_bus rfl
  split
  · exact addsClimatePolls_of_bus rfl
  · exact .trans (addsClimatePolls_of_bus rfl) (pollDue_addsClimatePolls k (reportKiln k cause (s.modKiln k _)))

theorem applyCauses_addsClimatePolls (kind : HoldKind) (level : Nat) (cause : KilnCause) (ks : List (Fin 6)) (s : State) :
    addsClimatePolls s (applyCauses kind level cause ks s) := by
  induction ks generalizing s with
  | nil => exact addsClimatePolls_of_bus rfl
  | cons k ks ih => exact (applyCause_addsClimatePolls k kind level cause s).trans (ih _)

theorem trip_bus (cause : LineCause) (s : State) : (trip cause s).bus = s.bus := by
  unfold trip
  split <;> rfl

theorem applyActions_addsClimatePolls (d : Domain) (r : FaultRecord) (log : DomainLog × Placement) (a : ActionSet) (s : State) :
    addsClimatePolls s (applyActions d r log a s) := by
  have htrip (b : Bool) (s : State) : addsClimatePolls s (if b then trip .fault s else s) := by
    cases b
    · exact addsClimatePolls_of_bus rfl
    · exact addsClimatePolls_of_bus (trip_bus _ _)
  unfold applyActions
  dsimp only
  refine .trans ?_ (htrip _ _)
  generalize hreported : ite (a.report = true) _ s = reported
  have hreport : addsClimatePolls s reported := by
    rw [← hreported]
    split <;> exact addsClimatePolls_of_bus rfl
  refine hreport.trans ?_
  split
  · exact applyCauses_addsClimatePolls _ _ _ _ _
  · exact addsClimatePolls_of_bus rfl

theorem raise_addsClimatePolls (fault : FaultKind) (d : Domain) (x : FaultContext) (s : State) :
    addsClimatePolls s (raise fault d x s) := by
  unfold raise
  dsimp only
  split
  · exact addsClimatePolls_of_bus rfl
  split
  · exact addsClimatePolls_of_bus rfl
  · exact applyActions_addsClimatePolls _ _ _ _ _

/-- On a settled list only climate polls can have come first. -/
theorem climateFirst_of_adds (hs : s.bus.settled) (h : addsClimatePolls s t) : climateFirst t := by
  intro hcurrent e rest hpolls
  have hempty := hs (h.1.symm.trans hcurrent)
  obtain hmem | hkind := h.2 e (by rw [hpolls]; exact List.mem_cons_self)
  · rw [hempty] at hmem
    cases hmem
  · exact hkind

end Sys2Proof.Proofs.Answers
end

section
/-!
The step, and the settings store: its requests by the state of the place they name, and the completion of a write (sections 1.2, 1.3).
-/
namespace Sys2Proof.Proofs.SettingsStore
open Sys2Proof.Machine Sys2Proof.Proofs.Answers
set_option Elab.async false

variable {s : State}

/-- Settles O1. -/
theorem stepRunsTheFrontCommand : Obligations.StepRunsTheFrontCommand :=
  ⟨fun c rest s h => by rw [step, h], fun s h => by rw [step, h]⟩

/-! ## Storing (R2, R8) -/

theorem readSlotFirst_of_ge {b : Byte} (h : 16 ≤ b.toNat) (body : List Byte) : readSlotFirst (b :: body) = none := by
  simp [readSlotFirst, fin?, Nat.not_lt.2 h]

theorem isWriting_iff (p : SpeciesPlace) : p.isWriting = true ↔ ∃ former, p = .writing former := by
  cases p <;> simp [SpeciesPlace.isWriting]

theorem isWriting_eq_false {p : SpeciesPlace} (h : ∀ former, p ≠ .writing former) : p.isWriting = false := by
  cases p <;> simp_all [SpeciesPlace.isWriting]

/-- What a species entry lends does not change as it becomes WRITING (R8, R10). -/
theorem kept_eq_inForce (p : SpeciesPlace) : p.kept = p.inForce := by
  cases p <;> rfl

theorem actScheduleStore_eq (n : Fin 16) (body : List Byte) (s : State) : actScheduleStore (byteOf n :: body) s =
    if s.store.slots[n] = .writing then refuse .busy s
    else match readSchedule body with
      | none => refuse .badArg s
      | some r => done ((s.setSlot n .writing).queueWrite (.schedule n r)) := by
  simp only [actScheduleStore, readSlotFirst_byteOf, List.tail_cons] <;> rfl

theorem actSpeciesStore_eq (n : Fin 8) (body : List Byte) (s : State) : actSpeciesStore (byteOf n :: body) s =
    if s.store.species[n].isWriting then refuse .busy s
    else match readSpecies body with
      | none => refuse .badArg s
      | some e => done ((s.setSpecies n (.writing s.store.species[n].kept)).queueWrite (.species n e)) := by
  simp only [actSpeciesStore, readSpeciesFirst_byteOf, List.tail_cons] <;> rfl

theorem entryInForce_setSpecies (n : Fin 8) (p : SpeciesPlace) (s : State) : (s.setSpecies n p).entryInForce n = p.inForce := by
  simp [State.entryInForce, State.setSpecies]

/-- Settles O2. -/
theorem storeRequestsQueueTheirWrites : Obligations.StoreRequestsQueueTheirWrites := by
  refine ⟨fun s tag n body htakes => ⟨fun hwriting => ?_, fun hfree hread => ?_, fun r hfree hread => ?_, fun b hb => ?_⟩,
    fun s tag n body htakes => ⟨fun former hwriting => ?_, fun e hfree hread => ?_⟩⟩
  · exact exec_of_refuse htakes rfl (st := .busy) (by rw [actScheduleStore_eq, if_pos hwriting])
  · exact exec_of_refuse htakes rfl (st := .badArg) (by rw [actScheduleStore_eq, if_neg hfree, hread])
  · exact exec_of_done htakes rfl (by rw [actScheduleStore_eq, if_neg hfree, hread]; rfl)
  · exact exec_of_refuse htakes rfl (st := .badArg) (by rw [actScheduleStore, readSlotFirst_of_ge hb])
  · exact exec_of_refuse htakes rfl (st := .busy) (by rw [actSpeciesStore_eq, if_pos ((isWriting_iff _).2 ⟨former, hwriting⟩)])
  · have hact : actSpeciesStore (byteOf n :: body) s =
        done ((s.setSpecies n (.writing s.store.species[n].kept)).queueWrite (.species n e)) := by
      rw [actSpeciesStore_eq, isWriting_eq_false hfree, hread]
      rfl
    refine ⟨_, exec_of_done htakes rfl hact, ?_, ⟨s.store.species[n].kept, ?_⟩, ?_⟩
    · exact (entryInForce_setSpecies n _ s).trans (kept_eq_inForce _)
    · simp [State.after, State.queueWrite, State.setSpecies]
    · simp [State.after, State.queueWrite, State.setSpecies, State.modStore]

/-! ## Reading and erasing (R5, R6, R9) -/

/-- Settles O5. -/
theorem readAndEraseByState : Obligations.ReadAndEraseByState := by
  refine ⟨fun s tag n htakes => ⟨?_, fun hfree => ?_, fun hwriting => ?_⟩, fun s tag n htakes => ⟨?_, ?_⟩⟩
  · have hact : actScheduleRead [byteOf n] s = match s.store.slots[n].lend with
        | .ok r => replyOnly (fun _ => r.wire) s
        | .error e => refuse e s := by
      simp only [actScheduleRead, readNumber_byteOf (n := 16) (by decide)] <;> rfl
    cases hslot : s.store.slots[n] with
    | valid r => exact exec_of_replyOnly htakes rfl (fields := fun _ => r.wire) (hact.trans (by rw [hslot]; rfl))
    | writing => exact exec_of_refuse htakes rfl (st := .busy) (hact.trans (by rw [hslot]; rfl))
    | empty => exact exec_of_refuse htakes rfl (st := .notFound) (hact.trans (by rw [hslot]; rfl))
    | invalid => exact exec_of_refuse htakes rfl (st := .notFound) (hact.trans (by rw [hslot]; rfl))
  · exact exec_of_done htakes rfl (by simp only [actScheduleErase, readNumber_byteOf (n := 16) (by decide)]; exact if_neg hfree)
  · exact exec_of_refuse htakes rfl (st := .busy)
      (by simp only [actScheduleErase, readNumber_byteOf (n := 16) (by decide)]; exact if_pos hwriting)
  · have hact : actSpeciesRead [byteOf n] s = match s.store.species[n] with
        | .present e => replyOnly (fun _ => e.wire) s
        | .writing _ => refuse .busy s
        | .absent | .invalid => refuse .notFound s := by
      simp only [actSpeciesRead, readNumber_byteOf (n := 8) (by decide)] <;> rfl
    cases hplace : s.store.species[n] with
    | present e => exact exec_of_replyOnly htakes rfl (fields := fun _ => e.wire) (hact.trans (by rw [hplace]))
    | writing former => exact exec_of_refuse htakes rfl (st := .busy) (hact.trans (by rw [hplace]))
    | absent => exact exec_of_refuse htakes rfl (st := .notFound) (hact.trans (by rw [hplace]))
    | invalid => exact exec_of_refuse htakes rfl (st := .notFound) (hact.trans (by rw [hplace]))
  · have hact : actSpeciesErase [byteOf n] s =
        if s.store.species[n].isWriting then refuse .busy s else done (s.setSpecies n .absent) := by
      simp only [actSpeciesErase, readNumber_byteOf (n := 8) (by decide)]
    cases hplace : s.store.species[n] with
    | writing former => exact exec_of_refuse htakes rfl (st := .busy) (hact.trans (by rw [hplace]; rfl))
    | present e => exact exec_of_done htakes rfl (hact.trans (by rw [hplace]; rfl))
    | absent => exact exec_of_done htakes rfl (hact.trans (by rw [hplace]; rfl))
    | invalid => exact exec_of_done htakes rfl (hact.trans (by rw [hplace]; rfl))

/-! ## The completion of a write (R4) -/

theorem completeWrite_true {w : Write} {rest : List Write} (hbus : s.bus.settled) (hwrites : s.store.writes = w :: rest) :
    completeWrite true s =
      queueReport (.storeDone w.location true) (settleLocation w true (s.modStore fun t => { t with writes := rest })) := by
  simp only [completeWrite, hwrites, if_true]
  refine serve_of_settled ?_
  cases w <;> exact hbus

/-- A failed verify raises STORE_WRITE_FAIL, and what the raise makes fall due is climate polls (R4, R75). -/
theorem completeWrite_false {w : Write} {rest : List Write} {t : State} (hbus : s.bus.settled) (hwrites : s.store.writes = w :: rest)
    (ht : t = settleLocation w false (s.modStore fun t => { t with writes := rest })) :
    completeWrite false s = queueReport (.storeDone w.location false)
      (serve (raise .storeWriteFail .system (.system (some w.location)) t)) := by
  have hsettled : t.bus.settled := by
    rw [ht]
    cases w <;> exact hbus
  simp only [completeWrite, hwrites, ← ht]
  exact serve_queueReport (climateFirst_of_adds hsettled (raise_addsClimatePolls ..)) _

/-- Settles O6. -/
theorem writeCompletesAtTheHead : Obligations.WriteCompletesAtTheHead := by
  refine fun s rest howed hbus => ⟨fun n r hwrites => ?_, fun n e hwrites => ?_, fun l store u hfailed hu => ?_⟩
  · exact exec_event_eq_after howed rfl [_] (completeWrite_true hbus hwrites)
  · exact exec_event_eq_after howed rfl [_] (completeWrite_true hbus hwrites)
  · obtain ⟨w, hwrites, rfl, hstore⟩ : ∃ w : Write, s.store.writes = w :: rest ∧ l = w.location ∧
        ({ s with store := store } : State) = settleLocation w false (s.modStore fun t => { t with writes := rest }) := by
      obtain ⟨n, r, hwrites, rfl, rfl⟩ | ⟨n, e, hwrites, rfl, rfl⟩ := hfailed
      · exact ⟨.schedule n r, hwrites, rfl, rfl⟩
      · exact ⟨.species n e, hwrites, rfl, rfl⟩
    have hcomplete := completeWrite_false hbus hwrites hstore
    refine ⟨fun hmasked => ?_, serve u, serve_begins u, ?_⟩
    · rw [raise_masked (s := { s with store := store }) hmasked, serve_of_settled (s := { s with store := store }) hbus] at hcomplete
      exact exec_event_eq_after howed rfl [_] hcomplete
    · rw [← hu] at hcomplete
      exact exec_event_eq_after howed rfl [_] hcomplete

end Sys2Proof.Proofs.SettingsStore
end

section
/-!
The records of the settings store as bytes (R2, R5, R8, R9): the readers undo the writers on valid records, and read no others.
-/
namespace Sys2Proof.Proofs.StoredRecords
open Sys2Proof.Machine
set_option Elab.async false

/-! ## Fields -/

theorem readSome_nil (bs : List Byte) : readSome [] bs = some ([], bs) := rfl

theorem readSome_cons {w v : Nat} {ws vs : List Nat} {bs rest : List Byte} (hv : v < 256 ^ w)
    (h : readSome ws bs = some (vs, rest)) : readSome (w :: ws) (le w v ++ bs) = some (v :: vs, rest) := by
  simp [readSome, readLE_le w v bs hv, h]

theorem readFields_of_readSome {ws vs : List Nat} {bs : List Byte} (h : readSome ws bs = some (vs, [])) :
    readFields ws bs = some vs := by
  simp [readFields, h]

/-- An integer of `w` bytes is below `256 ^ w`. -/
theorem lt_of_readLE {w v : Nat} {bs rest : List Byte} (h : readLE w bs = some (v, rest)) : v < 256 ^ w := by
  induction w generalizing v bs with
  | zero =>
    obtain ⟨rfl, -⟩ : 0 = v ∧ bs = rest := by simpa [readLE] using h
    decide
  | succ w ih =>
    cases bs with
    | nil => simp [readLE] at h
    | cons b bs =>
      obtain ⟨v', hv', rfl⟩ : ∃ v', readLE w bs = some (v', rest) ∧ b.toNat + 256 * v' = v := by
        simpa [readLE] using h
      have := ih hv'
      have := b.isLt
      rw [pow_succ]
      omega

theorem readSome_cons_eq_some {w : Nat} {ws vs : List Nat} {bs rest : List Byte} (h : readSome (w :: ws) bs = some (vs, rest)) :
    ∃ v vs' bs', vs = v :: vs' ∧ v < 256 ^ w ∧ readSome ws bs' = some (vs', rest) := by
  rw [readSome] at h
  split at h
  case h_1 v bs' hv =>
    obtain ⟨vs', hvs, rfl⟩ : ∃ vs', readSome ws bs' = some (vs', rest) ∧ v :: vs' = vs := by simpa using h
    exact ⟨v, vs', bs', rfl, lt_of_readLE hv, hvs⟩
  case h_2 => cases h

theorem readFields_eq_some {ws vs : List Nat} {bs : List Byte} (h : readFields ws bs = some vs) :
    readSome ws bs = some (vs, []) := by
  unfold readFields at h
  split at h
  case h_1 vs' hvs => rw [hvs, Option.some.inj h]
  case h_2 => cases h

theorem signed16_temp {t : Int} (hlow : -32768 ≤ t) (hhigh : t < 32768) : signed16 (t % 65536).toNat = t := by
  unfold signed16
  split <;> omega

theorem temp_lt (t : Int) : (t % 65536).toNat < 256 ^ 2 := by
  omega

theorem within_iff {low x high : Nat} : within low x high = true ↔ low ≤ x ∧ x ≤ high := by
  simp [within]

theorem withinInt_iff {low x high : Int} : withinInt low x high = true ↔ low ≤ x ∧ x ≤ high := by
  simp [withinInt]

/-! ## Names -/

theorem readName_wireName {most : Nat} {name : List Byte} (hmost : most < 256) (h : nameValid most name) (rest : List Byte) :
    readName most (wireName name ++ rest) = some (name, rest) := by
  obtain ⟨hlow, hhigh, hchars⟩ := h
  have hcount : (BitVec.ofNat 8 name.length).toNat = name.length := by
    simp only [BitVec.toNat_ofNat]
    omega
  have hall : name.all (fun b => within 0x20 b.toNat 0x7E) = true := by
    simpa [within_iff] using hchars
  simp only [wireName, List.cons_append, readName, hcount, List.take_left, List.drop_left, hall]
  simp [within, hlow, hhigh]

theorem nameValid_of_readName {most : Nat} {bs name rest : List Byte} (h : readName most bs = some (name, rest)) :
    nameValid most name := by
  cases bs with
  | nil => simp [readName] at h
  | cons n bs =>
    unfold readName at h
    dsimp only at h
    split at h
    case isFalse => cases h
    case isTrue htest =>
      obtain ⟨rfl, -⟩ := Prod.mk.inj (Option.some.inj h)
      simp only [Bool.and_eq_true, within_iff, decide_eq_true_eq, List.all_eq_true] at htest
      obtain ⟨⟨⟨hlow, hhigh⟩, hlength⟩, hchars⟩ := htest
      have htake : (bs.take n.toNat).length = n.toNat := by simp [hlength]
      exact ⟨by omega, by omega, hchars⟩

/-! ## Schedule steps -/

theorem stepOf_valid {t d k v p m : Nat} {st : ScheduleStep} (h : stepOf t d k v p m = some st) : st.valid := by
  unfold stepOf at h
  dsimp only at h
  split at h
  case isFalse => cases h
  case isTrue htemps =>
    simp only [Bool.and_eq_true, withinInt_iff] at htemps
    obtain ⟨⟨ht, ht'⟩, hd, hd'⟩ := htemps
    have hmax {p : Bool} (hp : (!p || within 1 m 65535) = true) (n : Nat) (hn : (if p then some m else none) = some n) :
        1 ≤ n ∧ n ≤ 65535 := by
      cases p with
      | false => cases hn
      | true =>
        obtain rfl : m = n := by simpa using hn
        exact within_iff.1 (by simpa using hp)
    split at h
    case h_1 p _ =>
      split at h
      case isFalse => cases h
      case isTrue htest =>
        obtain rfl := Option.some.inj h
        simp only [Bool.and_eq_true, within_iff] at htest
        exact ⟨ht, ht', hd, hd', htest.1.2, hmax htest.2⟩
    case h_2 p _ =>
      split at h
      case isFalse => cases h
      case isTrue htest =>
        obtain rfl := Option.some.inj h
        simp only [Bool.and_eq_true, within_iff] at htest
        exact ⟨ht, ht', hd, hd', htest.1, hmax htest.2⟩
    case h_3 => cases h

/-- The fields of a step entry read back, and are the step again. -/
theorem readSome_step {st : ScheduleStep} (h : st.valid) (rest : List Byte) :
    ∃ t d k v p m, readSome [2, 2, 1, 2, 1, 2] (st.wire ++ rest) = some ([t, d, k, v, p, m], rest) ∧
      stepOf t d k v p m = some st := by
  obtain ⟨target, depression, leave, maxDuration⟩ := st
  obtain ⟨ht, ht', hd, hd', hleave, hmax⟩ := h
  dsimp only at ht ht' hd hd' hleave hmax
  obtain ⟨k, v, hwire, hk, hv, hstep⟩ : ∃ k v, (∀ max, ScheduleStep.wire ⟨target, depression, leave, max⟩ =
      temp target ++ temp depression ++ (le 1 k ++ le 2 v) ++ opt 2 (le 2) max) ∧ k < 256 ^ 1 ∧ v < 256 ^ 2 ∧
      ∀ (p m : Nat) (b : Bool), flag? p = some b → (b = true → 1 ≤ m ∧ m ≤ 65535) →
        stepOf (target % 65536).toNat (depression % 65536).toNat k v p m =
          some ⟨target, depression, leave, if b then some m else none⟩ := by
    have htarget := signed16_temp (t := target) (by omega) (by omega)
    have hdepression := signed16_temp (t := depression) (by omega) (by omega)
    have hduration {b : Bool} {m : Nat} (hb : b = true → 1 ≤ m ∧ m ≤ 65535) : (!b || within 1 m 65535) = true := by
      cases b with
      | false => rfl
      | true => simpa using within_iff.2 (hb rfl)
    cases leave with
    | mc t =>
      refine ⟨0, t, fun _ => rfl, by decide, by simp only at hleave; omega, fun p m b hp hb => ?_⟩
      have hvalue : within 0 t 2000 = true := within_iff.2 ⟨Nat.zero_le _, hleave⟩
      simp [stepOf, htarget, hdepression, withinInt_iff.2 ⟨ht, ht'⟩, withinInt_iff.2 ⟨hd, hd'⟩, hp, hvalue, hduration hb]
    | time t =>
      refine ⟨1, t, fun _ => rfl, by decide, by simp only at hleave; omega, fun p m b hp hb => ?_⟩
      have hvalue : within 1 t 65535 = true := within_iff.2 hleave
      simp [stepOf, htarget, hdepression, withinInt_iff.2 ⟨ht, ht'⟩, withinInt_iff.2 ⟨hd, hd'⟩, hp, hvalue, hduration hb]
  obtain ⟨p, m, b, hpm, hp, hm, hflag, hb, rfl⟩ : ∃ p m b, opt 2 (le 2) maxDuration = le 1 p ++ le 2 m ∧ p < 256 ^ 1 ∧ m < 256 ^ 2 ∧
      flag? p = some b ∧ (b = true → 1 ≤ m ∧ m ≤ 65535) ∧ (if b then some m else none) = maxDuration := by
    cases maxDuration with
    | none => exact ⟨0, 0, false, rfl, by decide, by decide, rfl, (fun h => by cases h), rfl⟩
    | some m =>
      have := hmax m rfl
      exact ⟨1, m, true, rfl, by decide, by omega, rfl, fun _ => this, rfl⟩
  refine ⟨_, _, k, v, p, m, ?_, hstep p m b hflag hb⟩
  simp only [hwire, hpm, temp, List.append_assoc]
  exact readSome_cons (temp_lt _) (readSome_cons (temp_lt _) (readSome_cons hk (readSome_cons hv (readSome_cons hp
    (readSome_cons hm (readSome_nil rest))))))

theorem readSteps_wire {steps : List ScheduleStep} (h : ∀ st ∈ steps, st.valid) (rest : List Byte) :
    readSteps steps.length ((steps.map ScheduleStep.wire).flatten ++ rest) = some (steps, rest) := by
  induction steps with
  | nil => rfl
  | cons st steps ih =>
    obtain ⟨t, d, k, v, p, m, hread, hstep⟩ := readSome_step (h st List.mem_cons_self) ((steps.map ScheduleStep.wire).flatten ++ rest)
    simp only [List.length_cons, List.map_cons, List.flatten_cons, List.append_assoc, readSteps, hread, hstep]
    simp [ih fun d hd => h d (List.mem_cons_of_mem _ hd)]

theorem readSteps_eq_some {n : Nat} {bs rest : List Byte} {steps : List ScheduleStep} (h : readSteps n bs = some (steps, rest)) :
    steps.length = n ∧ ∀ st ∈ steps, st.valid := by
  induction n generalizing bs steps with
  | zero =>
    obtain ⟨rfl, -⟩ : steps = [] ∧ bs = rest := by simpa [readSteps, eq_comm] using h
    simp
  | succ n ih =>
    unfold readSteps at h
    split at h
    case h_2 => cases h
    case h_1 t d k v p m bs' _ =>
      split at h
      case h_2 => cases h
      case h_1 st hst =>
        obtain ⟨later, hlater, rfl⟩ : ∃ later, readSteps n bs' = some (later, rest) ∧ st :: later = steps := by
          simpa using h
        obtain ⟨hlength, hvalid⟩ := ih hlater
        exact ⟨by simp [hlength], by simpa using ⟨stepOf_valid hst, hvalid⟩⟩

theorem nonIncreasing_iff (xs : List Nat) : nonIncreasing xs = true ↔ xs.Pairwise fun a b => b ≤ a := by
  induction xs with
  | nil => simp [nonIncreasing]
  | cons a rest ih =>
    cases rest with
    | nil => simp [nonIncreasing]
    | cons b rest =>
      simp only [nonIncreasing, Bool.and_eq_true, decide_eq_true_eq, ih, List.pairwise_cons, List.mem_cons, forall_eq_or_imp]
      constructor
      · rintro ⟨hab, hb, hrest⟩
        exact ⟨⟨hab, fun c hc => (hb c hc).trans hab⟩, hb, hrest⟩
      · rintro ⟨⟨hab, -⟩, hb, hrest⟩
        exact ⟨hab, hb, hrest⟩

theorem scheduleOrdered_iff (steps : List ScheduleStep) (finalTarget : Nat) : scheduleOrdered steps finalTarget = true ↔
    (mcThresholds steps).Pairwise (fun a b => b ≤ a) ∧ ∀ t ∈ mcThresholds steps, finalTarget ≤ t := by
  simp [scheduleOrdered, nonIncreasing_iff]

/-! ## Schedule records -/

/-- A count and a list of entries begin with the count's byte. -/
theorem wireList_eq {α : Type} (enc : α → List Byte) (xs : List α) : wireList enc xs = le 1 xs.length ++ (xs.map enc).flatten := rfl

theorem readSchedule_wire {r : Schedule} (h : r.valid) : readSchedule r.wire = some r := by
  obtain ⟨hname, hspecies, hclass, hcount, hsteps, hramp, hramp', hfinal, hfinal', heqd, heqd', heqt, hcod, hcod', hcot,
    hordered, htarget⟩ := h
  have htail : readFields [1, 2, 2, 2, 2, 2] (le 1 r.rampRate ++ (le 2 r.finalTarget ++ (temp r.equaliseDepression ++
      (le 2 r.equaliseTolerance ++ (temp r.conditionDepression ++ (le 2 r.conditionDuration ++ [])))))) =
      some [r.rampRate, r.finalTarget, (r.equaliseDepression % 65536).toNat, r.equaliseTolerance,
        (r.conditionDepression % 65536).toNat, r.conditionDuration] :=
    readFields_of_readSome (readSome_cons (by omega) (readSome_cons (by omega) (readSome_cons (temp_lt _)
      (readSome_cons (by omega) (readSome_cons (temp_lt _) (readSome_cons (by omega) (readSome_nil [])))))))
  have hhead (rest : List Byte) : readSome [1, 1, 1] (le 1 r.species ++ (le 1 r.thicknessClass ++ (le 1 r.steps.length ++ rest))) =
      some ([r.species, r.thicknessClass, r.steps.length], rest) :=
    readSome_cons (by omega) (readSome_cons (by omega) (readSome_cons (by omega) (readSome_nil rest)))
  rw [List.append_nil] at htail
  simp only [readSchedule, Schedule.wire, wireList_eq, List.append_assoc, readName_wireName (by decide : 12 < 256) hname, hhead,
    readSteps_wire hsteps]
  simp only [Schedule.steps, htail, signed16_temp (t := r.equaliseDepression) (by omega) (by omega),
    signed16_temp (t := r.conditionDepression) (by omega) (by omega)]
  have hordered' : scheduleOrdered (r.firstStep :: r.laterSteps) r.finalTarget = true :=
    (scheduleOrdered_iff _ _).2 ⟨hordered, htarget⟩
  refine if_pos ?_
  simp only [Bool.and_eq_true, decide_eq_true_eq, within_iff, withinInt_iff]
  exact ⟨⟨⟨⟨⟨⟨⟨⟨⟨hspecies, hclass⟩, hcount⟩, hramp, hramp'⟩, hfinal, hfinal'⟩, heqd, heqd'⟩, Nat.zero_le _, heqt⟩, hcod, hcod'⟩,
    Nat.zero_le _, hcot⟩, hordered'⟩

theorem valid_of_readSchedule {bs : List Byte} {r : Schedule} (h : readSchedule bs = some r) : r.valid := by
  unfold readSchedule at h
  split at h
  · cases h
  case h_2 name _ hname =>
    split at h
    case h_2 => cases h
    split at h
    case h_2 => cases h
    case h_1 first later _ hsteps =>
      split at h
      case h_2 => cases h
      split at h
      case isFalse => cases h
      case isTrue htest =>
        obtain rfl := Option.some.inj h
        simp only [Bool.and_eq_true, decide_eq_true_eq, within_iff, withinInt_iff] at htest
        obtain ⟨⟨⟨⟨⟨⟨⟨⟨⟨hspecies, hclass⟩, hcount⟩, hramp, hramp'⟩, hfinal, hfinal'⟩, heqd, heqd'⟩, -, heqt⟩, hcod, hcod'⟩,
          -, hcot⟩, hordered⟩ := htest
        obtain ⟨hlength, hvalid⟩ := readSteps_eq_some hsteps
        obtain ⟨hpairwise, htarget⟩ := (scheduleOrdered_iff _ _).1 hordered
        exact ⟨nameValid_of_readName hname, hspecies, hclass, hlength.trans_le hcount, hvalid, hramp, hramp', hfinal, hfinal',
          heqd, heqd', heqt, hcod, hcod', hcot, hpairwise, htarget⟩

/-- Settles O3. -/
theorem scheduleRecordRoundTrips : Obligations.ScheduleRecordRoundTrips :=
  ⟨fun _ h => readSchedule_wire h, fun _ _ h => valid_of_readSchedule h⟩

/-! ## Species entries -/

theorem readPoints_wire {points : List CalibrationPoint} (h : ∀ p ∈ points, p.raw ≤ 4095 ∧ p.mc ≤ 400) (rest : List Byte) :
    readPoints points.length ((points.map fun p => le 2 p.raw ++ le 2 p.mc).flatten ++ rest) = some (points, rest) := by
  induction points with
  | nil => rfl
  | cons p points ih =>
    obtain ⟨hraw, hmc⟩ := h p List.mem_cons_self
    have hread (rest : List Byte) : readSome [2, 2] (le 2 p.raw ++ (le 2 p.mc ++ rest)) = some ([p.raw, p.mc], rest) :=
      readSome_cons (by omega) (readSome_cons (by omega) (readSome_nil rest))
    simp only [List.length_cons, List.map_cons, List.flatten_cons, List.append_assoc, readPoints, hread]
    simp [ih fun q hq => h q (List.mem_cons_of_mem _ hq)]

theorem readPoints_length {n : Nat} {bs rest : List Byte} {points : List CalibrationPoint}
    (h : readPoints n bs = some (points, rest)) : points.length = n := by
  induction n generalizing bs points with
  | zero =>
    obtain ⟨rfl, -⟩ : points = [] ∧ bs = rest := by simpa [readPoints, eq_comm] using h
    rfl
  | succ n ih =>
    unfold readPoints at h
    split at h
    case h_2 => cases h
    case h_1 raw mc bs' _ =>
      obtain ⟨later, hlater, rfl⟩ : ∃ later, readPoints n bs' = some (later, rest) ∧ ⟨raw, mc⟩ :: later = points := by
        simpa using h
      simp [ih hlater]

theorem pointsOrdered_iff (points : List CalibrationPoint) :
    pointsOrdered points = true ↔ points.Pairwise fun a b => a.raw < b.raw ∧ a.mc ≤ b.mc := by
  induction points with
  | nil => simp [pointsOrdered]
  | cons a rest ih =>
    cases rest with
    | nil => simp [pointsOrdered]
    | cons b rest =>
      simp only [pointsOrdered, Bool.and_eq_true, decide_eq_true_eq, ih, List.pairwise_cons, List.mem_cons, forall_eq_or_imp]
      constructor
      · rintro ⟨⟨hraw, hmc⟩, hb, hrest⟩
        exact ⟨⟨⟨hraw, hmc⟩, fun c hc => ⟨hraw.trans (hb c hc).1, hmc.trans (hb c hc).2⟩⟩, hb, hrest⟩
      · rintro ⟨⟨hab, -⟩, hb, hrest⟩
        exact ⟨hab, hb, hrest⟩

theorem readSpecies_wire {e : SpeciesEntry} (h : e.valid) : readSpecies e.wire = some e := by
  obtain ⟨hname, hlow, hhigh, hpoints, hordered, hcoefficient, hdry, hwet, hspot⟩ := h
  have htail : readFields [1, 2, 2, 2] (le 1 e.coefficient ++ (le 2 e.dryLimit ++ (le 2 e.wetLimit ++ (le 2 e.spotLimit ++ [])))) =
      some [e.coefficient, e.dryLimit, e.wetLimit, e.spotLimit] :=
    readFields_of_readSome (readSome_cons (by omega) (readSome_cons (by omega) (readSome_cons (by omega)
      (readSome_cons (by omega) (readSome_nil [])))))
  have hhead (rest : List Byte) : readSome [1] (le 1 (e.firstPoint :: e.laterPoints).length ++ rest) =
      some ([(e.firstPoint :: e.laterPoints).length], rest) :=
    readSome_cons (by omega) (readSome_nil rest)
  rw [List.append_nil] at htail
  simp only [readSpecies, SpeciesEntry.wire, wireList_eq, List.append_assoc, readName_wireName (by decide : 10 < 256) hname, hhead,
    readPoints_wire hpoints, htail]
  have hall : (e.firstPoint :: e.laterPoints).all (fun p => within 0 p.raw 4095 && within 0 p.mc 400) = true := by
    simpa only [List.all_eq_true, Bool.and_eq_true, within_iff, Nat.zero_le, true_and] using hpoints
  refine if_pos ?_
  simp only [Bool.and_eq_true, decide_eq_true_eq, within_iff, hall, (pointsOrdered_iff _).2 hordered, and_true]
  omega

theorem valid_of_readSpecies {bs : List Byte} {e : SpeciesEntry} (h : readSpecies bs = some e) : e.valid := by
  unfold readSpecies at h
  split at h
  · cases h
  case h_2 name _ hname =>
    split at h
    case h_2 => cases h
    split at h
    case h_2 => cases h
    case h_1 first later _ hpoints =>
      split at h
      case h_2 => cases h
      case h_1 hfields =>
        split at h
        case isFalse => cases h
        case isTrue htest =>
          obtain rfl := Option.some.inj h
          simp only [Bool.and_eq_true, decide_eq_true_eq, within_iff, List.all_eq_true, pointsOrdered_iff] at htest
          obtain ⟨⟨⟨⟨⟨⟨⟨hcount, hall⟩, hordered⟩, -⟩, -⟩, hspot⟩, hdry⟩, hwet⟩ := htest
          obtain ⟨v, vs, _, hvs, hcoefficient, -⟩ := readSome_cons_eq_some (readFields_eq_some hfields)
          obtain ⟨rfl, -⟩ := List.cons.inj hvs
          have hlength := readPoints_length hpoints
          exact ⟨nameValid_of_readName hname, hcount.1.trans hlength.ge, hlength.le.trans hcount.2, fun p hp => ⟨(hall p hp).1.2, (hall p hp).2.2⟩, hordered,
            hcoefficient, hdry, hwet, hspot.2⟩

/-- Settles O4. -/
theorem speciesEntryRoundTrips : Obligations.SpeciesEntryRoundTrips :=
  ⟨fun _ h => readSpecies_wire h, fun _ _ h => valid_of_readSpecies h⟩

end Sys2Proof.Proofs.StoredRecords
end

section
/-!
Reports queued on a state change its port alone (R183): what an operation on the line or on the charge table makes of such a state.
-/
namespace Sys2Proof.Proofs.Reporting
open Sys2Proof.Machine Sys2Proof.Proofs.Answers
set_option Elab.async false

variable {s : State} (reports : List Report)

theorem reporting_eq (s : State) : reporting reports s = { s with port := reports.foldl (fun p r => p.queue r) s.port } :=
  queueReports_eq reports s

@[simp] theorem reporting_line (s : State) : (reporting reports s).line = s.line := by rw [reporting_eq]
@[simp] theorem reporting_charges (s : State) : (reporting reports s).charges = s.charges := by rw [reporting_eq]
@[simp] theorem reporting_packs (s : State) : (reporting reports s).packs = s.packs := by rw [reporting_eq]
@[simp] theorem reporting_kilns (s : State) : (reporting reports s).kilns = s.kilns := by rw [reporting_eq]
@[simp] theorem reporting_bus (s : State) : (reporting reports s).bus = s.bus := by rw [reporting_eq]

@[simp] theorem reporting_charge? (s : State) (n : Nat) : (reporting reports s).charge? n = s.charge? n := by
  simp [State.charge?]

theorem reporting_modCharge (n : Nat) (f : ChargeRecord → ChargeRecord) (s : State) :
    (reporting reports s).modCharge n f = reporting reports (s.modCharge n f) := by
  rw [reporting_eq, reporting_eq]
  rfl

theorem reporting_dropCharge (n : Nat) (s : State) : (reporting reports s).dropCharge n = reporting reports (s.dropCharge n) := by
  rw [reporting_eq, reporting_eq]
  rfl

theorem enterLine_reporting (st : LineState) (ret : Option ReturnState) (cause : LineCause) (s : State) :
    enterLine st ret cause (reporting reports s) =
      reporting (reports ++ [(s.lineIn st ret).lineReport cause]) (s.lineIn st ret) := by
  rw [reporting_append, LineStop.enterLine_eq, reporting_eq, reporting_eq]
  rfl

theorem trip_reporting (cause : LineCause) (s : State) : trip cause (reporting reports s) =
    if s.line.state = .tripped then reporting reports s
    else reporting (reports ++ [(s.lineIn .tripped none).lineReport cause]) (s.lineIn .tripped none) := by
  rw [trip, enterLine_reporting, reporting_line]

/-! ## Charge records -/

theorem charge?_number {n : Nat} {c : ChargeRecord} (h : s.charge? n = some c) : c.number = n :=
  (Invariants.holdsRecord_of_charge? h).2

theorem changeCharge_reporting {n : Nat} {c : ChargeRecord} (h : s.charge? n = some c) {f : ChargeRecord → ChargeRecord}
    (hf : ∀ c, (f c).number = c.number) :
    changeCharge n f (reporting reports s) = reporting (reports ++ [(f c).report]) (s.modCharge n f) := by
  rw [changeCharge_of ((reporting_charge? reports s n).trans h) f hf, reporting_modCharge, reporting_append]

theorem charge?_modCharge_ne {m n : Nat} (hmn : m ≠ n) {f : ChargeRecord → ChargeRecord} (hf : ∀ c, (f c).number = c.number)
    (s : State) : (s.modCharge m f).charge? n = s.charge? n := by
  simp only [State.charge?, modCharge_charges, vmap_toList, List.findSome?_map]
  refine congrArg (fun g => List.findSome? g s.charges.records.toList) (funext fun o => ?_)
  cases o with
  | none => rfl
  | some c =>
    by_cases hc : c.number = m
    · have hn : c.number ≠ n := fun h => hmn (hc.symm.trans h)
      simp [hc, hf, hmn]
    · simp [hc]

/-- A record that is dropped is dropped in whatever state it stood. -/
theorem dropCharge_modCharge (n : Nat) {f : ChargeRecord → ChargeRecord} (hf : ∀ c, (f c).number = c.number) (s : State) :
    (s.modCharge n f).dropCharge n = s.dropCharge n := by
  have hrecords : vmap (fun o => o.bind fun c => if c.number = n then none else some c)
      (vmap (Option.map fun c => if c.number = n then f c else c) s.charges.records) =
      vmap (fun o => o.bind fun c => if c.number = n then none else some c) s.charges.records := by
    apply Vector.ext
    intro i hi
    simp only [vmap_getElem]
    cases s.charges.records[i] with
    | none => rfl
    | some c => by_cases hc : c.number = n <;> simp [hc, hf]
  simp only [State.dropCharge, State.modCharge, hrecords]

/-- The freeing test of a record that is held (R43). -/
theorem freeTest_reporting {n : Nat} {c : ChargeRecord} (h : s.charge? n = some c) : freeTest n (reporting reports s) =
    if c.freeable then reporting (reports ++ [c.freedReport]) (s.dropCharge n) else reporting reports s := by
  rw [freeTest, reporting_charge?, h, reporting_dropCharge, reporting_append]

end Sys2Proof.Proofs.Reporting
end

section
/-!
The requests of the charge table (sections 3.2 to 3.4, 7.4): creation in its stages, closing and freeing, and the feed charge.
-/
namespace Sys2Proof.Proofs.Charges
open Sys2Proof.Machine Sys2Proof.Proofs.Answers Sys2Proof.Proofs.Reporting
set_option Elab.async false

variable {s : State} {r : NewCharge}

/-! ## A free position (R35) -/

theorem lowestFree_isSome {i : Nat} {xs : List (Option ChargeRecord)} (h : none ∈ xs) :
    ∃ p, lowestFree i xs = some p ∧ p < i + xs.length := by
  induction xs generalizing i with
  | nil => cases h
  | cons o xs ih =>
    cases o with
    | none => exact ⟨i, rfl, by simp⟩
    | some c =>
      obtain ⟨p, hp, hlt⟩ := ih (i := i + 1) (by simpa using h)
      exact ⟨p, hp, by simp only [List.length_cons]; omega⟩

theorem freePosition_isSome {pos : Fin 12} (h : s.charges.records[pos] = none) : ∃ p, s.freePosition = some p := by
  have hmem : none ∈ s.charges.records.toList := by
    rw [Vector.mem_toList_iff, Vector.mem_iff_getElem]
    exact ⟨pos.val, pos.isLt, h⟩
  obtain ⟨p, hp, hlt⟩ := lowestFree_isSome (i := 0) hmem
  have hlt' : p < 12 := by simpa using hlt
  exact ⟨⟨p, hlt'⟩, by simp [State.freePosition, hp, fin?, hlt']⟩

theorem freePosition_eq_none (h : ∀ pos : Fin 12, s.charges.records[pos].isSome = true) : s.freePosition = none := by
  cases hp : s.freePosition with
  | none => rfl
  | some pos => simpa [Invariants.freePosition_free hp] using h pos

/-! ## The stages of a creation (R36) -/

theorem inForce_isNone_iff {p : SpeciesPlace} (h : ∀ f, p ≠ .writing f) : p.inForce.isNone = true ↔ p = .absent ∨ p = .invalid := by
  cases p <;> simp_all [SpeciesPlace.inForce]

theorem claimExceeds_iff : claimExceeds r s = true ↔ ∃ p, r.redryPart = some p ∧ s.charges.tally[p.species] < p.count := by
  unfold claimExceeds
  cases r.redryPart <;> simp

/-- A place of the store that is being written: stage 3. -/
theorem checkCreate_writing {pos : Fin 12} (hpos : s.freePosition = some pos)
    (h : s.store.slots[r.slot] = .writing ∨ ∃ n ∈ r.speciesNamed, ∃ f, s.store.species[n] = .writing f) :
    checkCreate r s = .error .busy := by
  have hbusy : s.store.slots[r.slot] = .writing ∨ (r.speciesNamed.any fun n => s.store.species[n].isWriting) = true := by
    simpa only [List.any_eq_true, SettingsStore.isWriting_iff] using h
  simp only [checkCreate, hpos]
  exact if_pos hbusy

/-- The stages behind the third. -/
theorem checkCreate_of_free {pos : Fin 12} (hpos : s.freePosition = some pos) (hslot : s.store.slots[r.slot] ≠ .writing)
    (hspecies : ∀ n ∈ r.speciesNamed, ∀ f, s.store.species[n] ≠ .writing f) :
    checkCreate r s = match s.store.slots[r.slot].lend with
      | .error e => .error e
      | .ok sched =>
        if ∃ n ∈ r.speciesNamed, s.store.species[n] = .absent ∨ s.store.species[n] = .invalid then .error .notFound
        else if sched.species ≠ r.species.val then .error .badArg
        else if claimExceeds r s then .error .badArg
        else .ok pos := by
  have hfree : ¬ (s.store.slots[r.slot] = .writing ∨ (r.speciesNamed.any fun n => s.store.species[n].isWriting) = true) := by
    simp only [List.any_eq_true, SettingsStore.isWriting_iff, not_or]
    exact ⟨hslot, fun ⟨n, hn, f, hf⟩ => hspecies n hn f hf⟩
  have hmissing : (r.speciesNamed.any fun n => (s.entryInForce n).isNone) = true ↔
      ∃ n ∈ r.speciesNamed, s.store.species[n] = .absent ∨ s.store.species[n] = .invalid := by
    rw [List.any_eq_true]
    refine exists_congr fun n => and_congr_right fun hn => ?_
    exact inForce_isNone_iff (hspecies n hn)
  simp only [checkCreate, hpos]
  rw [if_neg hfree]
  cases s.store.slots[r.slot].lend with
  | error e => rfl
  | ok sched => simp only [hmissing]

theorem present_ne_writing (h : ∀ n ∈ r.speciesNamed, ∃ e, s.store.species[n] = .present e) :
    ∀ n ∈ r.speciesNamed, ∀ f, s.store.species[n] ≠ .writing f := by
  intro n hn f hf
  obtain ⟨e, he⟩ := h n hn
  cases he.symm.trans hf

theorem not_missing_of_present (h : ∀ n ∈ r.speciesNamed, ∃ e, s.store.species[n] = .present e) :
    ¬ ∃ n ∈ r.speciesNamed, s.store.species[n] = .absent ∨ s.store.species[n] = .invalid := by
  rintro ⟨n, hn, hmissing⟩
  obtain ⟨e, he⟩ := h n hn
  rw [he] at hmissing
  simp at hmissing

theorem actChargeCreate_of_error {payload : List Byte} {e : Status} (hread : readNewCharge payload = some r)
    (h : checkCreate r s = .error e) : actChargeCreate payload s = refuse e s := by
  simp only [actChargeCreate, hread, h]

/-- An accepted creation (R37). -/
theorem createCharge_eq (pos : Fin 12) (s : State) : createCharge r pos s =
    (reporting [(r.record s.drawnCharge s.now).report] { s with
      store := { s.store with nextCharge := nextCharge s.drawnCharge }
      charges := { records := s.charges.records.set pos (some (r.record s.drawnCharge s.now))
                   tally := match r.redryPart with
                     | some p => s.charges.tally.set p.species (s.charges.tally[p.species] - p.count)
                     | none => s.charges.tally } }, 0x00 :: le 2 s.drawnCharge) := by
  unfold createCharge lowerTally
  cases r.redryPart <;> rfl

/-- Settles O7. -/
theorem chargeCreatePlacesTheRecord : Obligations.ChargeCreatePlacesTheRecord := by
  refine ⟨fun s tag payload r pos sched htakes hread hpos hslot hspecies hpresent htally => ?_,
    fun s tag payload refused htakes hrefused => ⟨fun hread => ?_, fun r hread => ⟨fun hall => ?_, fun pos hfree => ?_⟩⟩⟩
  · have hcheck : checkCreate r s = .ok pos := by
      have hexceeds : ¬ claimExceeds r s = true := by
        rw [claimExceeds_iff]
        exact fun ⟨p, hp, hlt⟩ => absurd (htally p hp) (Nat.not_le.2 hlt)
      rw [checkCreate_of_free hpos (by rw [hslot]; simp) (present_ne_writing hpresent), hslot]
      simp only [Slot.lend]
      rw [if_neg (not_missing_of_present hpresent), if_neg (not_not.2 hspecies), if_neg hexceeds]
    have hact : actChargeCreate payload s = createCharge r pos s := by
      simp only [actChargeCreate, hread, hcheck]
    exact exec_eq_after htakes rfl [_] (hact.trans (createCharge_eq pos s))
  · exact (hrefused _).2 (exec_of_refuse htakes rfl (st := .badArg) (by simp only [actChargeCreate, hread]))
  · have hcheck : checkCreate r s = .error .full := by simp only [checkCreate, freePosition_eq_none hall]
    exact (hrefused _).2 (exec_of_refuse htakes rfl (actChargeCreate_of_error hread hcheck))
  · obtain ⟨pos, hpos⟩ := freePosition_isSome hfree
    have hrefuse {e : Status} (h : checkCreate r s = .error e) : refused e.byte :=
      (hrefused _).2 (exec_of_refuse htakes rfl (actChargeCreate_of_error hread h))
    refine ⟨fun hwriting => hrefuse (checkCreate_writing hpos hwriting), fun hslot hspecies => ⟨fun hmissing => ?_,
      fun sched hvalid hpresent hlast => ?_⟩⟩
    · refine hrefuse (e := .notFound) ?_
      rw [checkCreate_of_free hpos hslot hspecies]
      obtain hempty | hinvalid | hmissing := hmissing
      · rw [hempty]; rfl
      · rw [hinvalid]; rfl
      · cases hlend : s.store.slots[r.slot] with
        | writing => exact absurd hlend hslot
        | empty => rfl
        | invalid => rfl
        | valid sched => exact if_pos hmissing
    · refine hrefuse (e := .badArg) ?_
      rw [checkCreate_of_free hpos hslot hspecies, hvalid]
      simp only [Slot.lend]
      rw [if_neg (not_missing_of_present hpresent)]
      by_cases hother : sched.species ≠ r.species.val
      · exact if_pos hother
      · obtain h | h := hlast
        · exact absurd h hother
        · rw [if_neg hother, if_pos (claimExceeds_iff.2 h)]

/-! ## The drawn number (R11) -/

theorem iterate_nextCharge_bounds {n : Nat} (hlow : 1 ≤ n) (hhigh : n ≤ 65535) (k : Nat) :
    1 ≤ nextCharge^[k] n ∧ nextCharge^[k] n ≤ 65535 := by
  induction k with
  | zero => exact ⟨hlow, hhigh⟩
  | succ k ih =>
    rw [Function.iterate_succ_apply', nextCharge]
    split <;> omega

/-- Settles O8. -/
theorem drawnChargeNumberIsTheFirstUnheld : Obligations.DrawnChargeNumberIsTheFirstUnheld := by
  intro s hlow hhigh hfree
  obtain ⟨pos, hpos⟩ := Option.isSome_iff_exists.1 hfree
  obtain ⟨k, hk, hdraw, hunheld, hbefore⟩ := Invariants.drawnCharge_spec (Invariants.freePosition_free hpos)
  obtain ⟨hlow', hhigh'⟩ := iterate_nextCharge_bounds hlow hhigh k
  exact ⟨hunheld, hdraw ▸ hlow', hdraw ▸ hhigh', k, by omega, hdraw, hbefore⟩

/-! ## CHARGE-CLOSE (R42, R43) -/

/-- The close of a record in CREATED or RELEASED, with its freeing test. -/
theorem actChargeClose_eq {n : Nat} (hn : n < 65536) {c : ChargeRecord} (hc : s.charge? n = some c)
    (hstate : c.state = .created ∨ c.state = .released) : actChargeClose (le 2 n) s =
      done (if c.inFlight = 0 ∧ c.packRefs = 0 then
        reporting [({ c with state := .closed } : ChargeRecord).report, ({ c with state := .closed } : ChargeRecord).freedReport]
          (s.dropCharge n)
      else reporting [({ c with state := .closed } : ChargeRecord).report] (s.modCharge n fun c => { c with state := .closed })) := by
  have hclosed := changeCharge_reporting [] hc (f := fun c => { c with state := .closed }) fun _ => rfl
  have hrecord : (s.modCharge n fun c => { c with state := .closed }).charge? n = some { c with state := .closed } := by
    rw [charge?_modCharge]
    · rw [hc]; rfl
    · exact fun _ => rfl
  have hfreed := freeTest_reporting [({ c with state := .closed } : ChargeRecord).report] hrecord
  rw [dropCharge_modCharge n (f := fun c => { c with state := .closed }) fun _ => rfl] at hfreed
  have hact : actChargeClose (le 2 n) s = done (freeTest n (changeCharge n (fun c => { c with state := .closed }) s)) := by
    obtain h | h := hstate <;> simp only [actChargeClose, readCharge_le hn, hc, h]
  rw [hact]
  refine congrArg done (.trans (congrArg (freeTest n) hclosed) (hfreed.trans ?_))
  simp [ChargeRecord.freeable]

/-- Settles O9. -/
theorem chargeCloseClosesAndFrees : Obligations.ChargeCloseClosesAndFrees := by
  refine fun s tag n c htakes hn hc => ⟨fun hstate hheld => ?_, fun hstate hflight hrefs => ?_, fun hcreated hreleased => ?_⟩
  · exact exec_eq_after htakes rfl [_] (by rw [actChargeClose_eq hn hc hstate, if_neg hheld]; rfl)
  · exact exec_eq_after htakes rfl [_, _] (by rw [actChargeClose_eq hn hc hstate, if_pos ⟨hflight, hrefs⟩]; rfl)
  · refine exec_of_refuse htakes rfl (st := .state) ?_
    simp only [actChargeClose, readCharge_le hn, hc]
    cases h : c.state <;> simp_all

/-! ## FEED and FEED-END (R41, R116) -/

theorem unfeed_of_none (h : s.feedCharge = none) : unfeed s = s := by
  simp only [unfeed, h]

theorem unfeed_of_some {f : ChargeRecord} (h : s.feedCharge = some f) (hf : s.charge? f.number = some f) : unfeed s =
    reporting [({ f with state := .released } : ChargeRecord).report]
      (s.modCharge f.number fun c => { c with state := .released }) := by
  simp only [unfeed, h]
  exact changeCharge_reporting [] hf fun _ => rfl

theorem actFeed_of_released {n : Nat} (hn : n < 65536) {c : ChargeRecord} (hc : s.charge? n = some c) (hstate : c.state = .released) :
    actFeed (le 2 n) s = done (feedLine (changeCharge n (fun c => { c with state := .planing }) (unfeed s))) := by
  simp only [actFeed, readCharge_le hn, hc, hstate, if_true]

/-- The feed charge as FEED leaves it, with its reports. -/
theorem fed_eq {n : Nat} {c : ChargeRecord} {u : State} {reports : List Report} (hc : s.charge? n = some c)
    (h : (s.feedCharge = none ∧ u = s.modCharge n (fun c => { c with state := .planing }) ∧
          reports = [({ c with state := .planing } : ChargeRecord).report]) ∨
        (∃ f : ChargeRecord, s.feedCharge = some f ∧ s.charge? f.number = some f ∧ f.number ≠ n ∧
          u = (s.modCharge f.number fun c => { c with state := .released }).modCharge n
            (fun c => { c with state := .planing }) ∧
          reports =
            [({ f with state := .released } : ChargeRecord).report, ({ c with state := .planing } : ChargeRecord).report])) :
    changeCharge n (fun c => { c with state := .planing }) (unfeed s) = reporting reports u := by
  obtain ⟨hfeed, rfl, rfl⟩ | ⟨f, hfeed, hf, hne, rfl, rfl⟩ := h
  · rw [unfeed_of_none hfeed]
    exact changeCharge_reporting [] hc fun _ => rfl
  · rw [unfeed_of_some hfeed hf]
    refine changeCharge_reporting [_] ?_ fun _ => rfl
    rw [charge?_modCharge_ne hne, hc]
    exact fun _ => rfl

theorem fed_line {n : Nat} {c : ChargeRecord} {u : State} {reports : List Report}
    (h : (s.feedCharge = none ∧ u = s.modCharge n (fun c => { c with state := .planing }) ∧
          reports = [({ c with state := .planing } : ChargeRecord).report]) ∨
        (∃ f : ChargeRecord, s.feedCharge = some f ∧ s.charge? f.number = some f ∧ f.number ≠ n ∧
          u = (s.modCharge f.number fun c => { c with state := .released }).modCharge n
            (fun c => { c with state := .planing }) ∧
          reports =
            [({ f with state := .released } : ChargeRecord).report, ({ c with state := .planing } : ChargeRecord).report])) :
    u.line = s.line := by
  obtain ⟨-, rfl, -⟩ | ⟨f, -, -, -, rfl, -⟩ := h <;> rfl

/-- Settles O10. -/
theorem feedChargeMoves : Obligations.FeedChargeMoves := by
  refine fun s tag htakes => ⟨fun n c u reports hn hc hreleased hfed => ?_, fun n hn => ⟨fun hc => ?_, fun c hc hstate => ?_⟩,
    fun f u doneReport hfeed hf hu hdone => ?_, fun hfeed => ?_⟩
  · have hact := actFeed_of_released hn hc hreleased
    rw [fed_eq hc hfed] at hact
    have hline : (reporting reports u).line = s.line := (reporting_line reports u).trans (fed_line hfed)
    refine ⟨fun hrest => ?_, fun hdraining => ?_, fun hblocked hreturn => ?_⟩
    · have hfeedLine : feedLine (reporting reports u) = reporting reports u := by
        unfold feedLine
        rw [hline]
        obtain h | h | h | ⟨h, h'⟩ := hrest
        · simp only [h]
        · simp only [h]
        · simp only [h]
        · simp only [h, h']
      exact exec_eq_after htakes rfl reports (by rw [hact, hfeedLine]; rfl)
    · have hfeedLine : feedLine (reporting reports u) = enterLine .running none .request (reporting reports u) := by
        simp only [feedLine, hline, hdraining]
      exact exec_eq_after htakes rfl _ (by rw [hact, hfeedLine, enterLine_reporting]; rfl)
    · have hfeedLine : feedLine (reporting reports u) = enterLine .blocked (some .running) .request (reporting reports u) := by
        simp only [feedLine, hline, hblocked, hreturn]
      exact exec_eq_after htakes rfl _ (by rw [hact, hfeedLine, enterLine_reporting]; rfl)
  · exact exec_of_refuse htakes rfl (st := .notFound) (by simp only [actFeed, readCharge_le hn, hc])
  · refine exec_of_refuse htakes rfl (st := .state) ?_
    simp only [actFeed, readCharge_le hn, hc]
    exact if_neg hstate
  · have hact : actFeedEnd s = done (feedEndLine (reporting [doneReport] u)) := by
      simp only [actFeedEnd, hfeed]
      rw [unfeed_of_some hfeed hf, ← hu, ← hdone]
    have hline : (reporting [doneReport] u).line = s.line := by rw [reporting_line, hu]; rfl
    have hpacks : u.packs = s.packs := by rw [hu]; rfl
    have hqueue : u.line.queue = s.line.queue := by rw [hu]; rfl
    have hdrain (h : s.line.state = .running) :
        feedEndLine (reporting [doneReport] u) = enterDraining .request (reporting [doneReport] u) := by
      simp only [feedEndLine, hline, h]
    refine ⟨fun hrest => ?_, fun hrunning hleft => ?_, fun hrunning hempty hnone => ?_, fun hblocked hreturn => ?_⟩
    · have hfeedLine : feedEndLine (reporting [doneReport] u) = reporting [doneReport] u := by
        unfold feedEndLine
        rw [hline]
        obtain h | h := hrest <;> simp only [h]
      exact exec_eq_after htakes rfl [_] (by rw [hact, hfeedLine]; rfl)
    · refine exec_eq_after htakes rfl [_, _] (hact.trans ?_)
      rw [hdrain hrunning, enterDraining, enterLine_reporting, drainTest, if_neg]
      · rfl
      · rw [reporting_line, reporting_packs]
        rintro ⟨-, h, h'⟩
        exact hleft.elim (fun hl => hl (hqueue ▸ h)) fun hl => hl (hpacks ▸ h')
    · refine exec_eq_after htakes rfl [_, _, _] (hact.trans ?_)
      rw [hdrain hrunning, enterDraining, enterLine_reporting, drainTest, if_pos, enterLine_reporting]
      · rfl
      · rw [reporting_line, reporting_packs]
        exact ⟨rfl, hqueue.trans hempty, (congrArg PackBuilder.held hpacks).trans hnone⟩
    · have hfeedLine : feedEndLine (reporting [doneReport] u) =
          enterLine .blocked (some .draining) .request (reporting [doneReport] u) := by
        simp only [feedEndLine, hline, hblocked, hreturn]
      exact exec_eq_after htakes rfl [_, _] (by rw [hact, hfeedLine, enterLine_reporting]; rfl)
  · exact exec_of_refuse htakes rfl (st := .state) (by simp only [actFeedEnd, hfeed])

end Sys2Proof.Proofs.Charges
end

section
/-!
Requests that answer or write one table: the queries, the load of a kiln, the level of a terminal, the tables of the fault unit and the
items of the port (sections 3.6, 4.5, 6.4, 10, 11).
-/
namespace Sys2Proof.Proofs.Tables
open Sys2Proof.Machine Sys2Proof.Proofs.Answers Sys2Proof.Proofs.Reporting
set_option Elab.async false

variable {s : State}

/-! ## Queries -/

theorem mem_positioned {i j : Nat} {c : ChargeRecord} {xs : List (Option ChargeRecord)} :
    (j, c) ∈ positioned i xs ↔ i ≤ j ∧ xs[j - i]? = some (some c) := by
  induction xs generalizing i with
  | nil => simp [positioned]
  | cons o xs ih =>
    have htail : (i + 1 ≤ j ∧ xs[j - (i + 1)]? = some (some c)) ↔ i < j ∧ (o :: xs)[j - i]? = some (some c) := by
      refine and_congr_right fun hlt => ?_
      rw [show j - i = j - (i + 1) + 1 by omega, List.getElem?_cons_succ]
    cases o with
    | none =>
      rw [positioned, ih, htail]
      obtain hlt | rfl | hgt := Nat.lt_trichotomy i j
      · simp [hlt, hlt.le]
      · simp
      · simp [hgt.not_ge, hgt.not_gt]
    | some d =>
      rw [positioned, List.mem_cons, ih, htail]
      obtain hlt | rfl | hgt := Nat.lt_trichotomy i j
      · simp [hlt, hlt.le, hlt.ne']
      · simp [eq_comm]
      · simp [hgt.not_ge, hgt.not_gt, hgt.ne]

theorem mem_recordsInUse {j : Nat} {c : ChargeRecord} :
    (j, c) ∈ s.recordsInUse ↔ ∃ pos : Fin 12, pos.val = j ∧ s.charges.records[pos] = some c := by
  rw [State.recordsInUse, mem_positioned]
  simp only [Nat.zero_le, Nat.sub_zero, true_and, Vector.getElem?_toList]
  constructor
  · intro h
    obtain ⟨hj, hc⟩ := Vector.getElem?_eq_some_iff.1 h
    exact ⟨⟨j, hj⟩, rfl, hc⟩
  · rintro ⟨pos, rfl, hc⟩
    exact Vector.getElem?_eq_some_iff.2 ⟨pos.isLt, hc⟩

theorem find?_recordsInUse {n : Nat} {pos : Fin 12} {c : ChargeRecord} (hc : s.charges.records[pos] = some c) (hn : c.number = n)
    (hone : ∀ (p : Fin 12) (d : ChargeRecord), s.charges.records[p] = some d → d.number = n → p = pos) :
    s.recordsInUse.find? (fun x => decide (x.2.number = n)) = some (pos.val, c) := by
  cases hfind : s.recordsInUse.find? (fun x => decide (x.2.number = n)) with
  | none =>
    have hno := List.find?_eq_none.1 hfind (pos.val, c) (mem_recordsInUse.2 ⟨pos, rfl, hc⟩)
    simp [hn] at hno
  | some x =>
    obtain ⟨j, d⟩ := x
    obtain ⟨p, rfl, hd⟩ := mem_recordsInUse.1 (List.mem_of_find?_eq_some hfind)
    have hnumber : d.number = n := by simpa using List.find?_some hfind
    obtain rfl := hone p d hd hnumber
    rw [Option.some.inj (hd.symm.trans hc)]

theorem find?_recordsInUse_eq_none {n : Nat} (h : s.charge? n = none) :
    s.recordsInUse.find? (fun x => decide (x.2.number = n)) = none := by
  refine List.find?_eq_none.2 fun ⟨j, c⟩ hx => ?_
  obtain ⟨pos, rfl, hc⟩ := mem_recordsInUse.1 hx
  have hno := Invariants.charge?_isSome_iff.not.1 (by rw [h]; simp : ¬ (s.charge? n).isSome = true)
  intro hn
  exact hno ⟨c, ⟨pos, hc⟩, by simpa using hn⟩

/-- Settles O12. -/
theorem queriesOnlyReply : Obligations.QueriesOnlyReply := by
  refine ⟨fun s tag p htakes => ?_, fun s tag n htakes hn => ⟨fun pos c hc hnumber hone => ?_, fun hnone => ?_⟩⟩
  · exact ⟨exec_of_replyOnly htakes rfl rfl, exec_of_replyOnly htakes rfl rfl, exec_of_replyOnly htakes rfl rfl,
      exec_of_replyOnly htakes rfl rfl, exec_of_replyOnly htakes rfl rfl, exec_of_replyOnly htakes rfl rfl,
      exec_of_replyOnly htakes rfl rfl, exec_of_replyOnly htakes rfl rfl, exec_of_replyOnly htakes rfl rfl⟩
  · refine exec_of_replyOnly htakes rfl (fields := fun _ => c.wire pos) ?_
    simp only [actChargeQuery, readCharge_le hn, find?_recordsInUse hc hnumber hone]
  · exact exec_of_refuse htakes rfl (st := .notFound) (by simp only [actChargeQuery, readCharge_le hn, find?_recordsInUse_eq_none hnone])

theorem readNumber_eq_none {m n : Nat} (hm : m ≤ n) (hn : n < 256) : readNumber m [byteOf n] = none := by
  simp [readNumber, readFields, readSome, readLE_one _ _ hn, fin?, hm.not_gt]

/-- Settles O13. -/
theorem numberedQueriesOnlyReply : Obligations.NumberedQueriesOnlyReply := by
  refine fun s tag htakes => ⟨fun k => ?_, fun b => ?_, fun d => ?_, fun n hn => ⟨fun h => ?_, fun h => ?_, fun h => ?_⟩⟩
  · refine exec_of_replyOnly htakes rfl (fields := fun s => s.kilns[k].wire) ?_
    simp only [actKilnQuery, readNumber_byteOf (by decide : 6 ≤ 256) k]
  · refine exec_eq_after htakes rfl [] ?_
    simp only [actPackQuery, readNumber_byteOf (by decide : 8 ≤ 256) b, replyOnly, doneWith]
    cases s.packs.bays[b] <;> rfl
  · refine exec_of_replyOnly htakes rfl (fields := logFields d) ?_
    simp only [actFaultQuery, readNumber_byteOf (by decide : 10 ≤ 256) d]
  · exact exec_of_refuse htakes rfl (st := .badArg) (by simp only [actKilnQuery, readNumber_eq_none h hn])
  · exact exec_of_refuse htakes rfl (st := .badArg) (by simp only [actPackQuery, readNumber_eq_none h hn])
  · exact exec_of_refuse htakes rfl (st := .badArg) (by simp only [actFaultQuery, readNumber_eq_none h hn])

/-! ## KILN-LOAD (R38, R56, R84) -/

theorem reportKiln_reporting (reports : List Report) (k : Fin 6) (cause : KilnCause) (s : State) :
    reportKiln k cause (reporting reports s) = reporting (reports ++ [s.kilns[k].report k cause]) s := by
  rw [reporting_append, reporting_eq]
  rfl

theorem loadKiln_eq {k : Fin 6} {n : Nat} {c : ChargeRecord} (hc : s.charge? n = some c) :
    loadKiln k n s = reporting
      [({ c with state := .inKiln, kiln := some k } : ChargeRecord).report,
        ({ s.kilns[k] with state := .loaded, charge := some n } : Kiln).report k .request]
      (({ s with
          kilns := s.kilns.set k { s.kilns[k] with state := .loaded, charge := some n }
          bus := s.bus.setLink k { s.bus.links[k] with mark := (s.bus.links[k].mark + 1) % 256 } } : State).modCharge n
        fun c => { c with state := .inKiln, kiln := some k }) := by
  have hcharge := changeCharge_reporting (s := bumpMark k (s.modKiln k fun c => { c with state := .loaded, charge := some n })) []
    (f := fun c => { c with state := .inKiln, kiln := some k }) hc fun _ => rfl
  have hkiln : (((bumpMark k (s.modKiln k fun c => { c with state := .loaded, charge := some n })).modCharge n
      fun c => { c with state := .inKiln, kiln := some k }).kilns[k]) = { s.kilns[k] with state := .loaded, charge := some n } :=
    Vector.getElem_set_self k.isLt
  refine (congrArg (reportKiln k .request) hcharge).trans ((reportKiln_reporting _ k .request _).trans ?_)
  rw [hkiln]
  rfl

/-- Settles O15. -/
theorem kilnLoadTakesTheCharge : Obligations.KilnLoadTakesTheCharge := by
  refine fun s tag payload k n htakes hread => ⟨fun hnone => ?_, fun c hc => ⟨fun hother => ?_, fun hcreated hidle => ?_⟩⟩
  · exact exec_of_refuse htakes rfl (st := .notFound) (by simp only [actKilnLoad, hread, hnone])
  · refine exec_of_refuse htakes rfl (st := .state) ?_
    simp only [actKilnLoad, hread, hc]
    by_cases hcreated : c.state = .created
    · rw [if_neg (not_not.2 hcreated), if_pos (hother.resolve_left (not_not.2 hcreated))]
    · exact if_pos hcreated
  · refine exec_eq_after htakes rfl [_, _] ?_
    simp only [actKilnLoad, hread, hc]
    rw [if_neg (not_not.2 hcreated), if_neg (not_not.2 hidle), loadKiln_eq hc]
    rfl

/-! ## TERMINAL-SET (R99, R102) -/

/-- Settles O30. -/
theorem terminalSetStoresTheLevel : Obligations.TerminalSetStoresTheLevel := by
  refine fun s tag payload t level htakes hread => ⟨fun hout => ?_, fun hin => ?_, fun hline => ?_⟩
  · refine exec_of_done htakes rfl ?_
    simp only [actTerminalSet, hread, hout]
    rw [State.modTerminal, vmod]
    simp only [Terminal.driven, hout]
  · refine exec_of_done htakes rfl ?_
    simp only [actTerminalSet, hread, hin]
    rw [State.modTerminal, vmod]
    simp only [hin]
  · refine exec_of_refuse htakes rfl (st := .assigned) ?_
    simp only [actTerminalSet, hread]
    cases hfn : s.terminals[t].fn with
    | generalIn | generalOut =>
      rw [hfn] at hline
      cases hline
    | infeedEye | outfeedEye | encoder | meterFault | meterIn | tempIn | redryGate | rejectGate | lineStop => rfl

/-! ## The decision order (R30, R31) -/

/-- Settles O36. -/
theorem decisionOrder : Obligations.DecisionOrder := by
  refine fun c length entry figures => ⟨fun hshort => if_pos hshort, fun hlong => ⟨fun habsent => ?_, fun e m he hm => ?_⟩⟩
  · unfold decideBoard
    rw [if_neg hlong.not_gt]
    obtain rfl | h := habsent
    · rfl
    · cases entry with
      | none => rfl
      | some e => simp only [h]
  · have hdecide : decideBoard c length entry figures =
        if e.wetLimit < m.mean ∨ e.spotLimit < m.max then .redry
        else if m.mean < e.dryLimit then .reject .overdry
        else .accept (lengthClass c length) := by
      subst he
      unfold decideBoard
      rw [if_neg hlong.not_gt]
      simp only [hm]
    rw [hdecide]
    refine ⟨fun hwet => if_pos hwet, fun hmean hmax => ?_⟩
    rw [if_neg (by omega : ¬ (e.wetLimit < m.mean ∨ e.spotLimit < m.max))]
    refine ⟨fun hdry => if_pos hdry, fun hdry => ?_⟩
    rw [if_neg hdry.not_gt, lengthClass]
    refine ⟨fun h1 => ?_, fun h1 h2 => ?_, fun h1 h2 h3 => ?_, fun h1 h2 h3 => ?_⟩
    · rw [if_pos h1]
    · rw [if_neg h1.not_gt, if_pos h2]
    · rw [if_neg h1.not_gt, if_neg h2.not_gt, if_pos h3]
    · rw [if_neg h1.not_gt, if_neg h2.not_gt, if_neg h3.not_gt]

/-! ## Fault requests (R160, R161, R170, R171) -/

/-- Settles O45. -/
theorem faultRequestsWriteTheirTables : Obligations.FaultRequestsWriteTheirTables := by
  refine fun s tag payload htakes => ⟨fun k cfg hread => ⟨fun hfree => ?_, fun hfixed => ?_⟩, fun hread => ?_, fun v a hread => ?_,
    fun d => ⟨?_, ?_⟩⟩
  · refine exec_of_done htakes rfl ?_
    simp only [actFaultConfig, hread, hfree]
    rfl
  · by_cases hcfg : cfg = ⟨.critical, false, true⟩
    · rw [if_pos hcfg]
      refine exec_of_done htakes rfl ?_
      simp only [actFaultConfig, hread, hfixed]
      exact if_pos hcfg
    · rw [if_neg hcfg]
      refine exec_of_refuse htakes rfl (st := .locked) ?_
      simp only [actFaultConfig, hread, hfixed]
      exact if_neg hcfg
  · exact exec_of_refuse htakes rfl (st := .badArg) (by simp only [actFaultConfig, hread])
  · refine exec_of_done htakes rfl ?_
    simp only [actFaultActions, hread]
    rfl
  · refine exec_of_done htakes rfl ?_
    simp only [actFaultLogClear, readNumber_byteOf (by decide : 10 ≤ 256) d]
    rfl
  · refine exec_of_done htakes rfl ?_
    simp only [actFaultCountClear, readNumber_byteOf (by decide : 10 ≤ 256) d]
    rfl

/-! ## Requests of the port (R186, R191, R192, R194) -/

theorem readClock_le {n : Nat} (hn : n < 4294967296) : readClock (le 4 n) = some n := by
  have hle := readLE_le 4 n [] hn
  rw [List.append_nil] at hle
  simp [readClock, readFields, readSome, hle]

/-- Settles O52. -/
theorem portRequestsWriteTheirItems : Obligations.PortRequestsWriteTheirItems := by
  refine fun s tag payload put htakes hput => ⟨fun r kinds hread hkinds => ?_, fun hread => ?_, fun n hn => ?_, ?_, ?_⟩
  · rw [hput]
    refine exec_eq_after htakes rfl [] ?_
    simp only [actSubscribe, hread, hkinds]
    rfl
  · exact exec_of_refuse htakes rfl (st := .badArg) (by simp only [actSubscribe, hread])
  · rw [hput]
    refine exec_of_done htakes rfl ?_
    simp only [actSetClock, readClock_le hn]
    rfl
  · rw [hput]
    exact exec_of_done htakes rfl rfl
  · rw [hput]
    exact exec_of_done htakes rfl rfl

/-! ## Reset -/

/-- Settles O60. -/
theorem resetMeetsTheInvariants : Obligations.ResetMeetsTheInvariants := by
  refine ⟨⟨Nat.zero_le _, Nat.zero_le _, Nat.zero_le _⟩, rfl, Invariants.coldFaults_sound, fun k => ?_, ⟨List.nodup_nil, fun _ => rfl⟩,
    ⟨rfl, by simp [State.reset, coldLine]⟩, Invariants.outputsFollow_iff.2 fun n => ?_, ⟨Nat.zero_le _, Nat.zero_le _, Nat.zero_le _⟩,
    fun b p hp => ?_, ⟨fun h => ?_, fun h => ?_⟩, (Invariants.boardsKept_of_empty rfl rfl rfl).1⟩
  · have hkiln : State.reset.kilns[k] = coldKiln k := Invariants.coldKilns_getElem k
    rw [hkiln]
    refine ⟨Invariants.coldKiln_sound k, ?_⟩
    simp [State.reset, coldBus, startedLink, coldKiln, KilnState.scanning, KilnState.running, KilnState.phase?, KilnState.held]
  · have hterminal : State.reset.terminals[n] = coldTerminal ((0 : BitVec 16).getLsbD n) := Invariants.coldTerminals_getElem 0 n
    rw [hterminal]
    exact Invariants.coldTerminal_pinFollows _ _
  · simp [State.reset, coldPacks] at hp
  · simp [State.reset, resetPort, coldPort] at h
  · simp [State.reset, resetPort, coldPort, Port.latchHolds] at h

end Sys2Proof.Proofs.Tables
end

section
/-!
Kiln events in the form of the statements: what queued reports leave alone, a climate poll that falls due and is served (R75, R87, R88),
figures formed anew without a loss (R23, R59) and a cause that changes a kiln (R71).
-/
namespace Sys2Proof.Proofs.KilnEvents
open Sys2Proof.Machine Sys2Proof.Proofs.Answers Sys2Proof.Proofs.Reporting
set_option Elab.async false

variable {s : State} {k : Fin 6} (reports : List Report)

/-! ## Queued reports -/

theorem reporting_modKiln (k : Fin 6) (f : Kiln → Kiln) (s : State) :
    (reporting reports s).modKiln k f = reporting reports (s.modKiln k f) := by
  rw [reporting_eq, reporting_eq]
  rfl

theorem reporting_modLink (k : Fin 6) (f : KilnLink → KilnLink) (s : State) :
    (reporting reports s).modLink k f = reporting reports (s.modLink k f) := by
  rw [reporting_eq, reporting_eq]
  rfl

theorem pollDue_eq (k : Fin 6) (kind : PollKind) (s : State) : pollDue k kind s = { s with bus := s.bus.joined k kind } := by
  unfold pollDue Bus.joined
  split <;> rfl

theorem pollDue_reporting (k : Fin 6) (kind : PollKind) (s : State) :
    pollDue k kind (reporting reports s) = reporting reports (pollDue k kind s) := by
  rw [pollDue_eq, pollDue_eq, reporting_eq, reporting_eq]

theorem serve_reporting (h : climateFirst s) : serve (reporting reports s) = reporting reports (serve s) := by
  induction reports generalizing s with
  | nil => rfl
  | cons r reports ih => exact (ih (s := queueReport r s) h).trans (congrArg (reporting reports) (serve_queueReport h r))

/-! ## Polls that fall due and are served -/

theorem joined_of_settled {b : Bus} (h : b.settled) (hcurrent : b.current = none) (k : Fin 6) (kind : PollKind) :
    b.joined k kind = { b with pendingPolls := [⟨k, kind, b.links[k].mark⟩] } := by
  simp [Bus.joined, h hcurrent]

theorem climateFirst_pollDue (h : s.bus.settled) : climateFirst (pollDue k .climate s) :=
  climateFirst_of_adds h (pollDue_addsClimatePolls k s)

theorem serve_climate (h : s.bus.settled) (k : Fin 6) :
    serve (pollDue k .climate s) = { s with bus := s.bus.climateJoined k s.kilns[k] } := by
  rw [pollDue_eq]
  cases hcurrent : s.bus.current with
  | none =>
    rw [joined_of_settled h hcurrent]
    refine (serve_of_climate (s := { s with bus := { s.bus with pendingPolls := [⟨k, .climate, s.bus.links[k].mark⟩] } }) (e := ⟨k, .climate, s.bus.links[k].mark⟩) (rest := []) hcurrent rfl rfl).trans ?_
    simp only [Bus.climateJoined, hcurrent, begun, h hcurrent]
  | some p =>
    rw [serve_of_current (by simp [Bus.joined]; split <;> simp [hcurrent])]
    simp only [Bus.climateJoined, hcurrent]

/-- A climate poll that falls due behind reports, and the service of the list. -/
theorem serve_climate_reporting (h : s.bus.settled) (k : Fin 6) :
    serve (pollDue k .climate (reporting reports s)) =
      reporting reports { s with bus := s.bus.climateJoined k s.kilns[k] } := by
  rw [pollDue_reporting, serve_reporting reports (climateFirst_pollDue h), serve_climate h]

theorem serve_reporting_of_settled (h : s.bus.settled) : serve (reporting reports s) = reporting reports s :=
  serve_of_settled (by rw [reporting_bus]; exact h)

/-! ## Kilns and their charges -/

theorem modKiln_modKiln (k : Fin 6) (f g : Kiln → Kiln) (s : State) : (s.modKiln k f).modKiln k g = s.modKiln k (g ∘ f) := by
  simp only [State.modKiln, vmod, Fin.getElem_fin, Vector.getElem_set_self, Vector.set_set, Function.comp]

theorem kilns_modKiln (k : Fin 6) (f : Kiln → Kiln) (s : State) : (s.modKiln k f).kilns[k] = f s.kilns[k] :=
  Vector.getElem_set_self k.isLt

theorem kilns_set (k : Fin 6) (c : Kiln) (s : State) : ({ s with kilns := s.kilns.set k c } : State).kilns[k] = c :=
  Vector.getElem_set_self k.isLt

/-- A kiln replaced, with its climate poll due behind reports, and the service of the list. -/
theorem serve_climate_set (h : s.bus.settled) (k : Fin 6) (c : Kiln) :
    serve (pollDue k .climate (reporting reports { s with kilns := s.kilns.set k c })) =
      reporting reports { s with kilns := s.kilns.set k c, bus := s.bus.climateJoined k c } := by
  refine (serve_climate_reporting (s := { s with kilns := s.kilns.set k c }) reports h k).trans ?_
  rw [kilns_set]

theorem changeHeld_reporting {n : Nat} {c : ChargeRecord} (hk : s.kilns[k].charge = some n) (hc : s.charge? n = some c)
    {f : ChargeRecord → ChargeRecord} (hf : ∀ c, (f c).number = c.number) :
    changeHeld k f (reporting reports s) = reporting (reports ++ [(f c).report]) (s.modCharge n f) := by
  have hk' : (reporting reports s).kilns[k].charge = some n := by rw [reporting_kilns]; exact hk
  simp only [changeHeld, hk']
  exact changeCharge_reporting reports hc hf

theorem reportKiln_eq (k : Fin 6) (cause : KilnCause) (s : State) : reportKiln k cause s = reporting [s.kilns[k].report k cause] s :=
  rfl

theorem reportSamples_eq (k : Fin 6) (s : State) : reportSamples k s = reporting [s.kilns[k].sampleReport k] s := rfl

/-- Figures formed anew where no loss of samples is raised (R23, R59). -/
theorem formFigures_of_notLost (h : s.kilns[k].notLost) : formFigures k s =
    reporting [s.kilns[k].formed.sampleReport k] { s with kilns := s.kilns.set k s.kilns[k].formed } := by
  have hlost : testSamplesLost k (s.modKiln k fun c => { c with figures := kilnFigures (activeMCs c.samples) }) =
      { s with kilns := s.kilns.set k s.kilns[k].formed } := by
    unfold testSamplesLost
    simp only [kilns_modKiln]
    cases hformed : (kilnFigures (activeMCs s.kilns[k].samples)).controlling.isSome with
    | true =>
      rw [if_pos rfl, modKiln_modKiln]
      simp only [State.modKiln, vmod, Function.comp, Kiln.formed, hformed, if_true]
    | false =>
      have hkeeps : (s.kilns[k].state.loses && !s.kilns[k].samplesLost) = false := by
        obtain hsome | hloses | hlost := h
        · rw [hformed] at hsome
          cases hsome
        · rw [hloses, Bool.false_and]
        · rw [hlost, Bool.not_true, Bool.and_false]
      rw [if_neg (by decide), if_neg (by rw [hkeeps]; decide)]
      simp only [State.modKiln, vmod, Kiln.formed, hformed]
      rfl
  rw [formFigures, hlost, reportSamples_eq, kilns_set]

/-- The state that a hold or park puts a running kiln into (R71). -/
def stopped : HoldKind → KilnState
  | .hold => .hold
  | .park => .park

theorem caused_of_phase (kind : HoldKind) (level : Nat) {c : Kiln} {ph : Phase} (h : c.state = ph.state) :
    c.caused kind level = { c with state := stopped kind, resume := some ph, level := level } := by
  cases kind <;> cases ph <;> simp [Kiln.caused, h, Phase.state, KilnState.phase?, stopped]

/-- A cause that changes the state of a kiln (R71, R75). -/
theorem applyCause_of_changed {kind : HoldKind} {level : Nat} (cause : KilnCause) {new : Kiln} (hnew : s.kilns[k].caused kind level = new)
    (hstate : new.state ≠ s.kilns[k].state) :
    applyCause k kind level cause (reporting reports s) =
      pollDue k .climate (reporting (reports ++ [new.report k cause]) { s with kilns := s.kilns.set k new }) := by
  have hset : (reporting reports s).modKiln k (fun _ => new) = reporting reports { s with kilns := s.kilns.set k new } :=
    reporting_modKiln reports k _ s
  unfold applyCause
  simp only [reporting_kilns, hnew]
  rw [if_neg fun h => hstate h.1, if_neg hstate, hset, Tables.reportKiln_reporting, kilns_set]

/-- A cause that changes neither state nor level (R71). -/
theorem applyCause_of_same {kind : HoldKind} {level : Nat} (cause : KilnCause) (h : s.kilns[k].caused kind level = s.kilns[k]) :
    applyCause k kind level cause s = s := by
  unfold applyCause
  simp only [h, true_and, if_true]

end Sys2Proof.Proofs.KilnEvents
end

section
/-!
The requests of the kiln unit (sections 4.3, 4.5 to 4.10): configuration, samples, start, advance, hold, park, resume and unload.
-/
namespace Sys2Proof.Proofs.KilnRequests
open Sys2Proof.Machine Sys2Proof.Proofs.Answers Sys2Proof.Proofs.Reporting Sys2Proof.Proofs.KilnEvents
set_option Elab.async false

variable {s : State} {k : Fin 6}

/-! ## KILN-CONFIG (R55, R85, R86, R95) -/

theorem addressHeld_iff {address : Nat} : s.addressHeld k address = true ↔ ∃ j, j ≠ k ∧ s.kilns[j].config.address = address := by
  simp [State.addressHeld, Invariants.mem_allKilns]

theorem configureKiln_of_same {cfg : KilnConfig} (h : cfg.address = s.kilns[k].config.address) : configureKiln k cfg s =
    { s with
      kilns := s.kilns.set k { s.kilns[k] with config := cfg }
      bus := s.bus.setLink k
        { s.bus.links[k] with climateTimer := 0, scanTimer := s.bus.links[k].scanTimer.map fun _ => 0 } } := by
  have hmoved : decide (s.kilns[k].config.address ≠ cfg.address) = false := by simp [h]
  unfold configureKiln
  rw [hmoved]
  rfl

theorem configureKiln_of_moved {cfg : KilnConfig} (h : cfg.address ≠ s.kilns[k].config.address) : configureKiln k cfg s =
    { s with
      kilns := s.kilns.set k { s.kilns[k] with config := cfg, measured := none }
      bus := s.bus.setLink k
        { s.bus.links[k] with
          climateTimer := 0, scanTimer := s.bus.links[k].scanTimer.map fun _ => 0, link := .unknown, failures := 0 } } := by
  have hmoved : decide (s.kilns[k].config.address ≠ cfg.address) = true := decide_eq_true h.symm
  unfold configureKiln
  rw [hmoved]
  rfl

/-- Settles O14. -/
theorem kilnConfigApplies : Obligations.KilnConfigApplies := by
  refine fun s tag payload k cfg htakes hread => ⟨fun j hj haddress => ?_, fun hfree => ⟨fun hmoved hbusy => ?_, fun hsame => ?_,
    fun hmoved hidle => ?_⟩⟩
  · refine exec_of_refuse htakes rfl (st := .inUse) ?_
    simp only [actKilnConfig, hread]
    exact if_pos (addressHeld_iff.2 ⟨j, hj, haddress⟩)
  all_goals
    have hheld : ¬ s.addressHeld k cfg.address = true := fun h => by
      obtain ⟨j, hj, haddress⟩ := addressHeld_iff.1 h
      exact hfree j hj haddress
  · refine exec_of_refuse htakes rfl (st := .state) ?_
    simp only [actKilnConfig, hread]
    rw [if_neg hheld, if_pos ⟨hmoved, hbusy⟩]
  · refine exec_of_done htakes rfl ?_
    simp only [actKilnConfig, hread]
    rw [if_neg hheld, if_neg fun h => h.1 hsame, configureKiln_of_same hsame]
  · refine exec_of_done htakes rfl ?_
    simp only [actKilnConfig, hread]
    rw [if_neg hheld, if_neg fun h => h.2 hidle, configureKiln_of_moved hmoved]

/-! ## Samples (R57, R58) -/

theorem setSample_kilns {p : Fin 8} {o : Option Sample} {c : Kiln}
    (hc : c = { s.kilns[k] with samples := s.kilns[k].samples.set p o }) : s.setSample k p o = { s with kilns := s.kilns.set k c } := by
  rw [hc]
  rfl

/-- Figures formed behind a sample record, and the service of the list. -/
theorem serve_formFigures_set (hs : s.bus.settled) {c : Kiln} (hc : c.notLost) :
    serve (formFigures k { s with kilns := s.kilns.set k c }) =
      reporting [c.formed.sampleReport k] { s with kilns := s.kilns.set k c.formed } := by
  have hkiln := kilns_set k c s
  have hform := formFigures_of_notLost (s := { s with kilns := s.kilns.set k c }) (k := k) (by rw [hkiln]; exact hc)
  rw [hkiln] at hform
  simp only [Vector.set_set] at hform
  rw [hform]
  exact serve_reporting_of_settled _ hs

theorem odWeight_eq (r : NewSample) :
    odWeight r.greenWeight r.greenMC = (r.greenWeight * 1000 + (1000 + r.greenMC) / 2) / (1000 + r.greenMC) := rfl

/-- Settles O16. -/
theorem sampleDefineRecords : Obligations.SampleDefineRecords := by
  refine fun s tag payload r new c htakes hs hread hnew hc => ⟨fun hstate => ?_, fun hidle hdone => ?_⟩
  · refine exec_of_refuse htakes rfl (st := .state) ?_
    simp only [actSampleDefine, hread]
    obtain h | h := hstate <;> rw [h]
  · have hrecord : r.record = new := hnew.symm
    have hact : actSampleDefine payload s = doneWith (le 2 new.odWeight)
        (serve (if s.kilns[r.kiln].samples[r.position].isSome then formFigures r.kiln { s with kilns := s.kilns.set r.kiln c }
          else { s with kilns := s.kilns.set r.kiln c })) := by
      simp only [actSampleDefine, hread, hrecord, setSample_kilns hc]
      cases hstate : s.kilns[r.kiln].state with
      | idle => exact absurd hstate hidle
      | done => exact absurd hstate hdone
      | loaded | run | equalise | condition | hold | park => rfl
    refine ⟨fun hempty => exec_eq_after htakes rfl [] ?_, fun hheld hkept => exec_eq_after htakes rfl [_] ?_⟩
    · rw [hact, hempty, if_neg (by simp)]
      exact congrArg (doneWith _) (serve_of_settled hs)
    · rw [hact, if_pos (Option.isSome_iff_ne_none.2 hheld), serve_formFigures_set hs hkept]
      rfl

/-- A request that leaves the record of the sample as it is. -/
theorem changeSample_of_error {answer : Sample → Except Status Sample} {payload : List Byte} {p : Fin 8} {old : Sample} {st : Status}
    (hread : readPosition payload = some (k, p)) (hstate : s.kilns[k].state ≠ .idle) (hold : s.kilns[k].samples[p] = some old)
    (hanswer : answer old = .error st) : changeSample answer payload s = refuse st s := by
  simp only [changeSample, hread]
  rw [if_neg hstate]
  simp only [hold, hanswer]

/-- A request that changes the record of the sample. -/
theorem changeSample_of_ok {answer : Sample → Except Status Sample} {payload : List Byte} {p : Fin 8} {old new : Sample} {c : Kiln}
    (hs : s.bus.settled) (hread : readPosition payload = some (k, p)) (hstate : s.kilns[k].state ≠ .idle)
    (hold : s.kilns[k].samples[p] = some old) (hanswer : answer old = .ok new)
    (hc : c = { s.kilns[k] with samples := s.kilns[k].samples.set p (some new) }) (hkept : c.notLost) :
    changeSample answer payload s = (reporting [c.formed.sampleReport k] { s with kilns := s.kilns.set k c.formed }, [0x00]) := by
  simp only [changeSample, hread]
  rw [if_neg hstate]
  simp only [hold, hanswer]
  exact congrArg done ((congrArg (fun t => serve (formFigures k t)) (setSample_kilns hc)).trans (serve_formFigures_set hs hkept))

/-- Settles O17. -/
theorem sampleExcludeAndInclude : Obligations.SampleExcludeAndInclude := by
  refine fun s tag payload k p htakes hs hread => ⟨fun hidle => ?_, fun hstate => ⟨fun hempty => ?_, fun old c hold hc =>
    ⟨fun hstanding => ?_, fun hstanding => ?_, fun hstanding => ?_⟩⟩⟩
  · have hrefuse (answer : Sample → Except Status Sample) : changeSample answer payload s = refuse .state s := by
      simp only [changeSample, hread]
      exact if_pos hidle
    exact ⟨exec_of_refuse htakes rfl (hrefuse _), exec_of_refuse htakes rfl (hrefuse _)⟩
  · have hrefuse (answer : Sample → Except Status Sample) : changeSample answer payload s = refuse .notFound s := by
      simp only [changeSample, hread]
      rw [if_neg hstate]
      simp only [hempty]
    exact ⟨exec_of_refuse htakes rfl (hrefuse _), exec_of_refuse htakes rfl (hrefuse _)⟩
  · refine ⟨exec_of_refuse htakes rfl (changeSample_of_error (answer := Sample.include) (st := .ok) hread hstate hold ?_), fun hkept =>
      exec_eq_after htakes rfl [_] (changeSample_of_ok (answer := Sample.exclude) hs hread hstate hold ?_ (hc _) hkept)⟩
    · simp only [Sample.include, hstanding]
    · simp only [Sample.exclude, hstanding]
  · refine ⟨exec_of_refuse htakes rfl (changeSample_of_error (answer := Sample.exclude) (st := .ok) hread hstate hold ?_), fun hkept =>
      exec_eq_after htakes rfl [_] (changeSample_of_ok (answer := Sample.include) hs hread hstate hold ?_ (hc _) hkept)⟩
    · simp only [Sample.exclude, hstanding]
    · simp only [Sample.include, hstanding]
  · refine ⟨exec_of_refuse htakes rfl (changeSample_of_error (answer := Sample.exclude) (st := .state) hread hstate hold ?_), fun hkept =>
      exec_eq_after htakes rfl [_] (changeSample_of_ok (answer := Sample.include) hs hread hstate hold ?_ (hc _) hkept)⟩
    · simp only [Sample.exclude, hstanding]
    · simp only [Sample.include, hstanding]

/-! ## KILN-ADVANCE (R65 to R67) -/

/-- The KILN-STEP report of a kiln context (R65). -/
def stepReport (k : Fin 6) (step : Option Nat) (cause : StepCause) (c : Kiln) : Report :=
  .kilnStep k c.charge step cause c.figures.controlling ((c.drying.map (·.totalElapsed)).getD 0)

theorem reportStep_eq (step : Option Nat) (cause : StepCause) (s : State) :
    reportStep k step cause s = reporting [stepReport k step cause s.kilns[k]] s := rfl

theorem advanceStep_of_next {d d' : DryingRun} {st : ScheduleStep} (cause : StepCause) (hd : s.kilns[k].drying = some d)
    (hst : d.schedule.steps[d.stepIndex + 1]? = some st) (hd' : d' = { d with
      stepIndex := d.stepIndex + 1, stepElapsed := 0, overtimeReported := false, stepTarget := st.target
      depression := st.depression }) :
    advanceStep k cause s =
      reporting [.kilnStep k s.kilns[k].charge (some (d.stepIndex + 1)) cause s.kilns[k].figures.controlling d.totalElapsed]
        { s with kilns := s.kilns.set k { s.kilns[k] with drying := some d' } } := by
  have hmod : s.modDrying k (DryingRun.advanced st) = { s with kilns := s.kilns.set k { s.kilns[k] with drying := some d' } } := by
    simp only [State.modDrying, State.modKiln, vmod, hd, hd', Option.map_some, DryingRun.advanced]
  simp only [advanceStep, hd, hst]
  rw [hmod, reportStep_eq, kilns_set, hd']
  rfl

theorem advanceStep_of_last {d : DryingRun} {new : Kiln} (cause : StepCause) (hd : s.kilns[k].drying = some d)
    (hst : d.schedule.steps[d.stepIndex + 1]? = none) (hnew : new = { s.kilns[k] with
      state := .equalise, drying := some { d with stepElapsed := 0, depression := d.schedule.equaliseDepression } }) :
    advanceStep k cause s =
      reporting [.kilnStep k s.kilns[k].charge none cause s.kilns[k].figures.controlling d.totalElapsed, new.report k .schedule]
        { s with kilns := s.kilns.set k new } := by
  have hmod : s.modKiln k (fun c => { c with state := .equalise, drying := c.drying.map DryingRun.equalised }) =
      { s with kilns := s.kilns.set k new } := by
    simp only [State.modKiln, vmod, hd, hnew, Option.map_some, DryingRun.equalised]
  have hstep : reportStep k none cause { s with kilns := s.kilns.set k new } =
      reporting [.kilnStep k s.kilns[k].charge none cause s.kilns[k].figures.controlling d.totalElapsed]
        { s with kilns := s.kilns.set k new } := by
    rw [reportStep_eq, kilns_set, hnew]
    rfl
  simp only [advanceStep, hd, hst]
  rw [hmod, hstep, Tables.reportKiln_reporting, kilns_set]
  rfl

/-- Settles O19. -/
theorem kilnAdvanceMovesTheStep : Obligations.KilnAdvanceMovesTheStep := by
  refine fun s tag k htakes => ⟨fun hstate => ?_, fun d hrun hd => ⟨fun st d' hst hd' => ?_, fun new hst hnew => ?_⟩⟩
  · refine exec_of_refuse htakes rfl (st := .state) ?_
    simp only [actKilnAdvance, readNumber_byteOf (by decide : 6 ≤ 256) k]
    exact if_neg hstate
  all_goals
    have hact : actKilnAdvance [byteOf k] s = done (advanceStep k .operator s) := by
      simp only [actKilnAdvance, readNumber_byteOf (by decide : 6 ≤ 256) k]
      exact if_pos hrun
  · exact exec_eq_after htakes rfl [_] (hact.trans (congrArg done (advanceStep_of_next .operator hd hst hd')))
  · exact exec_eq_after htakes rfl [_, _] (hact.trans (congrArg done (advanceStep_of_last .operator hd hst hnew)))

/-! ## KILN-HOLD, KILN-PARK and KILN-RESUME (R71 to R74) -/

theorem caused_of_held {c : Kiln} (h : c.state = .hold) (hlevel : 1 ≤ c.level) : c.caused .hold 1 = c := by
  obtain ⟨⟩ := c
  simp_all [Kiln.caused]

theorem caused_of_parked (kind : HoldKind) {c : Kiln} (h : c.state = .park) (hlevel : 1 ≤ c.level) : c.caused kind 1 = c := by
  obtain ⟨⟩ := c
  simp_all [Kiln.caused]

/-- A hold or park request to a kiln whose state changes. -/
theorem stopKiln_of_changed {kind : HoldKind} {new : Kiln} (hs : s.bus.settled) (hscanning : s.kilns[k].state.scanning = true)
    (hnew : s.kilns[k].caused kind 1 = new) (hstate : new.state ≠ s.kilns[k].state) :
    stopKiln kind [byteOf k] s =
      (reporting [new.report k .request] { s with kilns := s.kilns.set k new, bus := s.bus.climateJoined k new }, [0x00]) := by
  simp only [stopKiln, readNumber_byteOf (by decide : 6 ≤ 256) k]
  rw [if_pos hscanning]
  have hcause : applyCause k kind 1 .request s =
      pollDue k .climate (reporting [new.report k .request] { s with kilns := s.kilns.set k new }) :=
    applyCause_of_changed [] .request hnew hstate
  rw [hcause, serve_climate_set _ hs]
  rfl

theorem stopKiln_of_same {kind : HoldKind} (hs : s.bus.settled) (hscanning : s.kilns[k].state.scanning = true)
    (hsame : s.kilns[k].caused kind 1 = s.kilns[k]) : stopKiln kind [byteOf k] s = done s := by
  simp only [stopKiln, readNumber_byteOf (by decide : 6 ≤ 256) k]
  rw [if_pos hscanning, applyCause_of_same .request hsame, serve_of_settled hs]

theorem stopKiln_of_refused (kind : HoldKind) (h : s.kilns[k].state.scanning = false) :
    stopKiln kind [byteOf k] s = refuse .state s := by
  simp only [stopKiln, readNumber_byteOf (by decide : 6 ≤ 256) k, h]
  rfl

/-- Settles O20. -/
theorem kilnHoldAndPark : Obligations.KilnHoldAndPark := by
  refine fun s tag k htakes hs => ⟨fun ph stop hstate hstop => ?_, fun new hstate hlevel hnew => ?_, fun hstate hlevel => ?_,
    fun hstate => ?_⟩
  · have hscanning : s.kilns[k].state.scanning = true := by rw [hstate]; cases ph <;> rfl
    have hhold : s.kilns[k].caused .hold 1 = stop .hold := (caused_of_phase .hold 1 hstate).trans (hstop _).symm
    have hpark : s.kilns[k].caused .park 1 = stop .park := (caused_of_phase .park 1 hstate).trans (hstop _).symm
    exact ⟨exec_eq_after htakes rfl [_] (stopKiln_of_changed hs hscanning hhold (by rw [hstop, hstate]; cases ph <;> simp [Phase.state])),
      exec_eq_after htakes rfl [_] (stopKiln_of_changed hs hscanning hpark (by rw [hstop, hstate]; cases ph <;> simp [Phase.state]))⟩
  · have hscanning : s.kilns[k].state.scanning = true := by rw [hstate]; rfl
    have hpark : s.kilns[k].caused .park 1 = new := by
      simp only [Kiln.caused, hstate, Nat.max_eq_left hlevel, hnew]
    exact ⟨exec_of_done htakes rfl (stopKiln_of_same hs hscanning (caused_of_held hstate hlevel)),
      exec_eq_after htakes rfl [_] (stopKiln_of_changed hs hscanning hpark (by rw [hstate, hnew]; simp))⟩
  · have hscanning : s.kilns[k].state.scanning = true := by rw [hstate]; rfl
    exact ⟨exec_of_done htakes rfl (stopKiln_of_same hs hscanning (caused_of_parked _ hstate hlevel)),
      exec_of_done htakes rfl (stopKiln_of_same hs hscanning (caused_of_parked _ hstate hlevel))⟩
  · have hscanning : s.kilns[k].state.scanning = false := by
      obtain h | h | h := hstate <;> rw [h] <;> rfl
    exact ⟨exec_of_refuse htakes rfl (stopKiln_of_refused .hold hscanning),
      exec_of_refuse htakes rfl (stopKiln_of_refused .park hscanning)⟩

/-- Settles O21. -/
theorem kilnResumeReturnsToThePhase : Obligations.KilnResumeReturnsToThePhase := by
  refine fun s tag payload k clearance htakes hs hread => ⟨fun hrefused => ?_, fun hheld hlatch => ⟨fun hlevel => ?_,
    fun ph new hlevel hresume hnew => ?_⟩⟩
  · refine exec_of_refuse htakes rfl (st := .state) ?_
    simp only [actKilnResume, hread]
    by_cases hheld : s.kilns[k].state.held = false
    · exact if_pos hheld
    · rw [if_neg hheld, if_pos (hrefused.resolve_left hheld)]
  · refine exec_of_refuse htakes rfl (st := .level) ?_
    simp only [actKilnResume, hread]
    rw [if_neg (by rw [hheld]; decide), if_neg (by rw [hlatch]; decide), if_pos hlevel]
  · refine exec_eq_after htakes rfl [_] ?_
    simp only [actKilnResume, hread]
    rw [if_neg (by rw [hheld]; decide), if_neg (by rw [hlatch]; decide), if_neg hlevel.not_gt]
    have hmod : (s.modKiln k fun c =>
        { c with state := (c.resume.map Phase.state).getD c.state, resume := none, level := 0, deviation := 0 }) =
          { s with kilns := s.kilns.set k new } := by
      simp only [State.modKiln, vmod, hresume, hnew, Option.map_some, Option.getD_some]
    rw [resumeKiln, hmod, reportKiln_eq, kilns_set, serve_climate_set _ hs]
    rfl

end Sys2Proof.Proofs.KilnRequests
end

section
/-!
KILN-START and KILN-UNLOAD (sections 4.6, 4.9): the run begun with its two polls, and the charge sent on.
-/
namespace Sys2Proof.Proofs.KilnRuns
open Sys2Proof.Machine Sys2Proof.Proofs.Answers Sys2Proof.Proofs.Reporting Sys2Proof.Proofs.KilnEvents
set_option Elab.async false

variable {s : State} {k : Fin 6}

/-! ## KILN-START (R60, R61) -/

theorem joined_current {b : Bus} (k : Fin 6) (kind : PollKind) : (b.joined k kind).current = b.current := by
  unfold Bus.joined
  split <;> rfl

/-- A climate poll and a scan of a kiln that fall due together: a free bus begins the first, and the second waits (R87, R88). -/
theorem serve_climate_scan (h : s.bus.settled) (k : Fin 6) :
    serve (pollDue k .scan (pollDue k .climate s)) = { s with bus := (s.bus.climateJoined k s.kilns[k]).joined k .scan } := by
  rw [pollDue_eq, pollDue_eq]
  cases hcurrent : s.bus.current with
  | none =>
    have hempty := h hcurrent
    have hfirst : (s.bus.joined k .climate).joined k .scan =
        { s.bus with pendingPolls := [⟨k, .climate, s.bus.links[k].mark⟩, ⟨k, .scan, s.bus.links[k].mark⟩] } := by
      rw [joined_of_settled h hcurrent]
      simp [Bus.joined]
    have hlast : (s.bus.climateJoined k s.kilns[k]).joined k .scan =
        { s.bus with
          pendingPolls := [⟨k, .scan, s.bus.links[k].mark⟩]
          current := some ⟨⟨k, .climate, s.bus.links[k].mark⟩, 1, s.kilns[k].config.address, .climate s.kilns[k].command⟩ } := by
      simp [Bus.climateJoined, hcurrent, Bus.joined, hempty]
    simp only [hfirst, hlast]
    exact serve_of_climate (s := { s with bus := { s.bus with
      pendingPolls := [⟨k, .climate, s.bus.links[k].mark⟩, ⟨k, .scan, s.bus.links[k].mark⟩] } })
      (e := ⟨k, .climate, s.bus.links[k].mark⟩) (rest := [⟨k, .scan, s.bus.links[k].mark⟩]) hcurrent rfl rfl
  | some p =>
    rw [serve_of_current]
    · simp only [Bus.climateJoined, hcurrent]
    · simp only [joined_current, hcurrent]
      simp

theorem climateFirst_of_climate_scan (h : s.bus.settled) (k : Fin 6) :
    climateFirst (pollDue k .scan (pollDue k .climate s)) := by
  intro hcurrent e rest hpolls
  rw [pollDue_eq, pollDue_eq] at hcurrent hpolls
  have hfree : s.bus.current = none := by simpa only [joined_current] using hcurrent
  have hlist : ((s.bus.joined k .climate).joined k .scan).pendingPolls =
      [⟨k, .climate, s.bus.links[k].mark⟩, ⟨k, .scan, s.bus.links[k].mark⟩] := by
    rw [joined_of_settled h hfree]
    simp [Bus.joined]
  obtain ⟨rfl, -⟩ := List.cons.inj (hlist.symm.trans hpolls)
  rfl

theorem kilnCharge_eq {n : Nat} {ch : ChargeRecord} (hn : s.kilns[k].charge = some n) (hch : s.charge? n = some ch) :
    s.kilnCharge k = some ch := by
  simp only [State.kilnCharge, hn, Option.bind_some, hch]

/-- The stages of a start behind its three tests of the kiln. -/
theorem checkStart_of_slot {n : Nat} {ch : ChargeRecord} (hloaded : s.kilns[k].state = .loaded) (hlatch : s.port.latchHolds = false)
    (hsamples : 2 ≤ s.kilns[k].definedCount) (hn : s.kilns[k].charge = some n) (hch : s.charge? n = some ch) {slot : Slot}
    (hslot : s.store.slots[ch.slot] = slot) : checkStart k s =
      slot.lend.bind fun r => if r.species ≠ ch.species.val then .error .badArg else .ok r := by
  unfold checkStart
  rw [if_neg (not_not.2 hloaded), if_neg (by rw [hlatch]; decide), if_neg hsamples.not_gt]
  simp only [kilnCharge_eq hn hch, hslot]
  cases slot <;> rfl

theorem clamp_eq (x : Int) : clamp 200 1200 x = if x < 200 then 200 else if 1200 < x then 1200 else x := by
  unfold clamp
  rfl

theorem startKiln_eq {n : Nat} {ch : ChargeRecord} {r : Schedule} {new : Kiln} (hn : s.kilns[k].charge = some n)
    (hch : s.charge? n = some ch)
    (hnew : new = { s.kilns[k] with
      state := .run, level := 0, drying := some (s.kilns[k].startRun r), deviation := 0, samplesLost := false }) :
    startKiln k r s = pollDue k .scan (pollDue k .climate
      (reporting [({ ch with state := .drying, dryingKiln := some k, started := some s.now } : ChargeRecord).report,
          new.report k .request]
        (({ s with
            kilns := s.kilns.set k new
            bus := s.bus.setLink k { s.bus.links[k] with scanTimer := some 0 } } : State).modCharge n
              fun c => { c with state := .drying, dryingKiln := some k, started := some s.now }))) := by
  have hmod : (s.modKiln k fun c =>
      { c with state := .run, level := 0, drying := some (c.startRun r), deviation := 0, samplesLost := false }) =
        { s with kilns := s.kilns.set k new } := by
    rw [hnew]
    rfl
  have hheld : ({ s with kilns := s.kilns.set k new } : State).kilns[k].charge = some n := by
    rw [kilns_set, hnew]
    exact hn
  have hchange := changeHeld_reporting (s := { s with kilns := s.kilns.set k new }) [] hheld hch
    (f := fun c => { c with state := .drying, dryingKiln := some k, started := some s.now }) fun _ => rfl
  unfold startKiln
  simp only [hmod]
  rw [Invariants.pollDue_modLink k .climate (fun i => { i with scanTimer := some 0 }) fun _ => rfl]
  refine congrArg (fun t => pollDue k .scan (pollDue k .climate t)) ?_
  refine (congrArg (fun t => (reportKiln k .request t).modLink k fun i => { i with scanTimer := some 0 }) hchange).trans ?_
  rw [Tables.reportKiln_reporting, reporting_modLink]
  have hkiln : (({ s with kilns := s.kilns.set k new } : State).modCharge n
      fun c => { c with state := .drying, dryingKiln := some k, started := some s.now }).kilns[k] = new := kilns_set k new s
  rw [hkiln]
  rfl

/-- Settles O18. -/
theorem kilnStartBeginsDrying : Obligations.KilnStartBeginsDrying := by
  refine ⟨fun s tag k n ch r new htakes hs hloaded hlatch hsamples hn hch hslot hspecies hnew => ?_,
    fun s tag k htakes => ⟨fun hrefused => ?_, fun n ch hn hch hloaded hlatch hsamples => ⟨fun hwriting => ?_, fun hmissing => ?_,
      fun r hvalid hother => ?_⟩⟩⟩
  · have hcheck : checkStart k s = .ok r := by
      rw [checkStart_of_slot hloaded hlatch hsamples hn hch hslot]
      exact if_neg (not_not.2 hspecies)
    have hrun : new = { s.kilns[k] with
        state := .run, level := 0, drying := some (s.kilns[k].startRun r), deviation := 0, samplesLost := false } := by
      rw [hnew, Kiln.startRun, Kiln.firstSetpoint]
      cases s.kilns[k].measured with
      | none => rfl
      | some m => simp only [clamp_eq]
    refine exec_eq_after htakes rfl [_, _] ?_
    simp only [actKilnStart, readNumber_byteOf (by decide : 6 ≤ 256) k, hcheck]
    rw [startKiln_eq hn hch hrun, pollDue_reporting, pollDue_reporting, serve_reporting, serve_climate_scan]
    · have hkiln : (({ s with
            kilns := s.kilns.set k new
            bus := s.bus.setLink k { s.bus.links[k] with scanTimer := some 0 } } : State).modCharge n
          fun c => { c with state := .drying, dryingKiln := some k, started := some s.now }).kilns[k] = new := kilns_set k new s
      rw [hkiln]
      rfl
    · exact hs
    · refine climateFirst_of_climate_scan ?_ k
      exact hs
  · refine exec_of_refuse htakes rfl (st := .state) ?_
    have hcheck : checkStart k s = .error .state := by
      unfold checkStart
      by_cases hloaded : s.kilns[k].state ≠ .loaded
      · exact if_pos hloaded
      · rw [if_neg hloaded]
        by_cases hlatch : s.port.latchHolds = true
        · exact if_pos hlatch
        · rw [if_neg hlatch]
          exact if_pos ((hrefused.resolve_left hloaded).resolve_left hlatch)
    simp only [actKilnStart, readNumber_byteOf (by decide : 6 ≤ 256) k, hcheck]
  all_goals
    have hrefuse {e : Status} (hcheck : checkStart k s = .error e) :
        exec (.kilnStart tag [byteOf k]) s = .next (s.after [] (replyTo 0x13 tag [e.byte])) :=
      exec_of_refuse htakes rfl (by simp only [actKilnStart, readNumber_byteOf (by decide : 6 ≤ 256) k, hcheck])
  · exact hrefuse (e := .busy) (checkStart_of_slot hloaded hlatch hsamples hn hch hwriting)
  · obtain hempty | hinvalid := hmissing
    · exact hrefuse (e := .notFound) (checkStart_of_slot hloaded hlatch hsamples hn hch hempty)
    · exact hrefuse (e := .notFound) (checkStart_of_slot hloaded hlatch hsamples hn hch hinvalid)
  · exact hrefuse (e := .badArg) ((checkStart_of_slot hloaded hlatch hsamples hn hch hvalid).trans (if_pos hother))

/-! ## KILN-UNLOAD (R38, R40, R70) -/

/-- The unloaded kiln and its charge, before the climate poll that a held kiln makes due. -/
theorem unloadKiln_eq {n : Nat} {ch : ChargeRecord} {new : Kiln} {bus : Bus} {f : ChargeRecord → ChargeRecord}
    (hn : s.kilns[k].charge = some n) (hch : s.charge? n = some ch) (hnew : new = s.kilns[k].unloaded)
    (hbus : bus = s.bus.setLink k { s.bus.links[k] with mark := (s.bus.links[k].mark + 1) % 256, scanTimer := none })
    (hf : ChargeRecord.afterUnload s.kilns[k].state s.now (finalMC (activeMCs s.kilns[k].samples)) = f)
    (hnumber : ∀ c, (f c).number = c.number) {unloaded : State}
    (hunloaded : unloaded = reporting [(f ch).report, new.report k .request]
      (({ s with kilns := s.kilns.set k new, bus := bus } : State).modCharge n f)) :
    unloadKiln k s = if s.kilns[k].state.held then pollDue k .climate unloaded else unloaded := by
  have hchange := changeHeld_reporting [] hn hch (f := f) hnumber
  have hlinks : bumpMark k (((reporting [(f ch).report] (s.modCharge n f)).modKiln k Kiln.unloaded).modLink k
      fun l => { l with scanTimer := none }) = reporting [(f ch).report] (({ s with kilns := s.kilns.set k new, bus := bus } : State).modCharge n f) := by
    rw [reporting_modKiln, reporting_modLink, bumpMark, reporting_modLink, hbus, hnew]
    simp only [State.modLink, State.modKiln, State.modCharge, vmod, Bus.setLink, Fin.getElem_fin, Vector.getElem_set_self,
      Vector.set_set]
  have hreport : reportKiln k .request
      (reporting [(f ch).report] (({ s with kilns := s.kilns.set k new, bus := bus } : State).modCharge n f)) = unloaded := by
    rw [Tables.reportKiln_reporting, hunloaded]
    have hkiln : (({ s with kilns := s.kilns.set k new, bus := bus } : State).modCharge n f).kilns[k] = new := kilns_set k new s
    rw [hkiln]
    rfl
  unfold unloadKiln
  simp only [hf]
  have hsame : changeHeld k f s = reporting [(f ch).report] (s.modCharge n f) := hchange
  rw [hsame, hlinks, hreport]

/-- Settles O22. -/
theorem kilnUnloadReleasesTheCharge : Obligations.KilnUnloadReleasesTheCharge := by
  refine ⟨fun s tag k htakes hrefused => ?_, fun s tag k n ch new bus htakes hs hn hch hnew hbus => ?_⟩
  · refine exec_of_refuse htakes rfl (st := .state) ?_
    simp only [actKilnUnload, readNumber_byteOf (by decide : 6 ≤ 256) k]
    cases hstate : s.kilns[k].state with
    | idle | run | equalise | condition => rfl
    | loaded | hold | park | done =>
      rw [hstate] at hrefused
      simp [KilnState.running, KilnState.phase?] at hrefused
  · have hact (hstate : s.kilns[k].state = .loaded ∨ s.kilns[k].state = .done ∨ s.kilns[k].state.held = true) :
        actKilnUnload [byteOf k] s = done (serve (unloadKiln k s)) := by
      simp only [actKilnUnload, readNumber_byteOf (by decide : 6 ≤ 256) k]
      cases h : s.kilns[k].state with
      | loaded | hold | park | done => rfl
      | idle | run | equalise | condition =>
        rw [h] at hstate
        simp [KilnState.held] at hstate
    have hsettled : bus.settled := by rw [hbus]; exact hs
    have hunheld {f : ChargeRecord → ChargeRecord} (hstate : s.kilns[k].state = .loaded ∨ s.kilns[k].state = .done)
        (hf : ChargeRecord.afterUnload s.kilns[k].state s.now (finalMC (activeMCs s.kilns[k].samples)) = f)
        (hnumber : ∀ c, (f c).number = c.number) : actKilnUnload [byteOf k] s =
          (reporting [(f ch).report, new.report k .request]
            (({ s with kilns := s.kilns.set k new, bus := bus } : State).modCharge n f), [0x00]) := by
      have hheld : ¬ s.kilns[k].state.held = true := by
        obtain h | h := hstate <;> rw [h] <;> decide
      rw [hact (hstate.imp id .inl), unloadKiln_eq hn hch hnew hbus hf hnumber rfl, if_neg hheld, serve_reporting_of_settled]
      · rfl
      · exact hsettled
    refine ⟨fun hloaded => ?_, fun hdone => ?_, fun final hheld hfinal => ?_⟩
    · exact exec_eq_after htakes rfl [_, _]
        (hunheld (f := fun c => { c with state := .created, kiln := none }) (.inl hloaded) (by rw [hloaded]; rfl) fun _ => rfl)
    · exact exec_eq_after htakes rfl [_, _]
        (hunheld (f := fun c => { c with state := .released, kiln := none }) (.inr hdone) (by rw [hdone]; rfl) fun _ => rfl)
    · have hf : ChargeRecord.afterUnload s.kilns[k].state s.now (finalMC (activeMCs s.kilns[k].samples)) = fun c =>
          { c with state := .released, kiln := none, incomplete := true, dried := some s.now, finalMC := final } := by
        rw [hfinal]
        cases h : s.kilns[k].state with
        | hold | park => rfl
        | idle | loaded | run | equalise | condition | done =>
          rw [h] at hheld
          cases hheld
      refine exec_eq_after htakes rfl [_, _] ?_
      rw [hact (.inr (.inr hheld)), unloadKiln_eq hn hch hnew hbus hf (fun _ => rfl) rfl, if_pos hheld, serve_climate_reporting]
      · have hkiln : (({ s with kilns := s.kilns.set k new, bus := bus } : State).modCharge n fun c =>
            { c with state := .released, kiln := none, incomplete := true, dried := some s.now, finalMC := final }).kilns[k] = new :=
          kilns_set k new s
        rw [hkiln]
        rfl
      · exact hsettled

end Sys2Proof.Proofs.KilnRuns
end

section
/-!
What a raise comes to (section 10.2): the domain log and counter, the FAULT report, the kilns and the line its actions reach.
-/
namespace Sys2Proof.Proofs.Raises
open Sys2Proof.Machine Sys2Proof.Proofs.Answers Sys2Proof.Proofs.Reporting Sys2Proof.Proofs.KilnEvents
set_option Elab.async false

variable {s : State} {kind : FaultKind} {d : Domain} {x : FaultContext} {k : Fin 6}

/-! ## Logs and counters (R164, R165) -/

variable {r : FaultRecord} {counted : Bool} {l : DomainLog}

/-- A record placed in a domain log, before the counter. -/
def placed (r : FaultRecord) (l : DomainLog) : DomainLog × Placement :=
  if l.first.isNone then ({ l with first := some r }, .first)
  else if l.next.isNone then ({ l with next := some r }, .next)
  else (l, .none)

theorem raised_eq : l.raised r counted =
    if counted = false then placed r l
    else if l.counter < 127 then ({ (placed r l).1 with counter := l.counter + 1 }, (placed r l).2)
    else ({ (placed r l).1 with overflow := true }, (placed r l).2) := rfl

theorem placed_counter : (placed r l).1.counter = l.counter ∧ (placed r l).1.overflow = l.overflow := by
  unfold placed
  split
  · exact ⟨rfl, rfl⟩
  · split <;> exact ⟨rfl, rfl⟩

/-- The records of a log and the placement, whatever the counter does. -/
theorem raised_records : (l.raised r counted).1.first = (placed r l).1.first ∧ (l.raised r counted).1.next = (placed r l).1.next ∧
    (l.raised r counted).2 = (placed r l).2 := by
  rw [raised_eq]
  split
  · exact ⟨rfl, rfl, rfl⟩
  · split <;> exact ⟨rfl, rfl, rfl⟩

theorem placed_of_free (h : l.first = none) : placed r l = ({ l with first := some r }, .first) := by
  simp [placed, h]

theorem placed_of_first {f : FaultRecord} (h : l.first = some f) :
    placed r l = if l.next = none then ({ l with next := some r }, .next) else (l, .none) := by
  cases hnext : l.next <;> simp [placed, h, hnext]

theorem raised_placement : (l.raised r counted).2 = if l.first = none then .first else if l.next = none then .next else .none := by
  rw [raised_records.2.2]
  by_cases h : l.first = none
  · rw [placed_of_free h, if_pos h]
  · obtain ⟨f, hf⟩ := Option.ne_none_iff_exists'.1 h
    rw [placed_of_first hf, if_neg h]
    split <;> rfl

theorem raised_uncounted : (l.raised r false).1.counter = l.counter ∧ (l.raised r false).1.overflow = l.overflow :=
  placed_counter

theorem raised_counted (h : l.counter < 127) :
    (l.raised r true).1.counter = l.counter + 1 ∧ (l.raised r true).1.overflow = l.overflow := by
  rw [raised_eq, if_neg (by decide), if_pos h]
  exact ⟨rfl, placed_counter.2⟩

theorem raised_overflow (h : l.counter = 127) : (l.raised r true).1.counter = 127 ∧ (l.raised r true).1.overflow = true := by
  rw [raised_eq, if_neg (by decide), if_neg (by omega)]
  exact ⟨placed_counter.1.trans h, rfl⟩

/-! ## Raises of an unmasked kind -/

/-- The log of a domain as a raise leaves it. -/
def raisedLog (kind : FaultKind) (d : Domain) (x : FaultContext) (s : State) : DomainLog × Placement :=
  s.faults.logs[d.index].raised ⟨kind, s.faults.kinds[kind.index].severity, s.now, x⟩ s.faults.kinds[kind.index].counted

/-- The state with the raise logged and counted. -/
def logging (kind : FaultKind) (d : Domain) (x : FaultContext) (s : State) : State :=
  { s with faults := { s.faults with logs := s.faults.logs.set d.index (raisedLog kind d x s).1 } }

theorem raise_of_unmasked (hmask : s.faults.kinds[kind.index].masked = false) (hkind : kind ≠ .supervisionExpired) :
    raise kind d x s = applyActions d ⟨kind, s.faults.kinds[kind.index].severity, s.now, x⟩ (raisedLog kind d x s)
      s.faults.actions[s.faults.kinds[kind.index].severity.index] (logging kind d x s) := by
  unfold raise
  simp only [hmask]
  exact if_neg hkind

/-- SUPERVISION_EXPIRED is logged and counted; its actions are those of the expiry (R190). -/
theorem raise_supervisionExpired (hmask : s.faults.kinds[FaultKind.supervisionExpired.index].masked = false) :
    raise .supervisionExpired d x s = logging .supervisionExpired d x s := by
  unfold raise
  simp only [hmask]
  rfl

theorem raise_faults (hmask : s.faults.kinds[kind.index].masked = false) :
    (raise kind d x s).faults = { s.faults with logs := s.faults.logs.set d.index (raisedLog kind d x s).1 } := by
  by_cases hkind : kind = .supervisionExpired
  · subst hkind
    rw [raise_supervisionExpired hmask]
    rfl
  · rw [raise_of_unmasked hmask hkind, applyActions_faults]
    rfl

/-! ## Kilns and line (R166, R167) -/

theorem kiln_of_vmod_ne {j : Fin 6} (h : j ≠ k) (f : Kiln → Kiln) (v : Vector Kiln 6) : (vmod v j f)[k] = v[k] := by
  have hval : j.val ≠ k.val := fun hv => h (Fin.ext hv)
  simp [vmod, Vector.getElem_set_ne, hval]

theorem applyCauses_kiln (how : HoldKind) (level : Nat) (cause : KilnCause) {ks : List (Fin 6)} (hks : ks.Nodup) (k : Fin 6)
    (s : State) : (applyCauses how level cause ks s).kilns[k] = if k ∈ ks then s.kilns[k].caused how level else s.kilns[k] := by
  induction ks generalizing s with
  | nil => rfl
  | cons j ks ih =>
    obtain ⟨hj, hks⟩ := List.nodup_cons.1 hks
    refine (ih hks (applyCause j how level cause s)).trans ?_
    rw [Invariants.applyCause_kilns]
    by_cases hkj : j = k
    · subst hkj
      rw [if_neg hj, if_pos List.mem_cons_self]
      exact vmod_getElem_self ..
    · rw [kiln_of_vmod_ne hkj]
      simp [Ne.symm hkj]

/-- What the actions of a raise make of a kiln in the domain. -/
def actedOn (a : ActionSet) (level : Nat) (c : Kiln) : Kiln :=
  match a.kilnCause with
  | some how => c.caused how level
  | none => c

theorem kilns_nodup (d : Domain) : d.kilns.Nodup := by
  cases d <;> simp [Domain.kilns, allKilns]

theorem trip_kilns_eq (cause : LineCause) (s : State) : (trip cause s).kilns = s.kilns := by
  unfold trip
  split <;> rfl

theorem applyActions_kiln (r : FaultRecord) (log : DomainLog × Placement) (a : ActionSet) (s : State) :
    (applyActions d r log a s).kilns[k] = if k ∈ d.kilns then actedOn a r.severity.level s.kilns[k] else s.kilns[k] := by
  have htrip (b : Bool) (t : State) : (if b then trip .fault t else t).kilns = t.kilns := by
    cases b
    · rfl
    · exact trip_kilns_eq _ _
  have hreport (b : Bool) (report : Report) : (if b then queueReport report s else s).kilns[k] = s.kilns[k] := by
    cases b <;> rfl
  unfold applyActions actedOn
  simp only [htrip]
  cases a.kilnCause with
  | none => rw [hreport, ite_self]
  | some how => rw [applyCauses_kiln how _ _ (kilns_nodup d), hreport]

theorem raise_kiln (hmask : s.faults.kinds[kind.index].masked = false) (hkind : kind ≠ .supervisionExpired) :
    (raise kind d x s).kilns[k] = if k ∈ d.kilns
      then actedOn s.faults.actions[s.faults.kinds[kind.index].severity.index] s.faults.kinds[kind.index].severity.level s.kilns[k]
      else s.kilns[k] := by
  rw [raise_of_unmasked hmask hkind, applyActions_kiln]
  rfl

theorem kilnCause_some {a : ActionSet} (h : a.holdKiln = true ∨ a.parkKiln = true) :
    a.kilnCause = some (if a.parkKiln = true then .park else .hold) := by
  unfold ActionSet.kilnCause
  by_cases hpark : a.parkKiln = true
  · simp [hpark]
  · simp [hpark, h.resolve_right hpark]

theorem kilnCause_none {a : ActionSet} (hhold : a.holdKiln = false) (hpark : a.parkKiln = false) : a.kilnCause = none := by
  simp [ActionSet.kilnCause, hhold, hpark]

theorem trip_line_state (cause : LineCause) (s : State) : (trip cause s).line.state = .tripped := by
  unfold trip
  split
  case isTrue h => exact h
  case isFalse => rfl

theorem applyActions_line (r : FaultRecord) (log : DomainLog × Placement) {a : ActionSet} (s : State) :
    (a.stopLine = true → (applyActions d r log a s).line.state = .tripped) ∧
      (a.stopLine = false → (applyActions d r log a s).line = s.line) := by
  refine ⟨fun h => ?_, fun h => ?_⟩
  · unfold applyActions
    simp only [h, if_true]
    exact trip_line_state _ _
  · unfold applyActions
    simp only [h]
    rw [if_neg Bool.false_ne_true]
    cases a.kilnCause with
    | none =>
      cases a.report <;> rfl
    | some how =>
      refine (applyCauses_line ..).trans ?_
      cases a.report <;> rfl

theorem severity_level (v : Severity) : v.level = match v with | .advisory => 1 | .degrade => 2 | .critical => 3 := by
  cases v <;> rfl

/-! ## The FAULT report and the changes behind it (R168) -/

/-- The state with the raise logged, counted and reported. -/
def noted (kind : FaultKind) (d : Domain) (x : FaultContext) (s : State) : State :=
  if s.faults.actions[s.faults.kinds[kind.index].severity.index].report then
    queueReport (.fault d ⟨kind, s.faults.kinds[kind.index].severity, s.now, x⟩ (raisedLog kind d x s).2
      (raisedLog kind d x s).1.counter (raisedLog kind d x s).1.overflow
      s.faults.actions[s.faults.kinds[kind.index].severity.index]) (logging kind d x s)
  else logging kind d x s

/-- A raise whose kiln actions reach no kiln. -/
theorem raise_of_no_kiln (hmask : s.faults.kinds[kind.index].masked = false) (hkind : kind ≠ .supervisionExpired) (hd : d.kilns = []) :
    raise kind d x s =
      if s.faults.actions[s.faults.kinds[kind.index].severity.index].stopLine then trip .fault (noted kind d x s)
      else noted kind d x s := by
  rw [raise_of_unmasked hmask hkind]
  unfold applyActions noted
  simp only [hd, applyCauses, List.foldl_nil]
  cases s.faults.actions[s.faults.kinds[kind.index].severity.index].kilnCause <;> rfl

/-- A raise of one kiln's domain whose actions how or park the kiln and leave the line. -/
theorem raise_of_kiln {a : ActionSet} {how : HoldKind} (hmask : s.faults.kinds[kind.index].masked = false)
    (hkind : kind ≠ .supervisionExpired) (ha : s.faults.actions[s.faults.kinds[kind.index].severity.index] = a)
    (hcause : a.kilnCause = some how) (hstop : a.stopLine = false) :
    raise kind (.kiln k) x s = applyCause k how s.faults.kinds[kind.index].severity.level .fault (noted kind (.kiln k) x s) := by
  rw [raise_of_unmasked hmask hkind]
  unfold applyActions noted
  simp only [ha, hcause, hstop]
  rfl

theorem noted_kilns (kind : FaultKind) (d : Domain) (x : FaultContext) (s : State) : (noted kind d x s).kilns = s.kilns := by
  unfold noted
  split <;> rfl

theorem noted_bus (kind : FaultKind) (d : Domain) (x : FaultContext) (s : State) : (noted kind d x s).bus = s.bus := by
  unfold noted
  split <;> rfl

theorem noted_line (kind : FaultKind) (d : Domain) (x : FaultContext) (s : State) : (noted kind d x s).line = s.line := by
  unfold noted
  split <;> rfl

theorem trip_of_moving {t : State} (h : t.line.state ≠ .tripped) (cause : LineCause) :
    trip cause t = queueReport ((t.lineIn .tripped none).lineReport cause) (t.lineIn .tripped none) := by
  rw [trip, if_neg h, LineStop.enterLine_eq]

theorem trip_of_tripped {t : State} (h : t.line.state = .tripped) (cause : LineCause) : trip cause t = t := if_pos h

theorem kilns_eq_of_forall {v w : Vector Kiln 6} (h : ∀ k : Fin 6, v[k] = w[k]) : v = w :=
  Vector.ext fun i hi => h ⟨i, hi⟩

theorem mem_domain_kilns_iff : k ∈ d.kilns ↔ d = .kiln k ∨ d = .system := by
  cases d with
  | kiln j => simp [Domain.kilns, eq_comm]
  | system => simp [Domain.kilns, Invariants.mem_allKilns]
  | line | packing | links => simp [Domain.kilns]

theorem caused_of_stopped {how : HoldKind} {level : Nat} {c : Kiln} (h : c.state = .hold ∨ c.state = .park) :
    c.caused how level =
      { c with state := if how = .park then .park else c.state, level := max c.level level } := by
  obtain h | h := h <;> cases how <;> simp [Kiln.caused, h]

theorem caused_of_resting {how : HoldKind} {level : Nat} {c : Kiln} (h : c.state = .idle ∨ c.state = .loaded ∨ c.state = .done) :
    c.caused how level = c := by
  obtain h | h | h := h <;> simp only [Kiln.caused, h]

/-- The kilns of an unmasked raise, by the state of each (R71, R166). -/
theorem raise_kiln_acted {a : ActionSet} {v : Severity} (hmask : s.faults.kinds[kind.index].masked = false)
    (hkind : kind ≠ .supervisionExpired) (hv : s.faults.kinds[kind.index].severity = v) (ha : s.faults.actions[v.index] = a)
    (hreach : d = .kiln k ∨ d = .system) : (raise kind d x s).kilns[k] = actedOn a v.level s.kilns[k] := by
  rw [raise_kiln hmask hkind, if_pos (mem_domain_kilns_iff.2 hreach)]
  subst hv ha
  rfl

theorem raise_kilns_of_idle_actions {a : ActionSet} {v : Severity} (hmask : s.faults.kinds[kind.index].masked = false)
    (hkind : kind ≠ .supervisionExpired) (hv : s.faults.kinds[kind.index].severity = v) (ha : s.faults.actions[v.index] = a)
    (h : d = .line ∨ d = .packing ∨ d = .links ∨ (a.holdKiln = false ∧ a.parkKiln = false)) :
    (raise kind d x s).kilns = s.kilns := by
  subst hv ha
  obtain rfl | rfl | rfl | ⟨hhold, hpark⟩ := h
  · exact Machine.raise_kilns rfl ..
  · exact Machine.raise_kilns rfl ..
  · exact Machine.raise_kilns rfl ..
  · refine kilns_eq_of_forall fun k => ?_
    rw [raise_kiln hmask hkind]
    unfold actedOn
    rw [kilnCause_none hhold hpark]
    exact ite_self _

/-- Settles O46. -/
theorem raiseIsLoggedCountedAndActedOn : Obligations.RaiseIsLoggedCountedAndActedOn := by
  intro kind d x s cfg a old new hcfg ha hold hnew
  subst hcfg ha hold
  refine ⟨fun hmask => raise_masked hmask d x, fun hmask => ?_⟩
  have hlog : new = (raisedLog kind d x s).1 := by
    rw [hnew, raise_faults hmask]
    exact Vector.getElem_set_self d.index.isLt
  have hfaults : (raise kind d x s).faults = { s.faults with logs := s.faults.logs.set d.index new } := by
    rw [raise_faults hmask, hlog]
  rw [raisedLog] at hlog
  refine ⟨hfaults, fun hfree => ?_, fun hfirst => ?_, fun hcounted => ?_, fun hcounted hlt => ?_, fun hcounted htop => ?_,
    fun hexpired => ?_, fun hkind => ⟨fun hstop => ?_, fun hstop => ?_, raise_kilns_of_idle_actions hmask hkind rfl rfl,
      fun k => ⟨fun j hj hjk => ?_, fun hreach => ⟨fun ph hphase hacts => ?_, fun hstopped hacts => ?_, fun hresting => ?_⟩⟩⟩,
    fun f hkind hf => ?_⟩
  · rw [hlog, raised_records.1, raised_records.2.1, placed_of_free hfree]
    exact ⟨rfl, rfl⟩
  · obtain ⟨r, hr⟩ := Option.ne_none_iff_exists'.1 hfirst
    rw [hlog, raised_records.1, raised_records.2.1, placed_of_first hr]
    split <;> exact ⟨rfl, rfl⟩
  · rw [hlog, hcounted]
    exact raised_uncounted
  · rw [hlog, hcounted]
    exact raised_counted hlt
  · rw [hlog, hcounted]
    exact raised_overflow htop
  · subst hexpired
    rw [raise_supervisionExpired hmask]
    exact ⟨rfl, rfl⟩
  · rw [raise_of_unmasked hmask hkind]
    exact (applyActions_line _ _ _).1 hstop
  · rw [raise_of_unmasked hmask hkind, (applyActions_line _ _ _).2 hstop]
    rfl
  · rw [raise_kiln hmask hkind, if_neg]
    rw [mem_domain_kilns_iff, hj]
    simpa using hjk
  · rw [raise_kiln_acted hmask hkind rfl rfl hreach, actedOn, kilnCause_some hacts]
    refine (caused_of_phase _ _ hphase).trans ?_
    rw [severity_level]
    split <;> rfl
  · rw [raise_kiln_acted hmask hkind rfl rfl hreach, actedOn, kilnCause_some hacts]
    refine (caused_of_stopped hstopped).trans ?_
    rw [severity_level]
    cases s.faults.actions[s.faults.kinds[kind.index].severity.index].parkKiln <;> rfl
  · rw [raise_kiln_acted hmask hkind rfl rfl hreach, actedOn]
    split
    · exact caused_of_resting hresting
    · rfl
  · have hnoted : f = noted kind d x s := by
      rw [hf, hfaults, hlog]
      unfold noted logging raisedLog
      rw [raised_placement]
    have hline : f.line = s.line := by rw [hnoted, noted_line]
    refine ⟨fun hdomain => ?_, fun k ph c hdomain hphase hacts hstop hc => ?_⟩
    · have hraise : raise kind d x s = if s.faults.actions[s.faults.kinds[kind.index].severity.index].stopLine then trip .fault f else f := by
        have hkilns : d.kilns = [] := by
          obtain rfl | rfl | rfl := hdomain <;> rfl
        rw [raise_of_no_kiln hmask hkind hkilns, hnoted]
      refine ⟨fun hrests => ?_, fun hstop hmoving => ?_⟩
      · rw [hraise]
        split
        case isTrue hstop =>
          exact trip_of_tripped (by rw [hline]; exact hrests.resolve_left (by rw [hstop]; decide)) _
        case isFalse => rfl
      · rw [hraise, if_pos hstop, trip_of_moving (by rw [hline]; exact hmoving)]
    · subst hdomain
      have hcaused : s.kilns[k].caused (if s.faults.actions[s.faults.kinds[kind.index].severity.index].parkKiln = true then .park else .hold)
          s.faults.kinds[kind.index].severity.level = c := by
        rw [hc, raise_kiln_acted hmask hkind rfl rfl (.inl rfl), actedOn, kilnCause_some hacts]
      have hmoved : c.state ≠ s.kilns[k].state := by
        rw [← hcaused, caused_of_phase _ _ hphase, hphase]
        cases ph <;> cases s.faults.actions[s.faults.kinds[kind.index].severity.index].parkKiln <;> simp [Phase.state, stopped]
      have hkilns : f.kilns = s.kilns := by rw [hnoted, noted_kilns]
      have hbus : f.bus = s.bus := by rw [hnoted, noted_bus]
      rw [raise_of_kiln hmask hkind rfl (kilnCause_some hacts) hstop, ← hnoted]
      have happly := applyCause_of_changed (s := f) (k := k) (new := c) [] .fault (by rw [hkilns]; exact hcaused) (by rw [hkilns]; exact hmoved)
      refine happly.trans ?_
      rw [pollDue_reporting, pollDue_eq]
      simp only [hbus, hkilns]
      rfl

end Sys2Proof.Proofs.Raises
end

section
/-!
Timers and ticks (sections 4.7, 5.2, 11.8): polls that fall due, the minute and the second of the kilns, and the supervision countdown.
-/
namespace Sys2Proof.Proofs.Ticks
open Sys2Proof.Machine Sys2Proof.Proofs.Answers Sys2Proof.Proofs.Reporting Sys2Proof.Proofs.KilnEvents
set_option Elab.async false

variable {s : State} {k : Fin 6}

/-! ## Timers that reach their end (R85, R86) -/

theorem climateDue_eq (k : Fin 6) (s : State) :
    climateDue k s = pollDue k .climate { s with bus := s.bus.setLink k { s.bus.links[k] with climateTimer := 0 } } := rfl

/-- Settles O25. -/
theorem timersMakePollsFallDue : Obligations.TimersMakePollsFallDue := by
  refine fun s k ho hs => ⟨?_, fun hnone => ?_, fun n bus hn hbus => ⟨fun hcurrent => ?_, fun p rest hcurrent hscanning hpositions => ?_⟩⟩
  · refine exec_event_eq_after ho rfl [] ?_
    rw [climateDue_eq]
    exact serve_climate (s := { s with bus := s.bus.setLink k { s.bus.links[k] with climateTimer := 0 } }) hs k
  · refine exec_event_eq_after ho rfl [] ?_
    simp only [scanDue, hnone]
    exact serve_of_settled hs
  all_goals
    have hdue : scanDue k s = { s with bus := bus.joined k .scan } := by
      simp only [scanDue, hn]
      rw [pollDue_eq, hbus]
      rfl
  · refine exec_event_eq_after ho rfl [] ?_
    simp only [hdue]
    refine serve_of_current ?_
    simp only [KilnRuns.joined_current, hbus]
    exact hcurrent
  · refine exec_event_eq_after ho rfl [] ?_
    simp only [hdue]
    have hfree : bus.current = none := by rw [hbus]; exact hcurrent
    have hsettled : bus.settled := by rw [hbus]; exact hs
    have hmark : bus.links[k].mark = s.bus.links[k].mark := by
      rw [hbus]
      exact (congrArg KilnLink.mark (Vector.getElem_set_self k.isLt)).trans rfl
    rw [joined_of_settled hsettled hfree, hmark]
    have hstands : ({ s with bus := { bus with pendingPolls := [⟨k, .scan, s.bus.links[k].mark⟩] } } : State).scanStands
        ⟨k, .scan, s.bus.links[k].mark⟩ = true := by
      rw [State.scanStands, Bool.and_eq_true]
      exact ⟨hscanning, decide_eq_true hmark⟩
    refine (serve_of_scan (s := { s with bus := { bus with pendingPolls := [⟨k, .scan, s.bus.links[k].mark⟩] } })
      (rest := []) hfree rfl rfl hstands hpositions).trans ?_
    simp only [begun, State.setPoll, hsettled hfree]
    rfl

/-! ## The kilns in order -/

theorem foldl_vmod_getElem {α : Type} (g : α → α) {ks : List (Fin 6)} (hks : ks.Nodup) (v : Vector α 6) (i : Fin 6) :
    (ks.foldl (fun v k => vmod v k g) v)[i] = if i ∈ ks then g v[i] else v[i] := by
  induction ks generalizing v with
  | nil => rfl
  | cons j ks ih =>
    obtain ⟨hj, hks⟩ := List.nodup_cons.1 hks
    rw [List.foldl_cons, ih hks]
    by_cases hij : j = i
    · subst hij
      rw [if_neg hj, if_pos List.mem_cons_self]
      exact vmod_getElem_self ..
    · have hval : j.val ≠ i.val := fun hv => hij (Fin.ext hv)
      have hsame : (vmod v j g)[i] = v[i] := by simp [vmod, Vector.getElem_set_ne, hval]
      simp [hsame, Ne.symm hij]

theorem allKilns_nodup : allKilns.Nodup := by decide

theorem foldl_vmod_allKilns {α : Type} (g : α → α) (v : Vector α 6) : allKilns.foldl (fun v k => vmod v k g) v = vmap g v := by
  refine Vector.ext fun i hi => ?_
  refine (foldl_vmod_getElem g allKilns_nodup v ⟨i, hi⟩).trans ?_
  rw [if_pos (Invariants.mem_allKilns _), vmap_getElem]
  rfl

/-- A pass over kilns that changes each one's context and link alone. -/
theorem foldl_of_quiet {f : Fin 6 → State → State} {g : Kiln → Kiln} {h : KilnLink → KilnLink}
    (hf : ∀ k x, x.kilns[k] = s.kilns[k] → x.bus.links[k] = s.bus.links[k] → f k x = (x.modKiln k g).modLink k h)
    {ks : List (Fin 6)} (hks : ks.Nodup) {x : State} (hkilns : ∀ k ∈ ks, x.kilns[k] = s.kilns[k])
    (hlinks : ∀ k ∈ ks, x.bus.links[k] = s.bus.links[k]) : ks.foldl (fun x k => f k x) x =
      { x with
        kilns := ks.foldl (fun v k => vmod v k g) x.kilns
        bus := { x.bus with links := ks.foldl (fun v k => vmod v k h) x.bus.links } } := by
  induction ks generalizing x with
  | nil => rfl
  | cons j ks ih =>
    obtain ⟨hj, hks⟩ := List.nodup_cons.1 hks
    have hother {i : Fin 6} (hi : i ∈ ks) : j.val ≠ i.val := fun hv => hj (Fin.ext hv ▸ hi)
    rw [List.foldl_cons, hf j x (hkilns j List.mem_cons_self) (hlinks j List.mem_cons_self), ih hks]
    · rfl
    · intro i hi
      rw [← hkilns i (List.mem_cons_of_mem j hi)]
      simp [vmod, Vector.getElem_set_ne, hother hi]
    · intro i hi
      rw [← hlinks i (List.mem_cons_of_mem j hi)]
      simp [vmod, Vector.getElem_set_ne, hother hi]

theorem eachKiln_of_quiet {f : Fin 6 → State → State} {g : Kiln → Kiln} {h : KilnLink → KilnLink}
    (hf : ∀ k x, x.kilns[k] = s.kilns[k] → x.bus.links[k] = s.bus.links[k] → f k x = (x.modKiln k g).modLink k h) :
    eachKiln f s = { s with kilns := vmap g s.kilns, bus := { s.bus with links := vmap h s.bus.links } } := by
  rw [eachKiln, foldl_of_quiet hf allKilns_nodup (fun _ _ => rfl) (fun _ _ => rfl), foldl_vmod_allKilns, foldl_vmod_allKilns]

theorem modKiln_id (k : Fin 6) (s : State) : s.modKiln k id = s := by
  simp [State.modKiln, vmod]

theorem modLink_id (k : Fin 6) (s : State) : s.modLink k id = s := by
  simp [State.modLink, vmod]

theorem modLink_modLink (k : Fin 6) (f g : KilnLink → KilnLink) (s : State) :
    (s.modLink k f).modLink k g = s.modLink k (g ∘ f) := by
  simp only [State.modLink, vmod, Fin.getElem_fin, Vector.getElem_set_self, Vector.set_set, Function.comp]

theorem vmap_id {α : Type} {n : Nat} (v : Vector α n) : vmap id v = v :=
  Vector.ext fun i hi => by rw [vmap_getElem]; rfl

/-! ## Minutes and seconds of a kiln -/

/-- The minute of a scan timer (R86). -/
def scanLonger (l : KilnLink) : KilnLink := { l with scanTimer := l.scanTimer.map (· + 1) }

theorem scanLonger_of_none {l : KilnLink} (h : l.scanTimer = none) : scanLonger l = l := by
  cases l
  cases h
  rfl

/-- The second of a climate timer (R85). -/
def climateLonger (l : KilnLink) : KilnLink := { l with climateTimer := l.climateTimer + 1 }

/-- A kiln that does not run only ages (R62, R77). -/
theorem minuteTick_of_resting (h : s.kilns[k].state.running = false) : minuteTick k s = s.modKiln k Kiln.aged := by
  have hstate : (s.modKiln k Kiln.aged).kilns[k].state = s.kilns[k].state := (congrArg Kiln.state (kilns_modKiln k Kiln.aged s)).trans rfl
  have hrun : (decide (s.kilns[k].state = .run)) = false := by
    refine decide_eq_false fun hr => ?_
    rw [hr] at h
    cases h
  have hcondition : (decide (s.kilns[k].state = .condition)) = false := by
    refine decide_eq_false fun hr => ?_
    rw [hr] at h
    cases h
  simp only [minuteTick, inStates, hstate, h, hrun, hcondition, Bool.false_eq_true, if_false]

theorem scanMinute_of_short (h : ∀ n, s.bus.links[k].scanTimer = some n → n + 1 < s.kilns[k].config.sampleInterval) :
    scanMinute k s = s.modLink k scanLonger := by
  cases hn : s.bus.links[k].scanTimer with
  | none =>
    simp only [scanMinute, hn, State.modLink, vmod, scanLonger_of_none hn]
    simp
  | some n =>
    have hlonger : scanLonger s.bus.links[k] = { s.bus.links[k] with scanTimer := some (n + 1) } := by
      simp only [scanLonger, hn, Option.map_some]
    simp only [scanMinute, hn]
    rw [if_neg (h n hn).not_ge, State.modLink, State.modLink, vmod, vmod, hlonger]

theorem kilnMinute_of_quiet (hrest : s.kilns[k].state.running = false)
    (h : ∀ n, s.bus.links[k].scanTimer = some n → n + 1 < s.kilns[k].config.sampleInterval) :
    kilnMinute k s = (s.modKiln k Kiln.aged).modLink k scanLonger := by
  rw [kilnMinute, minuteTick_of_resting hrest]
  refine scanMinute_of_short fun n hn => ?_
  rw [kilns_modKiln]
  exact h n hn

theorem climateSecond_of_short (h : s.bus.links[k].climateTimer + 1 < s.kilns[k].config.pollPeriod) :
    climateSecond k s = s.modLink k climateLonger := by
  unfold climateSecond
  exact if_neg h.not_ge

theorem second_eq {p : Port} (h : p.divider ≤ 59) :
    p.second = { p with clock := (p.clock + 1) % 4294967296, divider := (p.divider + 1) % 60 } := by
  have hdivider : (if 59 ≤ p.divider then 0 else p.divider + 1) = (p.divider + 1) % 60 := by
    split <;> omega
  rw [Port.second, hdivider]

/-- One second of an armed timer (R188): the latch and the standby pause stop it. -/
def countdown (s : State) (v : Supervision) : Supervision :=
  if s.port.latch = true ∨ s.frozen = true then v else { v with remaining := v.remaining - 1 }

theorem supervisionSecond_of_counting
    (h : ∀ v, s.port.supervision = some v → s.port.latch = true ∨ s.frozen = true ∨ 2 ≤ v.remaining) :
    supervisionSecond s = { s with port := { s.port with supervision := s.port.supervision.map (countdown s) } } := by
  cases hv : s.port.supervision with
  | none =>
    have hsame : supervisionSecond s = s := by simp only [supervisionSecond, hv]
    rw [hsame, Option.map_none, ← hv]
  | some v =>
    by_cases hstops : s.port.latch = true ∨ s.frozen = true
    · have hsame : supervisionSecond s = s := by
        simp only [supervisionSecond, hv]
        exact if_pos (by simpa using hstops)
      rw [hsame, Option.map_some, countdown, if_pos hstops, ← hv]
    · rw [Option.map_some, countdown, if_neg hstops]
      simp only [supervisionSecond, hv]
      rw [if_neg (by simpa using hstops), if_neg]
      · rfl
      · obtain ⟨hlatch, hfrozen⟩ := not_or.1 hstops
        have := ((h v hv).resolve_left hlatch).resolve_left hfrozen
        omega

theorem orderJoined_of_none {before : Nat} (h : s.bus.pendingPolls.length = before) : orderJoined before s = s := by
  subst h
  have hempty : inKilnOrder [] = [] := rfl
  simp only [orderJoined, List.take_length, List.drop_length, hempty, List.append_nil]

/-! ## Polls in kiln order (R87) -/

theorem inKilnOrder_pairwise (polls : List PollEntry) : (inKilnOrder polls).Pairwise
    fun a b => a.kiln < b.kiln ∨ (a.kiln = b.kiln ∧ (a.kind = .scan → b.kind = .scan)) := by
  have hkiln {kind : PollKind} {k : Fin 6} {e : PollEntry}
      (h : e ∈ polls.filter fun e => decide (e.kiln = k) && decide (e.kind = kind)) : e.kiln = k ∧ e.kind = kind := by
    simpa using (List.mem_filter.1 h).2
  have hmem {k : Fin 6} {e : PollEntry} (h : e ∈ (polls.filter fun e => decide (e.kiln = k) && decide (e.kind = .climate)) ++
      polls.filter fun e => decide (e.kiln = k) && decide (e.kind = .scan)) : e.kiln = k := by
    obtain h | h := List.mem_append.1 h
    · exact (hkiln h).1
    · exact (hkiln h).1
  refine List.pairwise_flatMap.2 ⟨fun k _ => List.pairwise_append.2 ⟨?_, ?_, fun a ha b hb => ?_⟩, ?_⟩
  · refine List.pairwise_of_forall_mem_list fun a ha b hb => .inr ⟨(hkiln ha).1.trans (hkiln hb).1.symm, fun hscan => ?_⟩
    cases (hkiln ha).2.symm.trans hscan
  · exact List.pairwise_of_forall_mem_list fun a ha b hb => .inr ⟨(hkiln ha).1.trans (hkiln hb).1.symm, fun _ => (hkiln hb).2⟩
  · exact .inr ⟨(hkiln ha).1.trans (hkiln hb).1.symm, fun _ => (hkiln hb).2⟩
  · have hordered : allKilns.Pairwise (· < ·) := by decide
    refine hordered.imp fun {j k} hjk a ha b hb => .inl ?_
    rw [hmem ha, hmem hb]
    exact hjk

/-- Climate polls that stand in kiln order, one of a kiln, are in order already. -/
theorem inKilnOrder_of_ordered {polls : List PollEntry} (h : polls.Pairwise fun a b => a.kiln < b.kiln) : inKilnOrder polls = polls := by
  have hweak : polls.Pairwise fun a b => a.kiln < b.kiln ∨ (a.kiln = b.kiln ∧ (a.kind = .scan → b.kind = .scan)) := h.imp .inl
  refine (Invariants.inKilnOrder_perm polls).eq_of_pairwise (fun a b ha hb hab hba => ?_) (inKilnOrder_pairwise polls) hweak
  have hkiln : a.kiln = b.kiln := by
    obtain hab | hab := hab
    · obtain hba | hba := hba
      · exact absurd hab hba.asymm
      · exact hba.1.symm
    · exact hab.1
  have ha' : a ∈ polls := (Invariants.inKilnOrder_perm polls).mem_iff.1 ha
  by_contra hne
  obtain ⟨i, hi, rfl⟩ := List.getElem_of_mem ha'
  obtain ⟨j, hj, rfl⟩ := List.getElem_of_mem hb
  have hij : i ≠ j := fun heq => hne (by subst heq; rfl)
  obtain hlt | hgt := Nat.lt_or_gt_of_ne hij
  · exact absurd hkiln (ne_of_lt (List.pairwise_iff_getElem.1 h i j hi hj hlt))
  · exact absurd hkiln.symm (ne_of_lt (List.pairwise_iff_getElem.1 h j i hj hi hgt))

end Sys2Proof.Proofs.Ticks
end

section
/-!
The second and the minute tick whole (R62, R85 to R88, R188, R194), and a second in which the supervision timer ends.
-/
namespace Sys2Proof.Proofs.Seconds
open Sys2Proof.Machine Sys2Proof.Proofs.Answers Sys2Proof.Proofs.Reporting Sys2Proof.Proofs.KilnEvents Sys2Proof.Proofs.Ticks
set_option Elab.async false

variable {s : State} {k : Fin 6}

/-! ## Quiet ticks -/

theorem quietMinute (hrest : ∀ k : Fin 6, s.kilns[k].state.running = false)
    (hshort : ∀ (k : Fin 6) (n : Nat), s.bus.links[k].scanTimer = some n → n + 1 < s.kilns[k].config.sampleInterval) :
    eachKiln kilnMinute s =
      { s with kilns := vmap Kiln.aged s.kilns, bus := { s.bus with links := vmap scanLonger s.bus.links } } := by
  refine eachKiln_of_quiet fun k x hkiln hlink => kilnMinute_of_quiet ?_ fun n hn => ?_
  · rw [hkiln]
    exact hrest k
  · rw [hkiln]
    exact hshort k n (hlink ▸ hn)

theorem quietSecond (hshort : ∀ k : Fin 6, s.bus.links[k].climateTimer + 1 < s.kilns[k].config.pollPeriod) :
    eachKiln climateSecond s = { s with bus := { s.bus with links := vmap climateLonger s.bus.links } } := by
  have h := eachKiln_of_quiet (s := s) (f := climateSecond) (g := id) (h := climateLonger) fun k x hkiln hlink => by
    rw [modKiln_id]
    exact climateSecond_of_short (by rw [hkiln, hlink]; exact hshort k)
  rw [h, vmap_id]

theorem climateSecond_scanTimer (g : KilnLink → KilnLink) (hg : ∀ l, (g l).scanTimer = l.scanTimer) (x : State) :
    (x.modLink k g).bus.links[k].scanTimer = x.bus.links[k].scanTimer := by
  simp [hg]

theorem quietSecondAndMinute (hrest : ∀ k : Fin 6, s.kilns[k].state.running = false)
    (hclimate : ∀ k : Fin 6, s.bus.links[k].climateTimer + 1 < s.kilns[k].config.pollPeriod)
    (hscan : ∀ (k : Fin 6) (n : Nat), s.bus.links[k].scanTimer = some n → n + 1 < s.kilns[k].config.sampleInterval) :
    eachKiln (fun k s => kilnMinute k (climateSecond k s)) s =
      { s with
        kilns := vmap Kiln.aged s.kilns
        bus := { s.bus with links := vmap (scanLonger ∘ climateLonger) s.bus.links } } := by
  refine eachKiln_of_quiet fun k x hkiln hlink => ?_
  rw [climateSecond_of_short (by rw [hkiln, hlink]; exact hclimate k), kilnMinute_of_quiet]
  · exact modLink_modLink k climateLonger scanLonger (x.modKiln k Kiln.aged)
  · rw [modLink_kilns, hkiln]
    exact hrest k
  · intro n hn
    rw [climateSecond_scanTimer climateLonger (fun _ => rfl), hlink] at hn
    rw [modLink_kilns, hkiln]
    exact hscan k n hn

/-! ## The tick as it is run -/

theorem reporting_nil (s : State) : reporting [] s = s := rfl

/-- The clock and the divider one second on (R194). -/
def clocked (s : State) : State :=
  { s with port := { s.port with clock := (s.port.clock + 1) % 4294967296, divider := (s.port.divider + 1) % 60 } }

/-- What a second makes of one kiln; the divider before the tick says whether its minute follows. -/
def secondOf (divider : Nat) (k : Fin 6) (s : State) : State :=
  if divider = 59 then kilnMinute k (climateSecond k s) else climateSecond k s

theorem secondTick_eq (h : s.port.divider ≤ 59) : secondTick s = serve (orderJoined s.bus.pendingPolls.length
    (supervisionSecond (eachKiln (secondOf s.port.divider) (clocked s)))) := by
  have hminute : decide (59 ≤ s.port.divider) = decide (s.port.divider = 59) := by
    simp only [decide_eq_decide]
    omega
  have hport : s.modPort Port.second = clocked s := by
    rw [State.modPort, second_eq h]
    rfl
  have hstep : (fun (k : Fin 6) (x : State) =>
      let x := climateSecond k x; if decide (59 ≤ s.port.divider) = true then kilnMinute k x else x) = secondOf s.port.divider := by
    funext k x
    simp only [hminute, decide_eq_true_eq, secondOf]
  unfold secondTick
  rw [hport]
  exact congrArg (fun f => serve (orderJoined s.bus.pendingPolls.length (supervisionSecond (eachKiln f _)))) hstep

/-- A tick in which no poll falls due and the countdown does not end. -/
theorem secondTick_of_quiet {u : State} (hdivider : s.port.divider ≤ 59)
    (hu : eachKiln (secondOf s.port.divider) (clocked s) = u) (hpolls : u.bus.pendingPolls = s.bus.pendingPolls)
    (hsettled : u.bus.settled) (hcount : ∀ v, u.port.supervision = some v → 2 ≤ v.remaining) (hfrozen : u.frozen = s.frozen)
    (hlatch : u.port.latch = s.port.latch) :
    secondTick s = { u with port := { u.port with supervision := u.port.supervision.map (countdown s) } } := by
  have hcountdown : countdown u = countdown s := by
    funext v
    rw [countdown, countdown, hfrozen, hlatch]
  rw [secondTick_eq hdivider, hu, supervisionSecond_of_counting fun v hv => .inr (.inr (hcount v hv)), hcountdown]
  generalize hv : ({ u with port := { u.port with supervision := u.port.supervision.map (countdown s) } } : State) = w
  have hbus : w.bus = u.bus := by rw [← hv]
  rw [orderJoined_of_none (s := w) (by rw [hbus, hpolls]), serve_of_settled (by rw [hbus]; exact hsettled)]

/-- Age does not decide standby (R188). -/
theorem standby_aged (links : Vector KilnLink 6) (port : Port) : ({ s with
    kilns := vmap Kiln.aged s.kilns, bus := { s.bus with links := links }, port := port } : State).standby = s.standby := by
  have haged : (fun k : Kiln => (match (Kiln.aged k).state with | .idle | .loaded | .done | .park => true | _ => false)) =
      fun k => (match k.state with | .idle | .loaded | .done | .park => true | _ => false) := rfl
  simp only [State.standby, vmap_toList, List.all_map]
  exact congrArg (fun f => s.line.state.atRest && s.kilns.toList.all f) haged

theorem minute_eq {minute : Fin 6 → State → State}
    (hminute : ∀ k x y, y = minuteTick k x → minute k x =
      match y.bus.links[k].scanTimer with
      | none => y
      | some n =>
        if y.kilns[k].config.sampleInterval ≤ n + 1 then
          { y with bus := (y.bus.setLink k { y.bus.links[k] with scanTimer := some 0 }).joined k .scan }
        else { y with bus := y.bus.setLink k { y.bus.links[k] with scanTimer := some (n + 1) } }) : minute = kilnMinute := by
  funext k x
  rw [hminute k x _ rfl, kilnMinute, scanMinute]
  generalize minuteTick k x = y
  cases y.bus.links[k].scanTimer with
  | none => rfl
  | some n =>
    dsimp only
    rw [pollDue_eq]
    rfl

theorem second_eq_climateSecond {second : Fin 6 → State → State}
    (hsecond : ∀ k x, second k x =
      if x.kilns[k].config.pollPeriod ≤ x.bus.links[k].climateTimer + 1 then
        { x with bus := (x.bus.setLink k { x.bus.links[k] with climateTimer := 0 }).joined k .climate }
      else { x with bus := x.bus.setLink k { x.bus.links[k] with climateTimer := x.bus.links[k].climateTimer + 1 } }) :
    second = climateSecond := by
  funext k x
  rw [hsecond, climateSecond, pollDue_eq]
  rfl

/-! ## A second in which the supervision timer ends (R188, R190) -/

/-- An operation appends climate polls in kiln order. -/
def appendsOrdered (s t : State) : Prop :=
  ∃ polls : List PollEntry, t.bus.pendingPolls = s.bus.pendingPolls ++ polls ∧ polls.Pairwise fun a b => a.kiln < b.kiln

theorem pollDue_pendingPolls (k : Fin 6) (kind : PollKind) (s : State) : ∃ polls : List PollEntry,
    (pollDue k kind s).bus.pendingPolls = s.bus.pendingPolls ++ polls ∧ (polls.map (·.kiln)).Sublist [k] := by
  unfold pollDue
  split
  · exact ⟨[], (List.append_nil _).symm, List.nil_sublist _⟩
  · exact ⟨[_], rfl, .refl _⟩

theorem applyCause_pendingPolls (k : Fin 6) (how : HoldKind) (level : Nat) (cause : KilnCause) (s : State) :
    ∃ polls : List PollEntry, (applyCause k how level cause s).bus.pendingPolls = s.bus.pendingPolls ++ polls ∧
      (polls.map (·.kiln)).Sublist [k] := by
  unfold applyCause
  dsimp only
  split
  · exact ⟨[], (List.append_nil _).symm, List.nil_sublist _⟩
  split
  · exact ⟨[], (List.append_nil _).symm, List.nil_sublist _⟩
  · exact pollDue_pendingPolls k .climate _

theorem applyCauses_pendingPolls (how : HoldKind) (level : Nat) (cause : KilnCause) (ks : List (Fin 6)) (s : State) :
    ∃ polls : List PollEntry, (applyCauses how level cause ks s).bus.pendingPolls = s.bus.pendingPolls ++ polls ∧
      (polls.map (·.kiln)).Sublist ks := by
  induction ks generalizing s with
  | nil => exact ⟨[], (List.append_nil _).symm, List.nil_sublist _⟩
  | cons k ks ih =>
    obtain ⟨first, hfirst, hfirst'⟩ := applyCause_pendingPolls k how level cause s
    obtain ⟨rest, hrest, hrest'⟩ := ih (applyCause k how level cause s)
    refine ⟨first ++ rest, ?_, ?_⟩
    · rw [← List.append_assoc, ← hfirst]
      exact hrest
    · rw [List.map_append]
      exact hfirst'.append hrest'

theorem raise_supervisionExpired_bus (d : Domain) (x : FaultContext) (s : State) :
    (raise .supervisionExpired d x s).bus = s.bus := by
  cases hmask : s.faults.kinds[FaultKind.supervisionExpired.index].masked with
  | true => rw [raise_masked hmask]
  | false => rw [Raises.raise_supervisionExpired hmask]; rfl

theorem expire_appendsOrdered (v : Supervision) (s : State) : appendsOrdered s (expire v s) := by
  unfold expire supervisionActs
  dsimp only
  generalize hexpired : queueReport _ _ = expired
  have hbus : expired.bus = s.bus := by
    rw [← hexpired]
    exact raise_supervisionExpired_bus ..
  cases v.mode with
  | notify => exact ⟨[], by rw [hbus, List.append_nil], .nil⟩
  | holdAll =>
    obtain ⟨polls, hpolls, hsub⟩ := applyCauses_pendingPolls .hold 3 .supervision allKilns expired
    refine ⟨polls, ?_, ?_⟩
    · rw [Machine.trip_bus, hpolls, hbus]
    · have hordered : allKilns.Pairwise (· < ·) := by decide
      exact List.pairwise_map.1 (hordered.sublist hsub)

theorem orderJoined_of_appendsOrdered {t : State} {before : Nat} (hbefore : s.bus.pendingPolls.length = before)
    (h : appendsOrdered s t) : orderJoined before t = t := by
  obtain ⟨polls, hpolls, hordered⟩ := h
  subst hbefore
  have hsame : t.bus.pendingPolls.take s.bus.pendingPolls.length ++ inKilnOrder (t.bus.pendingPolls.drop s.bus.pendingPolls.length) =
      t.bus.pendingPolls := by
    rw [hpolls, List.take_left, List.drop_left, inKilnOrder_of_ordered hordered]
  simp only [orderJoined, hsame]

/-- Settles O24. -/
theorem ticksCount : Obligations.TicksCount := by
  refine ⟨fun s ho hs hrest hshort => ?_, fun s port ho hs hdivider hclimate hcount hport => ⟨fun hlt => ?_, fun h59 hrest hscan => ?_⟩,
    fun s second minute ho hsecond hminute => ?_, fun s v ho hs hlt hclimate hv hlatch hfrozen hend => ?_⟩
  · refine exec_event_eq_after ho rfl [] ?_
    have hminute := quietMinute (s := s.modPort fun p => { p with divider := 0 }) hrest hshort
    simp only [hminute]
    exact serve_of_settled hs
  · refine exec_event_eq_after ho rfl [] ?_
    have hstep : secondOf s.port.divider = climateSecond := by
      funext k x
      exact if_neg hlt.ne
    have hu := (congrArg (fun f => eachKiln f (clocked s)) hstep).trans (quietSecond (s := clocked s) hclimate)
    rw [secondTick_of_quiet hdivider hu rfl hs hcount rfl rfl, hport]
    rfl
  · refine exec_event_eq_after ho rfl [] ?_
    have hstep : secondOf s.port.divider = fun k s => kilnMinute k (climateSecond k s) := by
      funext k x
      exact if_pos h59
    have hu := (congrArg (fun f => eachKiln f (clocked s)) hstep).trans (quietSecondAndMinute (s := clocked s) hrest hclimate hscan)
    have hstandby := standby_aged (s := s) (vmap (scanLonger ∘ climateLonger) s.bus.links) (clocked s).port
    have hfrozen : ({ clocked s with
        kilns := vmap Kiln.aged s.kilns
        bus := { s.bus with links := vmap (scanLonger ∘ climateLonger) s.bus.links } } : State).frozen = s.frozen := by
      cases hv : s.port.supervision with
      | none => simp only [State.frozen, clocked, hv]
      | some v =>
        simp only [State.frozen, clocked, hv]
        exact congrArg (v.standbyPause && ·) hstandby
    rw [secondTick_of_quiet (u := { clocked s with
      kilns := vmap Kiln.aged s.kilns
      bus := { s.bus with links := vmap (scanLonger ∘ climateLonger) s.bus.links } }) hdivider hu rfl hs hcount hfrozen rfl, hport]
    rfl
  · obtain rfl := minute_eq hminute
    obtain rfl := second_eq_climateSecond hsecond
    have hminutes := exec_event_eq_after (i := .kilnMinuteTick) (t := serve (eachKiln kilnMinute (s.modPort fun p => { p with divider := 0 })))
      (f := fun s => serve (eachKiln kilnMinute (s.modPort fun p => { p with divider := 0 }))) ho rfl [] (reporting_nil _).symm
    refine ⟨⟨_, serve_begins _, hminutes⟩, fun u hdivider hu hcount => ?_⟩
    refine ⟨inKilnOrder (u.bus.pendingPolls.drop s.bus.pendingPolls.length), _, Invariants.inKilnOrder_perm _, inKilnOrder_pairwise _,
      serve_begins _, exec_event_eq_after ho rfl [] ?_⟩
    have hkilns : eachKiln (secondOf s.port.divider) (clocked s) = u := hu.symm
    rw [secondTick_eq hdivider, hkilns, supervisionSecond_of_counting hcount]
    rfl
  · have hdivider : (s.port.divider + 1) % 60 = s.port.divider + 1 := Nat.mod_eq_of_lt (by omega)
    have hstep : secondOf s.port.divider = climateSecond := by
      funext k x
      exact if_neg hlt.ne
    have htick : secondTick s = serve (supervisionReached { s with
        bus := { s.bus with links := vmap climateLonger s.bus.links }
        port := { s.port with clock := (s.port.clock + 1) % 4294967296, divider := s.port.divider + 1 } }) := by
      rw [secondTick_eq hlt.le, hstep, quietSecond (s := clocked s) hclimate, clocked, hdivider]
      generalize hu : ({ s with
        bus := { s.bus with links := vmap climateLonger s.bus.links }
        port := { s.port with clock := (s.port.clock + 1) % 4294967296, divider := s.port.divider + 1 } } : State) = u
      have hv' : u.port.supervision = some v := by rw [← hu]; exact hv
      have hlatch' : u.port.latch = false := by rw [← hu]; exact hlatch
      have hfrozen' : u.frozen = false := by rw [← hu]; exact hfrozen
      have hpolls : u.bus.pendingPolls.length = s.bus.pendingPolls.length := by rw [← hu]
      have hcount : supervisionSecond u = expire v u := by
        simp only [supervisionSecond, hv', hlatch', hfrozen']
        exact if_pos hend
      have hreached : supervisionReached u = expire v u := by
        simp only [supervisionReached, hv', hlatch']
        rfl
      rw [hcount, hreached, orderJoined_of_appendsOrdered hpolls (expire_appendsOrdered v u)]
    have hexec : exec .secondTick s = .next (event secondTick s) := rfl
    rw [hexec, event_of ho, htick]
    exact congrArg Host.Outcome.next (Eq.symm (event_of (s := { s with
        bus := { s.bus with links := vmap climateLonger s.bus.links }
        port := { s.port with clock := (s.port.clock + 1) % 4294967296, divider := s.port.divider + 1 } }) ho _))

end Sys2Proof.Proofs.Seconds
end

section
/-!
The parts of a minute tick (R62, R63, R78), and the entry to CONDITION and DONE (R68, R69), each as what it makes of one kiln.
-/
namespace Sys2Proof.Proofs.Phases
open Sys2Proof.Machine Sys2Proof.Proofs.Answers Sys2Proof.Proofs.Reporting Sys2Proof.Proofs.KilnEvents
set_option Elab.async false

variable {s : State} {k : Fin 6} {c : Kiln} {d : DryingRun}

theorem reporting_reporting (xs ys : List Report) (s : State) : reporting ys (reporting xs s) = reporting (xs ++ ys) s := by
  simp [reporting, List.foldl_append]

theorem reporting_set_kilns (reports : List Report) (v : Vector Kiln 6) (s : State) :
    { reporting reports s with kilns := v } = reporting reports { s with kilns := v } := by
  rw [reporting_eq, reporting_eq]

theorem raiseKiln_eq (kind : FaultKind) (k : Fin 6) (s : State) :
    raiseKiln kind k s = raise kind (.kiln k) s.kilns[k].context s := rfl

theorem set_kilns_self (h : s.kilns[k] = c) : { s with kilns := s.kilns.set k c } = s := by
  subst h
  simp

/-! ## Entry to CONDITION and DONE (R68, R69) -/

/-- The charge of a kiln that is DONE (R39). -/
def driedOf (time : Time) (final : Option FinalMC) (ch : ChargeRecord) : ChargeRecord :=
  { ch with state := .dried, dried := some time, finalMC := final }

theorem enterDone_eq {n : Nat} {ch : ChargeRecord} {new : Kiln} (hn : s.kilns[k].charge = some n) (hch : s.charge? n = some ch)
    (hnew : new = { s.kilns[k] with state := .done, conditionRemaining := none }) :
    enterDone k s = pollDue k .climate
      (reporting [(driedOf s.now (finalMC (activeMCs s.kilns[k].samples)) ch).report, new.report k .schedule]
        (({ s with
            kilns := s.kilns.set k new
            bus := s.bus.setLink k { s.bus.links[k] with scanTimer := none } } : State).modCharge n
              (driedOf s.now (finalMC (activeMCs s.kilns[k].samples))))) := by
  have hmod : (s.modKiln k fun c => { c with state := .done, conditionRemaining := none }) = { s with kilns := s.kilns.set k new } := by
    rw [hnew]
    rfl
  have hheld : ({ s with kilns := s.kilns.set k new } : State).kilns[k].charge = some n := by
    rw [kilns_set, hnew]
    exact hn
  have hchange := changeHeld_reporting (s := { s with kilns := s.kilns.set k new }) [] hheld hch
    (f := driedOf s.now (finalMC (activeMCs s.kilns[k].samples))) fun _ => rfl
  unfold enterDone
  simp only [hmod]
  refine congrArg (pollDue k .climate) ?_
  refine (congrArg (fun t => (reportKiln k .schedule t).modLink k fun l => { l with scanTimer := none }) hchange).trans ?_
  rw [Tables.reportKiln_reporting, reporting_modLink]
  have hkiln : (({ s with kilns := s.kilns.set k new } : State).modCharge n
      (driedOf s.now (finalMC (activeMCs s.kilns[k].samples)))).kilns[k] = new := kilns_set k new s
  rw [hkiln]
  rfl

/-- A kiln on entering CONDITION (R68). -/
def conditioned (d : DryingRun) (c : Kiln) : Kiln :=
  { c with
    state := .condition
    conditionRemaining := some d.schedule.conditionDuration
    drying := some { d with depression := d.schedule.conditionDepression, stepElapsed := 0 } }

theorem enterCondition_eq (hd : s.kilns[k].drying = some d) {new : Kiln} (hnew : new = conditioned d s.kilns[k]) {t : State}
    (ht : t = reporting [new.report k .schedule] { s with kilns := s.kilns.set k new }) :
    enterCondition k s = if d.schedule.conditionDuration = 0 then enterDone k t else t := by
  have hmod : (s.modKiln k fun c =>
      { c with
        state := .condition
        conditionRemaining := some d.schedule.conditionDuration
        drying := c.drying.map fun d => { d with depression := d.schedule.conditionDepression, stepElapsed := 0 } }) =
        { s with kilns := s.kilns.set k new } := by
    simp only [State.modKiln, vmod, hnew, conditioned, hd, Option.map_some]
  simp only [enterCondition, hd]
  rw [hmod, reportKiln_eq, kilns_set, ← ht]

/-! ## The parts of the minute (R62) -/

/-- The minute behind ageing, ramp and counts: the tests, each made in the states that make it. -/
def minuteTests (k : Fin 6) (s : State) : State :=
  let s := inStates k (fun st => decide (st = .run)) (testOvertime k) s
  let s := inStates k (fun st => decide (st = .run)) (testTimeLeave k) s
  let s := inStates k KilnState.running (countDeviation k) s
  inStates k (fun st => decide (st = .condition)) (countCondition k) s

theorem minuteTick_of_running {x : Kiln} (hrun : s.kilns[k].state.running = true)
    (hx : x = { s.kilns[k].aged with drying := s.kilns[k].drying.map (DryingRun.minute k) }) :
    minuteTick k s = minuteTests k { s with kilns := s.kilns.set k x } := by
  have hbase : inStates k KilnState.running (State.modDrying k (DryingRun.minute k)) (s.modKiln k Kiln.aged) =
      { s with kilns := s.kilns.set k x } := by
    have hstate : (s.modKiln k Kiln.aged).kilns[k].state = s.kilns[k].state :=
      (congrArg Kiln.state (kilns_modKiln k Kiln.aged s)).trans rfl
    rw [inStates, hstate, if_pos hrun, State.modDrying, modKiln_modKiln, hx]
    rfl
  exact congrArg (minuteTests k) hbase

theorem inStates_of_test {test : KilnState → Bool} {st : KilnState} (hst : s.kilns[k].state = st) (h : test st = true)
    (f : State → State) : inStates k test f s = f s := by
  rw [inStates, hst, if_pos h]

theorem inStates_of_not {test : KilnState → Bool} {st : KilnState} (hst : s.kilns[k].state = st) (h : test st = false)
    (f : State → State) : inStates k test f s = s := by
  rw [inStates, hst, h]
  rfl

/-- A kiln that is held or parked makes no test (log entry 10). -/
theorem minuteTests_of_held (h : s.kilns[k].state.held = true) :
    inStates k (fun st => decide (st = .condition)) (countCondition k)
      (inStates k KilnState.running (countDeviation k)
        (inStates k (fun st => decide (st = .run)) (testTimeLeave k) s)) = s := by
  cases hst : s.kilns[k].state with
  | hold => rw [inStates_of_not hst rfl, inStates_of_not hst rfl, inStates_of_not hst rfl]
  | park => rw [inStates_of_not hst rfl, inStates_of_not hst rfl, inStates_of_not hst rfl]
  | idle | loaded | run | equalise | condition | done =>
    rw [hst] at h
    cases h

theorem minuteTests_of_run (h : s.kilns[k].state = .run) : minuteTests k s =
    inStates k (fun st => decide (st = .condition)) (countCondition k)
      (inStates k KilnState.running (countDeviation k)
        (inStates k (fun st => decide (st = .run)) (testTimeLeave k) (testOvertime k s))) := by
  rw [minuteTests, inStates_of_test h rfl]

theorem minuteTests_of_equalise (h : s.kilns[k].state = .equalise) : minuteTests k s =
    inStates k (fun st => decide (st = .condition)) (countCondition k) (countDeviation k s) := by
  simp only [minuteTests]
  rw [inStates_of_not h rfl, inStates_of_not h rfl, inStates_of_test h rfl]

/-! ## Overtime and the leave of a TIME step (R63) -/

theorem testOvertime_of_none {st : ScheduleStep} (hd : s.kilns[k].drying = some d) (hst : d.step? = some st)
    (h : d.overtimeReported = true ∨ ∀ m, st.maxDuration = some m → d.stepElapsed < m) : testOvertime k s = s := by
  simp only [testOvertime, hd, hst, Option.bind_some]
  cases hm : st.maxDuration with
  | none => rfl
  | some m =>
    refine if_neg ?_
    rintro ⟨hreported, hlate⟩
    obtain h | h := h
    · rw [h] at hreported
      cases hreported
    · exact absurd (h m hm) hlate.not_gt

theorem testOvertime_of_late {st : ScheduleStep} {m : Nat} {late : Kiln} (hd : s.kilns[k].drying = some d) (hst : d.step? = some st)
    (hreported : d.overtimeReported = false) (hm : st.maxDuration = some m) (hlate : m ≤ d.stepElapsed)
    (hkiln : late = { s.kilns[k] with drying := some { d with overtimeReported := true } }) :
    testOvertime k s = raise .stepOvertime (.kiln k) late.context { s with kilns := s.kilns.set k late } := by
  have hmod : s.modDrying k (fun d => { d with overtimeReported := true }) = { s with kilns := s.kilns.set k late } := by
    simp only [State.modDrying, State.modKiln, vmod, hd, hkiln, Option.map_some]
  simp only [testOvertime, hd, hst, Option.bind_some, hm]
  rw [if_pos ⟨hreported, hlate⟩, hmod, raiseKiln_eq, kilns_set]

theorem testTimeLeave_of_stays {st : ScheduleStep} (hd : s.kilns[k].drying = some d) (hst : d.step? = some st)
    (h : ∀ m, st.leave = .time m → d.stepElapsed < m) : testTimeLeave k s = s := by
  simp only [testTimeLeave, hd, hst]
  cases hleave : st.leave with
  | mc t => rfl
  | time m => exact if_neg (h m hleave).not_ge

theorem testTimeLeave_of_leaves {st : ScheduleStep} {m : Nat} (hd : s.kilns[k].drying = some d) (hst : d.step? = some st)
    (hleave : st.leave = .time m) (h : m ≤ d.stepElapsed) : testTimeLeave k s = advanceStep k .time s := by
  simp only [testTimeLeave, hd, hst, hleave]
  exact if_pos h

/-! ## The deviation count (R78) -/

/-- The deviation count a minute leaves below its limit. -/
def deviationAfter (c : Kiln) (setpoint : Int) : Nat :=
  match c.measured with
  | some m => if m.stale then c.deviation
    else if c.config.deviationBand < (m.dryBulb - setpoint).natAbs then c.deviation + 1 else 0
  | none => c.deviation

theorem countDeviation_of_within (hc : s.kilns[k] = c) (hd : c.drying = some d) (h : c.deviation + 1 < c.config.deviationLimit) :
    countDeviation k s = { s with kilns := s.kilns.set k { c with deviation := deviationAfter c d.setpoint } } := by
  have hself : { s with kilns := s.kilns.set k { c with deviation := c.deviation } } = s := set_kilns_self hc
  obtain hm | ⟨m, hm⟩ := Option.eq_none_or_eq_some c.measured
  · have hdev : deviationAfter c d.setpoint = c.deviation := by simp only [deviationAfter, hm]
    have hcount : countDeviation k s = s := by simp only [countDeviation, hc, hm]
    rw [hcount, hdev, hself]
  · by_cases hstale : m.stale = true
    · have hdev : deviationAfter c d.setpoint = c.deviation := by simp only [deviationAfter, hm, hstale, if_true]
      have hcount : countDeviation k s = s := by simp only [countDeviation, hc, hm, hd, hstale, if_true]
      rw [hcount, hdev, hself]
    · by_cases hapart : c.config.deviationBand < (m.dryBulb - d.setpoint).natAbs
      · have hdev : deviationAfter c d.setpoint = c.deviation + 1 := by
          simp only [deviationAfter, hm]
          rw [if_neg hstale, if_pos hapart]
        have hcount : countDeviation k s = s.modKiln k fun c => { c with deviation := c.deviation + 1 } := by
          have hapart' : c.config.deviationBand < apart m.dryBulb d.setpoint := hapart
          simp only [countDeviation, hc, hm, hd]
          rw [if_neg hstale, if_pos hapart', if_neg h.not_ge]
        rw [hcount, hdev, State.modKiln, vmod, hc]
      · have hdev : deviationAfter c d.setpoint = 0 := by
          simp only [deviationAfter, hm]
          rw [if_neg hstale, if_neg hapart]
        have hcount : countDeviation k s = s.modKiln k fun c => { c with deviation := 0 } := by
          have hapart' : ¬ c.config.deviationBand < apart m.dryBulb d.setpoint := hapart
          simp only [countDeviation, hc, hm, hd]
          rw [if_neg hstale, if_neg hapart']
        rw [hcount, hdev, State.modKiln, vmod, hc]

theorem countDeviation_of_quiet (h : ∀ m, s.kilns[k].measured = some m → m.stale = true) : countDeviation k s = s := by
  cases hm : s.kilns[k].measured with
  | none => simp only [countDeviation, hm]
  | some m =>
    simp only [countDeviation, hm]
    cases s.kilns[k].drying with
    | none => rfl
    | some d => exact if_pos (h m hm)

theorem countDeviation_of_limit {m : Measured} {x : Kiln} (hc : s.kilns[k] = c) (hd : c.drying = some d) (hm : c.measured = some m)
    (hstale : m.stale = false) (hapart : c.config.deviationBand < (m.dryBulb - d.setpoint).natAbs)
    (hlimit : c.config.deviationLimit ≤ c.deviation + 1) (hx : x = { c with deviation := 0 }) :
    countDeviation k s = raise .climateDeviation (.kiln k) x.context { s with kilns := s.kilns.set k x } := by
  have hapart' : c.config.deviationBand < apart m.dryBulb d.setpoint := hapart
  have hmod : (s.modKiln k fun c => { c with deviation := 0 }) = { s with kilns := s.kilns.set k x } := by
    rw [State.modKiln, vmod, hc, hx]
  simp only [countDeviation, hc, hm, hd]
  rw [if_neg (by rw [hstale]; decide), if_pos hapart', if_pos hlimit, hmod, raiseKiln_eq, kilns_set]

end Sys2Proof.Proofs.Phases
end

section
/-!
One minute of a running kiln (R62, R63, R65, R67 to R69, R77, R78).
-/
namespace Sys2Proof.Proofs.Minutes
open Sys2Proof.Machine Sys2Proof.Proofs.Answers Sys2Proof.Proofs.Reporting Sys2Proof.Proofs.KilnEvents Sys2Proof.Proofs.Phases
set_option Elab.async false

variable {s : State} {k : Fin 6} {c x : Kiln} {d d' : DryingRun}

/-! ## The tests of a kiln whose context is given -/

/-- RUN, no overtime, and the step goes on. -/
theorem minuteTests_of_goesOn {st : ScheduleStep} (hx : s.kilns[k] = x) (hrun : x.state = .run) (hd : x.drying = some d)
    (hst : d.step? = some st) (hovertime : d.overtimeReported = true ∨ ∀ m, st.maxDuration = some m → d.stepElapsed < m)
    (hleave : ∀ m, st.leave = .time m → d.stepElapsed < m) (hlimit : x.deviation + 1 < x.config.deviationLimit) :
    minuteTests k s = { s with kilns := s.kilns.set k { x with deviation := deviationAfter x d.setpoint } } := by
  have hdry : s.kilns[k].drying = some d := hx ▸ hd
  have hstate : s.kilns[k].state = .run := hx ▸ hrun
  rw [minuteTests_of_run hstate, testOvertime_of_none hdry hst hovertime, inStates_of_test hstate rfl,
    testTimeLeave_of_stays hdry hst hleave, inStates_of_test hstate rfl, countDeviation_of_within hx hd hlimit]
  refine inStates_of_not (st := .run) ?_ rfl _
  rw [kilns_set]
  exact hrun

/-- What the deviation count and the countdown make of a kiln behind reports. -/
theorem countDeviation_reporting (reports : List Report) (hd : x.drying = some d)
    (hlimit : x.deviation + 1 < x.config.deviationLimit) :
    countDeviation k (reporting reports { s with kilns := s.kilns.set k x }) =
      reporting reports { s with kilns := s.kilns.set k { x with deviation := deviationAfter x d.setpoint } } := by
  have hx : (reporting reports { s with kilns := s.kilns.set k x }).kilns[k] = x := by
    rw [reporting_kilns, kilns_set]
  rw [countDeviation_of_within hx hd hlimit, reporting_kilns, reporting_set_kilns]
  simp only [Vector.set_set]

/-- RUN, and the TIME step is left for the state `t` that the advance makes. -/
theorem minuteTests_of_leaves {st : ScheduleStep} {m : Nat} {t : State} {next : KilnState} (hx : s.kilns[k] = x) (hrun : x.state = .run)
    (hd : x.drying = some d) (hst : d.step? = some st)
    (hovertime : d.overtimeReported = true ∨ ∀ m, st.maxDuration = some m → d.stepElapsed < m) (hleave : st.leave = .time m)
    (hlate : m ≤ d.stepElapsed) (ht : countDeviation k (advanceStep k .time s) = t)
    (hnext : (advanceStep k .time s).kilns[k].state = next) (hrunning : next.running = true) (htstate : t.kilns[k].state = next)
    (hcondition : next ≠ .condition) : minuteTests k s = t := by
  have hdry : s.kilns[k].drying = some d := hx ▸ hd
  have hstate : s.kilns[k].state = .run := hx ▸ hrun
  rw [minuteTests_of_run hstate, testOvertime_of_none hdry hst hovertime, inStates_of_test hstate rfl,
    testTimeLeave_of_leaves hdry hst hleave hlate, inStates_of_test hnext hrunning, ht]
  exact inStates_of_not htstate (decide_eq_false hcondition) _

/-- A raise of a kiln kind leaves the kiln as it is, or held or parked. -/
theorem raise_kiln_or_held {kind : FaultKind} (hkind : kind ≠ .supervisionExpired) {context : FaultContext} {ph : Phase}
    (hphase : s.kilns[k].state = ph.state) : (raise kind (.kiln k) context s).kilns[k] = s.kilns[k] ∨
      (raise kind (.kiln k) context s).kilns[k].state.held = true := by
  cases hmask : s.faults.kinds[kind.index].masked with
  | true => exact .inl (by rw [raise_masked hmask])
  | false =>
    rw [Raises.raise_kiln_acted hmask hkind rfl rfl (.inl rfl), Raises.actedOn]
    split
    case h_1 how _ =>
      refine .inr ?_
      rw [caused_of_phase _ _ hphase]
      cases how <;> rfl
    case h_2 => exact .inl rfl

/-- RUN and overtime: what follows the raise, where the kiln is held or nothing else is due. -/
theorem minuteTests_of_overtime {st : ScheduleStep} {m : Nat} {late : Kiln} {u : State} (hx : s.kilns[k] = x) (hrun : x.state = .run)
    (hd : x.drying = some d) (hst : d.step? = some st) (hreported : d.overtimeReported = false) (hm : st.maxDuration = some m)
    (hlate : m ≤ d.stepElapsed) (hkiln : late = { x with drying := some { d with overtimeReported := true } })
    (hu : u = raise .stepOvertime (.kiln k) late.context { s with kilns := s.kilns.set k late })
    (hrest : u.kilns[k].state.held = true ∨
      ((∀ m, x.measured = some m → m.stale = true) ∧ ∃ t, st.leave = .mc t)) : minuteTests k s = u := by
  have hdry : s.kilns[k].drying = some d := hx ▸ hd
  have hstate : s.kilns[k].state = .run := hx ▸ hrun
  have hlatest : late.state = .run := by rw [hkiln]; exact hrun
  rw [minuteTests_of_run hstate, testOvertime_of_late (late := late) hdry hst hreported hm hlate (by rw [hx]; exact hkiln), ← hu]
  obtain hsame | hheld := raise_kiln_or_held (s := { s with kilns := s.kilns.set k late }) (k := k) (kind := .stepOvertime) (ph := .run)
    (by decide) (context := late.context) (by rw [kilns_set]; exact hlatest)
  · obtain hheld | ⟨hquiet, t, hleave⟩ := hrest
    · exact minuteTests_of_held hheld
    · have hul : u.kilns[k] = late := by rw [hu, hsame, kilns_set]
      have hurun : u.kilns[k].state = .run := by rw [hul, hlatest]
      have hudry : u.kilns[k].drying = some { d with overtimeReported := true } := by rw [hul, hkiln]
      have humeasured : ∀ m, u.kilns[k].measured = some m → m.stale = true := by
        rw [hul, hkiln]
        exact hquiet
      rw [inStates_of_test hurun rfl, testTimeLeave_of_stays (st := st) hudry hst, inStates_of_test hurun rfl,
        countDeviation_of_quiet humeasured, inStates_of_not hurun rfl]
      intro m hm
      rw [hleave] at hm
      cases hm
  · refine minuteTests_of_held ?_
    rw [hu]
    exact hheld

/-- The deviation limit reached in RUN or EQUALISE, with no leave by time and no maximum duration. -/
theorem minuteTests_of_limit {m : Measured} {new : Kiln} (hx : s.kilns[k] = x) (hd : x.drying = some d)
    (hm : x.measured = some m) (hstale : m.stale = false) (hapart : x.config.deviationBand < (m.dryBulb - d.setpoint).natAbs)
    (hlimit : x.config.deviationLimit ≤ x.deviation + 1)
    (hstate : x.state = .equalise ∨
      (x.state = .run ∧ ∃ st t, d.step? = some st ∧ st.leave = .mc t ∧ st.maxDuration = none))
    (hnew : new = { x with deviation := 0 }) :
    minuteTests k s = raise .climateDeviation (.kiln k) new.context { s with kilns := s.kilns.set k new } := by
  have hcount := countDeviation_of_limit hx hd hm hstale hapart hlimit hnew
  have hends {ph : Phase} (hphase : x.state = ph.state) (hcondition : ph.state ≠ .condition) :
      inStates k (fun st => decide (st = .condition)) (countCondition k) (countDeviation k s) = countDeviation k s := by
    have hkiln : ({ s with kilns := s.kilns.set k new } : State).kilns[k] = new := kilns_set k new s
    have hnewphase : new.state = ph.state := by rw [hnew]; exact hphase
    rw [hcount]
    obtain hsame | hheld := raise_kiln_or_held (s := { s with kilns := s.kilns.set k new }) (k := k) (kind := .climateDeviation)
      (by decide) (context := new.context) (by rw [hkiln]; exact hnewphase)
    · refine inStates_of_not (st := ph.state) (by rw [hsame, hkiln, hnewphase]) (decide_eq_false hcondition) _
    · generalize raise FaultKind.climateDeviation (.kiln k) new.context { s with kilns := s.kilns.set k new } = u at hheld
      cases hst : u.kilns[k].state with
      | hold | park => exact inStates_of_not hst rfl _
      | idle | loaded | run | equalise | condition | done =>
        rw [hst] at hheld
        cases hheld
  obtain hequalise | ⟨hrun, st, t, hst, hleave, hnone⟩ := hstate
  · rw [minuteTests_of_equalise (hx ▸ hequalise), hends (ph := .equalise) hequalise (by decide), hcount]
  · have hstate : s.kilns[k].state = .run := hx ▸ hrun
    have hdry : s.kilns[k].drying = some d := hx ▸ hd
    rw [minuteTests_of_run hstate, testOvertime_of_none hdry hst (.inr fun m hm => by rw [hnone] at hm; cases hm),
      inStates_of_test hstate rfl, testTimeLeave_of_stays hdry hst, inStates_of_test hstate rfl,
      hends (ph := .run) hrun (by decide), hcount]
    intro m hm
    rw [hleave] at hm
    cases hm

/-- A kiln in CONDITION with no climate to compare makes its countdown alone. -/
theorem minuteTests_of_condition (hx : s.kilns[k] = x) (hstate : x.state = .condition)
    (hquiet : ∀ m, x.measured = some m → m.stale = true) : minuteTests k s = countCondition k s := by
  have hcondition : s.kilns[k].state = .condition := hx ▸ hstate
  simp only [minuteTests]
  rw [inStates_of_not hcondition rfl, inStates_of_not hcondition rfl, inStates_of_test hcondition rfl,
    countDeviation_of_quiet (by rw [hx]; exact hquiet), inStates_of_test hcondition rfl]

/-! ## The minute whole -/

theorem ramp_eq (rate : Nat) (target setpoint : Int) : ramp rate target setpoint =
    if setpoint < target then min target (setpoint + rate)
    else if target < setpoint then max target (setpoint - rate) else setpoint := rfl

theorem minute_of_below {d : DryingRun} (h : d.totalElapsed < 4294967295) : d.minute k = { d with
    setpoint :=
      if d.setpoint < d.stepTarget then min d.stepTarget (d.setpoint + d.schedule.rampRate)
      else if d.stepTarget < d.setpoint then max d.stepTarget (d.setpoint - d.schedule.rampRate) else d.setpoint
    stepElapsed := min 65535 (d.stepElapsed + 1), totalElapsed := d.totalElapsed + 1 } := by
  rw [DryingRun.minute, raiseTotal, if_pos h, ramp_eq]

theorem quiet_iff {measured : Option Measured} (h : measured = c.measured.map fun m => { m with age := min 65535 (m.age + 1) }) :
    (∀ m, measured = some m → m.stale = true) ↔ ∀ m, c.measured = some m → m.stale = true := by
  subst h
  cases c.measured with
  | none => simp
  | some m => simp

/-- A kiln at the head of its minute: aged, ramped and counted. -/
theorem minuteTick_eq {measured : Option Measured} (hc : s.kilns[k] = c) (hd : c.drying = some d) (hrun : c.state.running = true)
    (htotal : d.totalElapsed < 4294967295) (hd' : d' = { d with
      setpoint :=
        if d.setpoint < d.stepTarget then min d.stepTarget (d.setpoint + d.schedule.rampRate)
        else if d.stepTarget < d.setpoint then max d.stepTarget (d.setpoint - d.schedule.rampRate) else d.setpoint
      stepElapsed := min 65535 (d.stepElapsed + 1), totalElapsed := d.totalElapsed + 1 })
    (hmeasured : measured = c.measured.map fun m => { m with age := min 65535 (m.age + 1) })
    (hx : x = { c with drying := some d', measured := measured }) :
    minuteTick k s = minuteTests k { s with kilns := s.kilns.set k x } := by
  refine minuteTick_of_running (by rw [hc]; exact hrun) ?_
  rw [hc, hd, Option.map_some, minute_of_below htotal, ← hd', hx, hmeasured]
  rfl

/-- The advance of a kiln that leaves its TIME step for the next one, and the deviation count behind it. -/
theorem leave_for_next {st : ScheduleStep} (hx : s.kilns[k] = x) (hd : x.drying = some d)
    (hst : d.schedule.steps[d.stepIndex + 1]? = some st) (hrun : x.state = .run)
    (hlimit : x.deviation + 1 < x.config.deviationLimit) (hd' : d' = { d with
      stepIndex := d.stepIndex + 1, stepElapsed := 0, overtimeReported := false, stepTarget := st.target
      depression := st.depression }) :
    (advanceStep k .time s).kilns[k].state = .run ∧ countDeviation k (advanceStep k .time s) =
      reporting [.kilnStep k x.charge (some (d.stepIndex + 1)) .time x.figures.controlling d.totalElapsed]
        { s with kilns := s.kilns.set k { x with drying := some d', deviation := deviationAfter x d.setpoint } } := by
  have hadvance := KilnRequests.advanceStep_of_next (s := s) (k := k) .time (hx ▸ hd) hst hd'
  rw [hx] at hadvance
  rw [hadvance, reporting_kilns, kilns_set]
  refine ⟨hrun, (countDeviation_reporting (x := { x with drying := some d' }) _ rfl hlimit).trans ?_⟩
  rw [hd']
  rfl

/-- The advance of a kiln that leaves its last TIME step for EQUALISE, and the deviation count behind it. -/
theorem leave_for_equalise {e : Kiln} (hx : s.kilns[k] = x) (hd : x.drying = some d)
    (hst : d.schedule.steps[d.stepIndex + 1]? = none) (hlimit : x.deviation + 1 < x.config.deviationLimit)
    (he : e = { x with
      state := .equalise, drying := some { d with stepElapsed := 0, depression := d.schedule.equaliseDepression }
      deviation := deviationAfter x d.setpoint }) :
    (advanceStep k .time s).kilns[k].state = .equalise ∧ countDeviation k (advanceStep k .time s) =
      reporting [.kilnStep k x.charge none .time x.figures.controlling d.totalElapsed, e.report k .schedule]
        { s with kilns := s.kilns.set k e } := by
  have hadvance := KilnRequests.advanceStep_of_last (s := s) (k := k) .time (hx ▸ hd) hst rfl
  rw [hx] at hadvance
  rw [hadvance, reporting_kilns, kilns_set]
  refine ⟨rfl, (countDeviation_reporting (x := { x with
    state := .equalise, drying := some { d with stepElapsed := 0, depression := d.schedule.equaliseDepression } }) _ rfl hlimit).trans ?_⟩
  rw [he]
  rfl

theorem countCondition_of_some {n : Nat} (hx : s.kilns[k] = x) (hn : x.conditionRemaining = some n) {t : State}
    (ht : t = { s with kilns := s.kilns.set k { x with conditionRemaining := some (n - 1) } }) :
    countCondition k s = if n ≤ 1 then enterDone k t else t := by
  have hmod : (s.modKiln k fun c => { c with conditionRemaining := some (n - 1) }) = t := by
    rw [ht, State.modKiln, vmod, hx]
  simp only [countCondition, hx, hn, hmod]

/-- Settles O23. -/
theorem minuteOfARunningKiln : Obligations.MinuteOfARunningKiln := by
  intro s k c d d' hc hd htotal hd' measured quiet hmeasured hquiet
  have hquiet' : quiet → ∀ m, measured = some m → m.stale = true := fun h => (quiet_iff hmeasured).2 (hquiet.1 h)
  have hbegin (hrun : c.state.running = true) {x : Kiln} (hx : x = { c with drying := some d', measured := measured }) :
      minuteTick k s = minuteTests k { s with kilns := s.kilns.set k x } :=
    minuteTick_eq hc hd hrun htotal hd' hmeasured hx
  have hreported : d'.overtimeReported = d.overtimeReported := by rw [hd']
  have hsteps : d'.schedule.steps = d.schedule.steps := by rw [hd']
  have hindex : d'.stepIndex = d.stepIndex := by rw [hd']
  have htotal' : d'.totalElapsed = d.totalElapsed + 1 := by rw [hd']
  have hequalise : d'.schedule.equaliseDepression = d.schedule.equaliseDepression := by rw [hd']
  have hstep : d'.step? = d.schedule.steps[d.stepIndex]? := by rw [DryingRun.step?, hsteps, hindex]
  have hset (x y : Kiln) : ({ s with kilns := s.kilns.set k x } : State).kilns.set k y = s.kilns.set k y := Vector.set_set ..
  refine ⟨fun st hrun hst => ⟨fun hlimit hovertime final hfinal => ?_, fun m late u hfirst hm hlate hkiln hu hrest => ?_⟩,
    fun m x hm hstale hapart hlimit hstate hx => ?_, fun n x hcondition hn hq hx => ?_⟩
  · have hrunning : c.state.running = true := by rw [hrun]; rfl
    obtain ⟨x, hx⟩ : ∃ x, x = { c with drying := some d', measured := measured } := ⟨_, rfl⟩
    have hlimit' : x.deviation + 1 < x.config.deviationLimit := by rw [hx]; exact hlimit
    have hrun' : x.state = .run := by rw [hx]; exact hrun
    have hdry : x.drying = some d' := by rw [hx]
    have hovertime' : d'.overtimeReported = true ∨ ∀ m, st.maxDuration = some m → d'.stepElapsed < m := by rw [hreported]; exact hovertime
    have hfinal' (y : DryingRun) : final y = { x with drying := some y, deviation := deviationAfter x d'.setpoint } := by
      rw [hfinal, hx, hmeasured]
      obtain hm | ⟨m, hm⟩ := Option.eq_none_or_eq_some c.measured
      · simp only [deviationAfter, hm, Option.map_none]
      · simp only [deviationAfter, hm, Option.map_some]
    have hkiln := kilns_set k x s
    refine ⟨fun hstays => ?_, fun m hleave hlate => ⟨fun st' hst' => ?_, fun e hst' he => ?_⟩⟩
    · rw [hbegin hrunning hx, minuteTests_of_goesOn hkiln hrun' hdry (hstep.trans hst) hovertime' hstays hlimit', hfinal' d', ← hdry, hset]
    · obtain ⟨hnext, hcount⟩ := leave_for_next hkiln hdry (by rw [hsteps, hindex]; exact hst') hrun' hlimit' rfl
      rw [hbegin hrunning hx, minuteTests_of_leaves hkiln hrun' hdry (hstep.trans hst) hovertime' hleave hlate hcount hnext rfl
        (by rw [reporting_kilns]; exact (congrArg Kiln.state (kilns_set ..)).trans hrun') (by decide), hset, hfinal', hindex, htotal', hx]
      rfl
    · obtain ⟨hnext, hcount⟩ := leave_for_equalise (e := e) hkiln hdry (by rw [hsteps, hindex]; exact hst') hlimit'
        (by rw [he, hfinal', hequalise])
      rw [hbegin hrunning hx, minuteTests_of_leaves hkiln hrun' hdry (hstep.trans hst) hovertime' hleave hlate hcount hnext rfl
        (by rw [reporting_kilns]; exact (congrArg Kiln.state (kilns_set ..)).trans (by rw [he])) (by decide), hset, htotal', hx]
      rfl
  · obtain ⟨x, hx⟩ : ∃ x, x = { c with drying := some d', measured := measured } := ⟨_, rfl⟩
    have hrun' : x.state = .run := by rw [hx]; exact hrun
    have hdry : x.drying = some d' := by rw [hx]
    rw [hbegin (by rw [hrun]; rfl) hx]
    refine minuteTests_of_overtime (late := late) (kilns_set k x s) hrun' hdry (hstep.trans hst) (hreported.trans hfirst) hm hlate
      (by rw [hkiln, hx]) (by rw [hu, hset]) (hrest.imp_right fun ⟨hq, hleave⟩ => ⟨?_, hleave⟩)
    rw [hx]
    exact hquiet' hq
  · obtain ⟨y, hy⟩ : ∃ y, y = { c with drying := some d', measured := measured } := ⟨_, rfl⟩
    have hdry : y.drying = some d' := by rw [hy]
    have hrunning : c.state.running = true := by
      obtain h | ⟨h, -⟩ := hstate <;> rw [h] <;> rfl
    have hstate' : y.state = .equalise ∨
        (y.state = .run ∧ ∃ st t, d'.step? = some st ∧ st.leave = .mc t ∧ st.maxDuration = none) := by
      rw [hy, hstep]
      exact hstate
    have hym : y.measured = some { m with age := min 65535 (m.age + 1) } := by rw [hy, hmeasured, hm, Option.map_some]
    rw [hbegin hrunning hy, minuteTests_of_limit (new := x) (kilns_set k y s) hdry hym hstale (by rw [hy]; exact hapart) (by rw [hy]; exact hlimit)
      hstate' (by rw [hx, hy]), hset]
  · have hstate' : x.state = .condition := by rw [hx]; exact hcondition
    have hn' : x.conditionRemaining = some n := by rw [hx]; exact hn
    have hcount : minuteTick k s = if n ≤ 1 then enterDone k { s with kilns := s.kilns.set k { x with conditionRemaining := some (n - 1) } }
        else { s with kilns := s.kilns.set k { x with conditionRemaining := some (n - 1) } } := by
      rw [hbegin (by rw [hcondition]; rfl) hx,
        minuteTests_of_condition (kilns_set k x s) hstate' (by rw [hx]; exact hquiet' hq)]
      exact countCondition_of_some (kilns_set k x s) hn' (by simp only [hset])
    refine ⟨fun htwo => ?_, fun i ch dried new hone hcharge hch hdried hnew => ?_⟩
    · rw [hcount, if_neg (by omega)]
    · have hkiln := kilns_set k { x with conditionRemaining := some (n - 1) } s
      have hdone := enterDone_eq (s := { s with kilns := s.kilns.set k { x with conditionRemaining := some (n - 1) } }) (k := k) (n := i)
        (ch := ch) (new := new) (by rw [hkiln, hx]; exact hcharge) hch (by rw [hkiln, hnew])
      rw [hcount, if_pos hone, hdone, pollDue_reporting, pollDue_eq, hkiln, hset, hdried, hx]
      rfl

end Sys2Proof.Proofs.Minutes
end

section
/-!
The end of a poll (sections 5.4 to 5.7): the link settled, a raise of a kiln kind before or in it, and the climate poll that the raise
makes due.
-/
namespace Sys2Proof.Proofs.Polls
open Sys2Proof.Machine Sys2Proof.Proofs.Answers Sys2Proof.Proofs.Reporting Sys2Proof.Proofs.KilnEvents
set_option Elab.async false

variable {s t : State} {k : Fin 6} {p : CurrentPoll} {kind : FaultKind} {x : FaultContext}

/-! ## The bus behind a raise (R71, R75, R87) -/

theorem applyCause_bus (k : Fin 6) (how : HoldKind) (level : Nat) (cause : KilnCause) (s : State) :
    (applyCause k how level cause s).bus =
      if (s.kilns[k].caused how level).state = s.kilns[k].state then s.bus else s.bus.joined k .climate := by
  unfold applyCause
  dsimp only
  by_cases hstate : (s.kilns[k].caused how level).state = s.kilns[k].state
  · rw [if_pos hstate, if_pos hstate]
    split <;> rfl
  · rw [if_neg hstate, if_neg hstate, if_neg fun h => hstate h.1, pollDue_eq]
    rfl

/-- A raise of a kiln kind makes a climate poll due where it changes the state of its kiln. -/
theorem raise_kiln_bus (hkind : kind ≠ .supervisionExpired) (k : Fin 6) (x : FaultContext) (s : State) :
    (raise kind (.kiln k) x s).bus =
      if (raise kind (.kiln k) x s).kilns[k].state = s.kilns[k].state then s.bus else s.bus.joined k .climate := by
  cases hmask : s.faults.kinds[kind.index].masked with
  | true => rw [raise_masked hmask, if_pos rfl]
  | false =>
    rw [Raises.raise_kiln_acted hmask hkind rfl rfl (.inl rfl), Raises.raise_of_unmasked hmask hkind]
    unfold applyActions Raises.actedOn
    generalize s.faults.actions[s.faults.kinds[kind.index].severity.index] = a
    have htrip (b : Bool) (u : State) : (if b then trip .fault u else u).bus = u.bus := by
      cases b
      · rfl
      · exact Machine.trip_bus _ _
    simp only [htrip]
    cases a.kilnCause with
    | none =>
      simp only [if_true]
      cases a.report <;> rfl
    | some how =>
      refine (applyCause_bus k how _ .fault _).trans ?_
      cases a.report <;> rfl

/-- A state with another bus. -/
def withBus (b : Bus) (s : State) : State := { s with bus := b }

/-- Two states that agree outside the bus. -/
def offBus (s t : State) : Prop := ∃ b, t = withBus b s

theorem offBus_withBus (b : Bus) (s : State) : offBus s (withBus b s) := ⟨b, rfl⟩

theorem withBus_eq (h : offBus s t) (b : Bus) : withBus b t = withBus b s := by
  obtain ⟨b', rfl⟩ := h
  rfl

theorem queueReport_offBus (h : offBus s t) (r : Report) : offBus (queueReport r s) (queueReport r t) := by
  obtain ⟨b, rfl⟩ := h
  exact ⟨b, rfl⟩

theorem pollDue_offBus (h : offBus s t) (k : Fin 6) (kind : PollKind) : offBus (pollDue k kind s) (pollDue k kind t) := by
  obtain ⟨b, rfl⟩ := h
  rw [pollDue_eq, pollDue_eq]
  exact ⟨_, rfl⟩

theorem applyCause_offBus (h : offBus s t) (k : Fin 6) (how : HoldKind) (level : Nat) (cause : KilnCause) :
    offBus (applyCause k how level cause s) (applyCause k how level cause t) := by
  obtain ⟨b, rfl⟩ := h
  have hkilns : (withBus b s).kilns = s.kilns := rfl
  unfold applyCause
  dsimp only
  rw [hkilns]
  split
  · exact ⟨b, rfl⟩
  split
  · exact ⟨b, rfl⟩
  · exact pollDue_offBus (s := reportKiln k cause (s.modKiln k fun _ => s.kilns[k].caused how level)) ⟨b, rfl⟩ k .climate

theorem applyCauses_offBus (h : offBus s t) (how : HoldKind) (level : Nat) (cause : KilnCause) (ks : List (Fin 6)) :
    offBus (applyCauses how level cause ks s) (applyCauses how level cause ks t) := by
  induction ks generalizing s t with
  | nil => exact h
  | cons k ks ih => exact ih (applyCause_offBus h k how level cause)

theorem trip_offBus (h : offBus s t) (cause : LineCause) : offBus (trip cause s) (trip cause t) := by
  obtain ⟨b, rfl⟩ := h
  have hline : (withBus b s).line = s.line := rfl
  unfold trip
  rw [hline]
  split <;> exact ⟨b, rfl⟩

theorem ite_offBus {u v : State} (b : Bool) (hs : offBus s t) (hu : offBus u v) :
    offBus (if b then s else u) (if b then t else v) := by
  cases b
  · exact hu
  · exact hs

theorem applyActions_offBus (h : offBus s t) (d : Domain) (r : FaultRecord) (log : DomainLog × Placement) (a : ActionSet) :
    offBus (applyActions d r log a s) (applyActions d r log a t) := by
  unfold applyActions
  dsimp only
  have hreport := ite_offBus a.report
    (queueReport_offBus h (.fault d r log.2 log.1.counter log.1.overflow a)) h
  cases a.kilnCause with
  | none => exact ite_offBus a.stopLine (trip_offBus hreport .fault) hreport
  | some how =>
    have hcauses := applyCauses_offBus hreport how r.severity.level .fault d.kilns
    exact ite_offBus a.stopLine (trip_offBus hcauses .fault) hcauses

/-- What a raise does outside the bus does not depend on the bus. -/
theorem raise_offBus (h : offBus s t) (kind : FaultKind) (d : Domain) (x : FaultContext) :
    offBus (raise kind d x s) (raise kind d x t) := by
  obtain ⟨b, rfl⟩ := h
  cases hmask : s.faults.kinds[kind.index].masked with
  | true =>
    rw [raise_masked hmask, raise_masked (s := withBus b s) hmask]
    exact ⟨b, rfl⟩
  | false =>
    by_cases hkind : kind = .supervisionExpired
    · subst hkind
      rw [Raises.raise_supervisionExpired hmask, Raises.raise_supervisionExpired (s := withBus b s) hmask]
      exact ⟨b, rfl⟩
    · rw [Raises.raise_of_unmasked hmask hkind, Raises.raise_of_unmasked (s := withBus b s) hmask hkind]
      exact applyActions_offBus ⟨b, rfl⟩ ..

/-! ## A poll that ends -/

/-- MODULE-RESTORED of a poll that settles a lost link (R93). -/
def restoredReports (k : Fin 6) (p : CurrentPoll) (s : State) : List Report :=
  if s.bus.links[k].link = .lost then [.moduleRestored k p.address p.entry.kind] else []

/-- A good poll of a kiln that still has the address settles the link (R93). -/
theorem endPoll_good (hk : p.entry.kiln = k) (haddress : s.kilns[k].config.address = p.address) :
    endPoll true p s = reporting (restoredReports k p s)
      { s with bus := ({ s.bus with current := none } : Bus).setLink k s.bus.links[k].good } := by
  subst hk
  unfold endPoll settleGood restoredReports
  rw [if_pos rfl, if_neg (not_not.2 haddress)]
  dsimp only
  split <;> rfl

/-- A poll of a kiln that has another address now settles nothing (R95). -/
theorem endPoll_moved (good : Bool) (hk : p.entry.kiln = k) (haddress : s.kilns[k].config.address ≠ p.address) :
    endPoll good p s = { s with bus := { s.bus with current := none } } := by
  subst hk
  unfold endPoll settleGood settleFailed
  rw [if_pos haddress, if_pos haddress, ite_self]
  rfl

theorem joined_setLink (k : Fin 6) (kind : PollKind) {l : KilnLink} {b : Bus} (h : l.mark = b.links[k].mark) :
    ({ b.joined k kind with current := none } : Bus).setLink k l = (({ b with current := none } : Bus).setLink k l).joined k kind := by
  have hmark : (b.links.set k l)[k].mark = b.links[k].mark := (congrArg KilnLink.mark (Vector.getElem_set_self k.isLt)).trans h
  unfold Bus.joined Bus.setLink
  dsimp only
  by_cases hany : (b.pendingPolls.any fun e => decide (e.kiln = k) && decide (e.kind = kind)) = true
  · rw [if_pos hany, if_pos hany]
  · rw [if_neg hany, if_neg hany, hmark]

theorem joined_links (k : Fin 6) (kind : PollKind) (b : Bus) : (b.joined k kind).links = b.links := by
  unfold Bus.joined
  split <;> rfl

/-- The list served where one climate poll may have fallen due on a free bus. -/
theorem serve_raisedBus {changed : Prop} [Decidable changed] {b : Bus} (hempty : b.pendingPolls = [])
    (h : s.bus = if changed then b.joined k .climate else b) :
    serve s = { s with bus := if changed then b.climateJoined k s.kilns[k] else b } := by
  by_cases hchanged : changed
  · rw [if_pos hchanged] at h ⊢
    have hs : s = pollDue k .climate { s with bus := b } := by
      rw [pollDue_eq]
      exact congrArg (fun b => { s with bus := b }) h
    refine (congrArg serve hs).trans ?_
    exact serve_climate (s := { s with bus := b }) (fun _ => hempty) k
  · rw [if_neg hchanged] at h ⊢
    rw [← h]
    exact serve_of_settled fun _ => by rw [h]; exact hempty

/-- A good poll that ends behind a raise of its kiln's domain, and the service of the list. -/
theorem serve_endPoll_good {changed : Prop} [Decidable changed] {b : Bus} (hk : p.entry.kiln = k)
    (haddress : s.kilns[k].config.address = p.address) (hempty : b.pendingPolls = [])
    (h : s.bus = if changed then b.joined k .climate else b) {b' : Bus}
    (hb' : b' = ({ b with current := none } : Bus).setLink k b.links[k].good) :
    serve (endPoll true p s) = reporting (if b.links[k].link = .lost then [.moduleRestored k p.address p.entry.kind] else [])
      { s with bus := if changed then b'.climateJoined k s.kilns[k] else b' } := by
  have hlinks : s.bus.links = b.links := by
    rw [h]
    split
    · exact joined_links ..
    · rfl
  have hbus : ({ s.bus with current := none } : Bus).setLink k s.bus.links[k].good = if changed then b'.joined k .climate else b' := by
    rw [hlinks, h, hb']
    split
    · exact joined_setLink k .climate rfl
    · rfl
  have hempty' : b'.pendingPolls = [] := by rw [hb']; exact hempty
  rw [endPoll_good hk haddress, serve_reporting]
  · have hreports : restoredReports k p s = if b.links[k].link = .lost then [.moduleRestored k p.address p.entry.kind] else [] := by
      rw [restoredReports, hlinks]
    rw [hreports]
    exact congrArg _ (serve_raisedBus (s := { s with bus := _ }) hempty' hbus)
  · intro _ e rest hpolls
    have hpolls' : (if changed then b'.joined k .climate else b').pendingPolls = e :: rest := hbus ▸ hpolls
    split at hpolls'
    · simp only [Bus.joined, hempty', List.any_nil, Bool.false_eq_true, if_false, List.nil_append] at hpolls'
      obtain ⟨rfl, -⟩ := List.cons.inj hpolls'
      rfl
    · rw [hempty'] at hpolls'
      cases hpolls'

/-- A good poll that ends with nothing due, and the service of the empty list. -/
theorem serve_endPoll_quiet (hk : p.entry.kiln = k) (haddress : s.kilns[k].config.address = p.address)
    (hempty : s.bus.pendingPolls = []) {b : Bus} (hb : b = ({ s.bus with current := none } : Bus).setLink k s.bus.links[k].good) :
    serve (endPoll true p s) =
      reporting (if s.bus.links[k].link = .lost then [.moduleRestored k p.address p.entry.kind] else []) { s with bus := b } :=
  serve_endPoll_good (changed := False) hk haddress hempty rfl hb

theorem caused_config (how : HoldKind) (level : Nat) (c : Kiln) : (c.caused how level).config = c.config := by
  unfold Kiln.caused
  dsimp only
  split <;> rfl

theorem raise_kiln_config (hkind : kind ≠ .supervisionExpired) (d : Domain) (x : FaultContext) (s : State) (k : Fin 6) :
    (raise kind d x s).kilns[k].config = s.kilns[k].config := by
  cases hmask : s.faults.kinds[kind.index].masked with
  | true => rw [raise_masked hmask]
  | false =>
    rw [Raises.raise_kiln hmask hkind, Raises.actedOn]
    split
    · split
      · exact caused_config ..
      · rfl
    · rfl

/-! ## The climate exchange (R76, R79, R93 to R95) -/

theorem measure_eq (c : Kiln) (dry wet : Int) (status : Byte) : c.measure dry wet status = { c with
    measured := some ⟨dry, wet, status, 0, false⟩
    deviation := match c.drying with
      | some d => if c.state.running = true ∧ (dry - d.setpoint).natAbs ≤ c.config.deviationBand then 0 else c.deviation
      | none => c.deviation } := by
  unfold Kiln.measure
  cases c.drying <;> rfl

theorem overheated_of {c : Kiln} {dry : Int} (h : (c.state ≠ .idle ∧ 1250 < dry) ∨
    (c.state ≠ .idle ∧ c.state ≠ .loaded ∧ ∃ d, c.drying = some d ∧ d.setpoint + 150 < dry)) : c.overheated dry = true := by
  unfold Kiln.overheated
  cases hstate : c.state with
  | idle => simp [hstate] at h
  | loaded => simpa [hstate] using h
  | run | equalise | condition | hold | park | done =>
    obtain ⟨-, h⟩ | ⟨-, -, d, hd, h⟩ := h
    · simp [h]
    · simp [hd, h]

theorem climateDone_eq {command : ModuleCommand} (hcurrent : s.bus.current = some p) (hwork : p.work = .climate command)
    (hk : p.entry.kiln = k) (dry wet : Int) (status : Byte) : climateDone dry wet status s =
      serve (endPoll true p (if s.bus.links[k].mark = p.entry.mark ∧ s.kilns[k].config.address = p.address
        then deliverClimate k dry wet status s else s)) := by
  subst hk
  simp only [climateDone, hcurrent, hwork, Bool.and_eq_true, decide_eq_true_eq]

/-- Settles O26. -/
theorem climateExchangeSettlesThePoll : Obligations.ClimateExchangeSettlesThePoll := by
  intro s p command dry wet status k new bus reports ho hcurrent hwork hempty hk hnew hbus hreports
  have hmeasure : new = s.kilns[k].measure dry.toInt wet.toInt status := hnew.trans (measure_eq ..).symm
  have hmod : s.modKiln k (Kiln.measure dry.toInt wet.toInt status) = { s with kilns := s.kilns.set k new } := by
    rw [hmeasure]
    rfl
  have hdone := climateDone_eq hcurrent hwork hk dry.toInt wet.toInt status
  have hconfig : new.config = s.kilns[k].config := by rw [hnew]
  have hstate : new.state = s.kilns[k].state := by rw [hnew]
  refine ⟨fun haddress hmark hcool => ?_, fun w haddress hmark hhot hw => ?_, fun haddress hmark => ?_, fun haddress => ?_⟩
  · refine exec_event_eq_after ho rfl reports ?_
    have hdeliver : deliverClimate k dry.toInt wet.toInt status s = { s with kilns := s.kilns.set k new } := by
      unfold deliverClimate
      simp only [hmod]
      rw [kilns_set, hcool]
      rfl
    rw [hdone, if_pos ⟨hmark, haddress⟩, hdeliver, hreports]
    exact serve_endPoll_quiet (s := { s with kilns := s.kilns.set k new }) hk (by rw [kilns_set, hconfig]; exact haddress) hempty hbus
  · have hdeliver : deliverClimate k dry.toInt wet.toInt status s = w := by
      have hover : new.overheated dry.toInt = true := overheated_of (by rw [hstate, hnew]; exact hhot)
      unfold deliverClimate
      simp only [hmod]
      rw [kilns_set, hover, if_pos rfl, Phases.raiseKiln_eq, kilns_set, hw]
    have hwbus : w.bus = if w.kilns[k].state ≠ s.kilns[k].state then s.bus.joined k .climate else s.bus := by
      rw [hw, raise_kiln_bus (by decide), kilns_set, hstate, ite_not]
    have hwaddress : w.kilns[k].config.address = p.address := by
      rw [hw, raise_kiln_config (by decide), kilns_set, hconfig]
      exact haddress
    have hserve : climateDone dry.toInt wet.toInt status s = reporting reports
        { w with bus := if w.kilns[k].state ≠ s.kilns[k].state then bus.climateJoined k w.kilns[k] else bus } := by
      rw [hdone, if_pos ⟨hmark, haddress⟩, hdeliver, serve_endPoll_good hk hwaddress hempty hwbus hbus, hreports]
    refine ⟨fun hsame => ?_, fun hchanged => ?_⟩
    · refine exec_event_eq_after ho rfl reports ?_
      rw [hserve, if_neg (not_not.2 hsame)]
    · refine exec_event_eq_after ho rfl reports ?_
      rw [hserve, if_pos hchanged]
  · refine exec_event_eq_after ho rfl reports ?_
    rw [hdone, if_neg fun h => hmark h.1, hreports]
    exact serve_endPoll_quiet hk haddress hempty hbus
  · refine exec_event_eq_after ho rfl [] ?_
    rw [hdone, if_neg fun h => haddress h.2, endPoll_moved true hk haddress]
    exact serve_of_settled fun _ => hempty

end Sys2Proof.Proofs.Polls
end

section
/-!
Failed transfer attempts (R91, R93, R95): the attempt counted, the poll that fails with the third, and the module that is lost.
-/
namespace Sys2Proof.Proofs.Attempts
open Sys2Proof.Machine Sys2Proof.Proofs.Answers Sys2Proof.Proofs.Reporting Sys2Proof.Proofs.KilnEvents Sys2Proof.Proofs.Polls
set_option Elab.async false

variable {s t w : State} {k : Fin 6} {p : CurrentPoll} {f : BusFailure}

/-- The link with one more failed attempt (R84, R91). -/
def moreAttempts (l : KilnLink) : KilnLink := { l with failedAttempts := (l.failedAttempts + 1) % 4294967296 }

/-- The bus of a failed attempt, before the poll goes on or ends. -/
def attemptedBus (k : Fin 6) (b : Bus) : Bus := b.setLink k (moreAttempts b.links[k])

theorem attemptFailed_eq (hcurrent : s.bus.current = some p) (hk : p.entry.kiln = k)
    (ht : t = raise (match f with | .nack => .busNack | .unexpectedStop => .busStop) .links (.links (some p.address) none) s) :
    attemptFailed f s =
      if p.attempt < 3 then ({ t with bus := attemptedBus k s.bus } : State).setPoll (some { p with attempt := p.attempt + 1 })
      else serve (endPoll false p { t with bus := attemptedBus k s.bus }) := by
  subst hk
  have ht' : raise (busFault f) .links (.links (some p.address) none) s = t := by rw [ht]; cases f <;> rfl
  have hbus : t.bus = s.bus := by rw [ht]; exact raise_bus rfl ..
  have hlink : t.modLink p.entry.kiln (fun l => { l with failedAttempts := wrapUp l.failedAttempts }) =
      { t with bus := attemptedBus p.entry.kiln s.bus } := by
    rw [State.modLink, hbus]
    rfl
  simp only [attemptFailed, hcurrent, ht', hlink]

theorem setLink_setLink (k : Fin 6) (l l' : KilnLink) (b : Bus) : (b.setLink k l).setLink k l' = b.setLink k l' := by
  simp only [Bus.setLink, Vector.set_set]

theorem links_setLink (k : Fin 6) (l : KilnLink) (b : Bus) : (b.setLink k l).links[k] = l := Vector.getElem_set_self k.isLt

theorem joined_free (k : Fin 6) (kind : PollKind) (b : Bus) :
    ({ b.joined k kind with current := none } : Bus) = ({ b with current := none } : Bus).joined k kind := by
  unfold Bus.joined
  dsimp only
  split <;> rfl

/-- A failed poll below the third in a row. -/
theorem endPoll_failed (hk : p.entry.kiln = k) (haddress : s.kilns[k].config.address = p.address)
    (h : s.bus.links[k].failures + 1 < 3) :
    endPoll false p s = { s with
      bus := ({ s.bus with current := none } : Bus).setLink k { s.bus.links[k] with failures := s.bus.links[k].failures + 1 } } := by
  subst hk
  have hfail : settleFailed p s = s.modLink p.entry.kiln fun l => { l with failures := l.failures + 1 } := by
    unfold settleFailed
    rw [if_neg (not_not.2 haddress), if_neg h.not_ge]
  unfold endPoll
  rw [if_neg Bool.false_ne_true, hfail]
  rfl

/-- The third failed poll in a row loses the module. -/
theorem endPoll_lost (hk : p.entry.kiln = k) (haddress : s.kilns[k].config.address = p.address) (h : s.bus.links[k].failures = 2)
    {c : Kiln} (hc : c = { s.kilns[k] with measured := s.kilns[k].measured.map fun m => { m with stale := true } }) :
    endPoll false p s = (raise .moduleLost (.kiln k) c.context (withBus
      (s.bus.setLink k { s.bus.links[k] with link := .lost, failures := 0 }) { s with kilns := s.kilns.set k c })).setPoll none := by
  subst hk
  have hstale : (s.modLink p.entry.kiln fun l => { l with link := .lost, failures := 0 }).modKiln p.entry.kiln Kiln.staled =
      withBus (s.bus.setLink p.entry.kiln { s.bus.links[p.entry.kiln] with link := .lost, failures := 0 })
        { s with kilns := s.kilns.set p.entry.kiln c } := by
    rw [hc]
    rfl
  have hkiln : (withBus (s.bus.setLink p.entry.kiln { s.bus.links[p.entry.kiln] with link := .lost, failures := 0 })
        { s with kilns := s.kilns.set p.entry.kiln c }).kilns[p.entry.kiln] = c := kilns_set _ c s
  have hlost : 3 ≤ s.bus.links[p.entry.kiln].failures + 1 := by omega
  unfold endPoll settleFailed
  rw [if_neg Bool.false_ne_true, if_neg (not_not.2 haddress), if_pos hlost, hstale, Phases.raiseKiln_eq, hkiln]

/-- The service of the list behind a lost module. -/
theorem serve_lost {z : State} {c : Kiln} {b : Bus} {x : FaultContext} (hempty : b.pendingPolls = [])
    (hw : w = raise .moduleLost (.kiln k) x z) (hz : z.kilns[k].state = c.state) :
    serve ((raise .moduleLost (.kiln k) x (withBus b z)).setPoll none) =
      { w with bus := if w.kilns[k].state ≠ c.state then ({ b with current := none } : Bus).climateJoined k w.kilns[k]
                      else { b with current := none } } := by
  obtain ⟨b', hb'⟩ := raise_offBus (offBus_withBus b z) .moduleLost (.kiln k) x
  have hbus := raise_kiln_bus (kind := .moduleLost) (by decide) k x (withBus b z)
  rw [← hw] at hb'
  rw [hb'] at hbus ⊢
  have hstate : (withBus b z).kilns[k].state = c.state := hz
  have hfree : ({ withBus b' w with bus := { b' with current := none } } : State).bus =
      if w.kilns[k].state ≠ c.state then ({ b with current := none } : Bus).joined k .climate else { b with current := none } := by
    have hb : b' = if w.kilns[k].state ≠ c.state then b.joined k .climate else b := by
      rw [ite_not, ← hstate]
      exact hbus
    rw [hb]
    split
    · exact joined_free ..
    · rfl
  exact serve_raisedBus (s := { withBus b' w with bus := { b' with current := none } }) hempty hfree

theorem raise_kinds (kind : FaultKind) (d : Domain) (x : FaultContext) (s : State) :
    (raise kind d x s).faults.kinds = s.faults.kinds := by
  cases hmask : s.faults.kinds[kind.index].masked with
  | true => rw [raise_masked hmask]
  | false => rw [Raises.raise_faults hmask]

/-- Settles O28. -/
theorem failedAttemptsFailThePoll : Obligations.FailedAttemptsFailThePoll := by
  intro s t p k f ho hcurrent hk ht
  have hattempt := attemptFailed_eq hcurrent hk ht
  have hkilns : t.kilns = s.kilns := by rw [ht]; exact raise_kilns rfl ..
  have hlink := links_setLink k (moreAttempts s.bus.links[k]) s.bus
  refine ⟨fun hmore => ?_, fun hlast hempty haddress => ?_, fun hlast hempty haddress => ⟨fun hfew => ?_,
    fun c bus w hfailures hc hbus hw => ?_⟩⟩
  · refine exec_event_eq_after ho rfl [] ?_
    rw [hattempt, if_pos hmore]
    rfl
  · refine exec_event_eq_after ho rfl [] ?_
    rw [hattempt, if_neg hlast.not_gt, endPoll_moved false hk (by simp only [hkilns]; exact haddress)]
    exact serve_of_settled fun _ => hempty
  all_goals
    have haddress' : ({ t with bus := attemptedBus k s.bus } : State).kilns[k].config.address = p.address := by
      simp only [hkilns]
      exact haddress
  · refine exec_event_eq_after ho rfl [] ?_
    rw [hattempt, if_neg hlast.not_gt, endPoll_failed hk haddress' (by simp only [attemptedBus, hlink]; exact hfew),
      serve_of_settled]
    · simp only [attemptedBus, hlink]
      simp only [Bus.setLink, Vector.set_set]
      rfl
    · exact fun _ => hempty
  · have hz : (({ t with kilns := s.kilns.set k c } : State).kilns[k]).state = c.state :=
      congrArg Kiln.state (Vector.getElem_set_self k.isLt)
    have hcstate : c.state = s.kilns[k].state := by rw [hc]
    have hlost : attemptFailed f s = { w with bus := if w.kilns[k].state ≠ c.state then bus.climateJoined k w.kilns[k] else bus } := by
      rw [hattempt, if_neg hlast.not_gt, endPoll_lost (c := c) hk haddress' (by simp only [attemptedBus, hlink]; exact hfailures)
        (by simp only [hkilns]; exact hc)]
      have hbus' : ({ (attemptedBus k s.bus).setLink k { (attemptedBus k s.bus).links[k] with link := .lost, failures := 0 } with
          current := none } : Bus) = bus := by
        simp only [attemptedBus, hlink, hbus]
        simp only [Bus.setLink, Vector.set_set]
        rfl
      have hserve := serve_lost (k := k) (z := { t with kilns := s.kilns.set k c }) (c := c) (x := c.context) (w := w)
        (b := (attemptedBus k s.bus).setLink k { (attemptedBus k s.bus).links[k] with link := .lost, failures := 0 }) hempty hw hz
      rw [hbus'] at hserve
      refine Eq.trans ?_ hserve
      simp only [hkilns]
      rfl
    refine ⟨fun hmask => ?_, fun hsame => ?_, fun hchanged => ?_⟩
    · rw [hw]
      exact raise_masked (by rw [ht, raise_kinds]; exact hmask) ..
    · refine exec_event_eq_after ho rfl [] ?_
      refine hlost.trans ?_
      rw [if_neg (by rw [hcstate]; exact not_not.2 hsame)]
      rfl
    · refine exec_event_eq_after ho rfl [] ?_
      refine hlost.trans ?_
      rw [if_pos (by rw [hcstate]; exact hchanged)]
      rfl

end Sys2Proof.Proofs.Attempts
end

section
/-!
Weigh readings (R18 to R21, R90, R92) and the end of a sample scan (R23, R59, R64, R67 to R69).
-/
namespace Sys2Proof.Proofs.Scans
open Sys2Proof.Machine Sys2Proof.Proofs.Answers Sys2Proof.Proofs.Reporting Sys2Proof.Proofs.KilnEvents Sys2Proof.Proofs.Phases Sys2Proof.Proofs.Polls
set_option Elab.async false

variable {s : State} {k : Fin 6} {p : CurrentPoll} {q : Fin 8} {c : Kiln} {d : DryingRun} {old new : Sample} {w : Nat}

/-! ## Readings (R18 to R21) -/

theorem plausible_of (hzero : 1 ≤ w) (hlow : old.odWeight * 95 ≤ w * 100) (hhigh : w * 100 ≤ old.greenWeight * 102) :
    plausible w old.greenWeight old.odWeight = true := by
  simp only [plausible, Bool.not_eq_true', Bool.or_eq_false_iff, decide_eq_false_iff_not]
  omega

theorem not_plausible_of (h : w = 0 ∨ old.greenWeight * 102 < w * 100 ∨ w * 100 < old.odWeight * 95) :
    plausible w old.greenWeight old.odWeight = false := by
  simp only [plausible, Bool.not_eq_false', Bool.or_eq_true, decide_eq_true_eq]
  omega

theorem sampleMC_eq {mc : Nat} (h : mc = if w ≤ old.odWeight then 0
    else ((w - old.odWeight) * 1000 + old.odWeight / 2) / old.odWeight) :
    sampleMC w old.odWeight = (min mc 2000, decide (2000 < mc)) := by
  unfold sampleMC roundHalfUp
  by_cases hlow : w ≤ old.odWeight
  · rw [if_pos hlow] at h ⊢
    subst h
    rfl
  · rw [if_neg hlow] at h ⊢
    rw [← h]
    by_cases hhigh : 2000 < mc
    · simp [hhigh, hhigh.le]
    · simp [hhigh, Nat.not_lt.1 hhigh]

theorem read_of_plausible {mc : Nat} (hplausible : plausible w old.greenWeight old.odWeight = true)
    (hmc : mc = if w ≤ old.odWeight then 0 else ((w - old.odWeight) * 1000 + old.odWeight / 2) / old.odWeight)
    (hnew : new = { old with
      weight := some w, mc := some (min mc 2000), saturated := decide (2000 < mc)
      implausible := if old.standing = .defined then 0 else old.implausible }) : old.read w = (new, false, false) := by
  rw [Sample.read, if_pos hplausible, sampleMC_eq hmc, hnew]

theorem read_of_excluded (hplausible : plausible w old.greenWeight old.odWeight = false) (hstanding : old.standing ≠ .defined) :
    old.read w = ({ old with weight := weightAfter w old.weight }, false, false) := by
  rw [Sample.read, if_neg (by rw [hplausible]; decide), if_neg hstanding]

theorem read_of_implausible (hplausible : plausible w old.greenWeight old.odWeight = false) (hstanding : old.standing = .defined) :
    old.read w = ({ old with
      weight := weightAfter w old.weight, implausible := old.implausible + 1
      standing := if 3 ≤ old.implausible + 1 then .failed else .defined }, true, decide (3 ≤ old.implausible + 1)) := by
  rw [Sample.read, if_neg (by rw [hplausible]; decide), if_pos hstanding]

theorem deliverReading_eq {r : Sample × Bool × Bool} (hold : s.kilns[k].samples[q] = some old) (hr : old.read w = r)
    (hc : c = { s.kilns[k] with samples := s.kilns[k].samples.set q (some r.1) }) {t u : State}
    (ht : t = { s with kilns := s.kilns.set k c })
    (hu : u = if r.2.1 then raise .sampleImplausible (.kiln k) c.context t else t) :
    deliverReading k q w s = if r.2.2 then raise .sampleFailed (.kiln k) u.kilns[k].context u else u := by
  have hmod : (s.modKiln k fun c => { c with samples := c.samples.set q (some r.1) }) = t := by
    rw [ht, hc]
    rfl
  have htk : t.kilns[k] = c := by rw [ht, kilns_set]
  simp only [deliverReading, hold, hr, hmod]
  rw [raiseKiln_eq, raiseKiln_eq, htk, ← hu]

/-- A reading that raises nothing. -/
theorem deliverReading_of_quiet (hold : s.kilns[k].samples[q] = some old) (hr : old.read w = (new, false, false))
    (hc : c = { s.kilns[k] with samples := s.kilns[k].samples.set q (some new) }) :
    deliverReading k q w s = { s with kilns := s.kilns.set k c } :=
  deliverReading_eq hold hr hc rfl rfl

/-! ## The end of a scan -/

/-- A kiln that neither dries a step nor equalises ends its scan with the figures alone. -/
theorem completeScan_of_held (hc : s.kilns[k] = c) (hstate : c.state.held = true ∨ c.state = .condition) :
    completeScan k s = reporting [c.formed.sampleReport k] { s with kilns := s.kilns.set k c.formed } := by
  have hloses : c.state.loses = false := by
    obtain h | h := hstate
    · cases hst : c.state with
      | hold | park => rfl
      | idle | loaded | run | equalise | condition | done =>
        rw [hst] at h
        cases h
    · rw [h]
      rfl
  have hform := formFigures_of_notLost (s := s) (k := k) (by rw [hc]; exact .inr (.inl hloses))
  rw [hc] at hform
  have hformed : (reporting [c.formed.sampleReport k] { s with kilns := s.kilns.set k c.formed }).kilns[k].state = c.state := by
    rw [reporting_kilns, kilns_set]
    rfl
  unfold completeScan
  simp only [hform, hformed]
  cases hst : c.state with
  | hold | park | condition | idle | loaded | done => rfl
  | run | equalise =>
    rw [hst] at hstate
    simp [KilnState.held] at hstate

/-- The figures of a kiln that has a controlling MC. -/
theorem formFigures_of_figure {figure : Nat} (hc : s.kilns[k] = c) (hfigure : c.formed.figures.controlling = some figure) :
    formFigures k s = reporting [c.formed.sampleReport k] { s with kilns := s.kilns.set k c.formed } := by
  have hsome : (kilnFigures (activeMCs c.samples)).controlling.isSome = true := by
    have h : (kilnFigures (activeMCs c.samples)).controlling = some figure := hfigure
    rw [h]
    rfl
  have hform := formFigures_of_notLost (s := s) (k := k) (by rw [hc]; exact .inl hsome)
  rwa [hc] at hform

theorem completeScan_of_run {figure : Nat} {t : State} (hc : s.kilns[k] = c) (hstate : c.state = .run)
    (hfigure : c.formed.figures.controlling = some figure)
    (ht : t = reporting [c.formed.sampleReport k] { s with kilns := s.kilns.set k c.formed }) :
    completeScan k s = testMCLeave k t := by
  have hformed : t.kilns[k].state = .run := by
    rw [ht, reporting_kilns, kilns_set]
    exact hstate
  unfold completeScan
  simp only [formFigures_of_figure hc hfigure, ← ht, hformed]

theorem completeScan_of_equalise {figure : Nat} {t : State} (hc : s.kilns[k] = c) (hstate : c.state = .equalise)
    (hfigure : c.formed.figures.controlling = some figure)
    (ht : t = reporting [c.formed.sampleReport k] { s with kilns := s.kilns.set k c.formed }) :
    completeScan k s = testEqualiseEnd k t := by
  have hformed : t.kilns[k].state = .equalise := by
    rw [ht, reporting_kilns, kilns_set]
    exact hstate
  unfold completeScan
  simp only [formFigures_of_figure hc hfigure, ← ht, hformed]

theorem testMCLeave_of_stays {st : ScheduleStep} {figure : Nat} (hd : s.kilns[k].drying = some d) (hst : d.step? = some st)
    (hfigure : s.kilns[k].figures.controlling = some figure)
    (h : (∃ m, st.leave = .time m) ∨ ∃ m, st.leave = .mc m ∧ m < figure) : testMCLeave k s = s := by
  simp only [testMCLeave, hd, Option.bind_some, hst, hfigure]
  obtain ⟨m, hm⟩ | ⟨m, hm, hlt⟩ := h
  · simp only [hm]
  · simp only [hm]
    exact if_neg hlt.not_ge

theorem testMCLeave_of_leaves {st : ScheduleStep} {figure m : Nat} (hd : s.kilns[k].drying = some d) (hst : d.step? = some st)
    (hfigure : s.kilns[k].figures.controlling = some figure) (hm : st.leave = .mc m) (h : figure ≤ m) :
    testMCLeave k s = advanceStep k .mc s := by
  simp only [testMCLeave, hd, Option.bind_some, hst, hfigure, hm]
  exact if_pos h

theorem testEqualiseEnd_eq {wettest : Nat} (hd : s.kilns[k].drying = some d) (hfigure : s.kilns[k].figures.controlling ≠ none)
    (hwettest : s.kilns[k].figures.wettest = some wettest) : testEqualiseEnd k s =
      if wettest ≤ d.schedule.finalTarget + d.schedule.equaliseTolerance then enterCondition k s else s := by
  obtain ⟨figure, hfigure⟩ := Option.ne_none_iff_exists'.1 hfigure
  simp only [testEqualiseEnd, hd, hfigure, hwettest]

theorem testMCLeave_of_none (h : s.kilns[k].figures.controlling = none) : testMCLeave k s = s := by
  simp only [testMCLeave, h]
  cases s.kilns[k].drying.bind DryingRun.step? <;> rfl

theorem testEqualiseEnd_of_none (h : s.kilns[k].figures.controlling = none) : testEqualiseEnd k s = s := by
  simp only [testEqualiseEnd, h]
  cases s.kilns[k].drying <;> rfl

theorem caused_samples (how : HoldKind) (level : Nat) (c : Kiln) : (c.caused how level).sampleReport k = c.sampleReport k := by
  unfold Kiln.caused
  dsimp only
  split <;> rfl

theorem raise_kiln_fields {kind : FaultKind} {x : FaultContext} (hkind : kind ≠ .supervisionExpired) (k : Fin 6) (s : State) :
    (raise kind (.kiln k) x s).kilns[k] = s.kilns[k] ∨
      ∃ how level, (raise kind (.kiln k) x s).kilns[k] = s.kilns[k].caused how level := by
  cases hmask : s.faults.kinds[kind.index].masked with
  | true => exact .inl (by rw [raise_masked hmask])
  | false =>
    rw [Raises.raise_kiln_acted hmask hkind rfl rfl (.inl rfl), Raises.actedOn]
    split
    · exact .inr ⟨_, _, rfl⟩
    · exact .inl rfl

/-- A scan whose figures hold no controlling MC any more raises the loss of samples, and tests nothing (R59). -/
theorem completeScan_of_lost {lost : Kiln} {u : State} (hc : s.kilns[k] = c) (hstate : c.state = .run ∨ c.state = .equalise)
    (hfigure : c.formed.figures.controlling = none) (hfirst : c.samplesLost = false) (hlost : lost = { c.formed with samplesLost := true })
    (hu : u = raise .samplesLost (.kiln k) lost.context { s with kilns := s.kilns.set k lost }) :
    completeScan k s = reporting [lost.sampleReport k] u := by
  have hnone : (kilnFigures (activeMCs c.samples)).controlling = none := hfigure
  have hloses : c.state.loses = true := by obtain h | h := hstate <;> rw [h] <;> rfl
  have htest : testSamplesLost k (s.modKiln k fun c => { c with figures := kilnFigures (activeMCs c.samples) }) = u := by
    have hmod : (s.modKiln k fun c => { c with figures := kilnFigures (activeMCs c.samples) }).modKiln k
        (fun c => { c with samplesLost := true }) = { s with kilns := s.kilns.set k lost } := by
      rw [modKiln_modKiln, State.modKiln, vmod, hc, hlost]
      rfl
    unfold testSamplesLost
    simp only [kilns_modKiln, hc, hnone, hloses, hfirst]
    rw [hmod, raiseKiln_eq, kilns_set, ← hu]
    rfl
  have hreport : u.kilns[k].sampleReport k = lost.sampleReport k := by
    have h := raise_kiln_fields (kind := .samplesLost) (x := lost.context) (by decide) k { s with kilns := s.kilns.set k lost }
    rw [← hu, kilns_set] at h
    obtain h | ⟨how, level, h⟩ := h
    · rw [h]
    · rw [h, caused_samples]
  have hform : formFigures k s = reporting [lost.sampleReport k] u := by
    rw [formFigures, htest, reportSamples_eq, hreport]
  have hcontrolling : u.kilns[k].figures.controlling = none := by
    obtain ⟨-, -, -, hfigures⟩ := Report.sampleUpdate.inj hreport
    rw [hfigures, hlost]
    exact hnone
  unfold completeScan
  simp only [hform, reporting_kilns]
  cases u.kilns[k].state with
  | run => exact testMCLeave_of_none (by rw [reporting_kilns, hcontrolling])
  | equalise => exact testEqualiseEnd_of_none (by rw [reporting_kilns, hcontrolling])
  | idle | loaded | condition | hold | park | done => rfl

end Sys2Proof.Proofs.Scans
end

section
/-!
A weigh reading by what stands behind it in its scan (R90, R92 to R94).
-/
namespace Sys2Proof.Proofs.Weighing
open Sys2Proof.Machine Sys2Proof.Proofs.Answers Sys2Proof.Proofs.Reporting Sys2Proof.Proofs.KilnEvents Sys2Proof.Proofs.Phases Sys2Proof.Proofs.Polls Sys2Proof.Proofs.Scans
set_option Elab.async false

variable {s t u : State} {k : Fin 6} {p : CurrentPoll} {positions : List (Fin 8)} {i weight : Nat} {q : Fin 8}

theorem weighDone_of_stands (hcurrent : s.bus.current = some p) (hwork : p.work = .scan positions i) (hq : positions[i]? = some q)
    (hk : p.entry.kiln = k) (hstands : s.scanStands p.entry = true)
    (ht : deliverReading k q (if 60000 < weight then 0 else weight) s = t) : weighDone weight s =
      if i + 1 < positions.length then serve (t.setPoll (some { p with attempt := 1, work := .scan positions (i + 1) }))
      else serve (endPoll true p (completeScan k t)) := by
  subst hk
  simp only [weighDone, hcurrent, hwork, hq, ht]
  exact if_pos hstands

theorem weighDone_of_gone (hcurrent : s.bus.current = some p) (hwork : p.work = .scan positions i) (hq : positions[i]? = some q)
    (hstands : s.scanStands p.entry = false) : weighDone weight s = serve (endPoll true p s) := by
  simp only [weighDone, hcurrent, hwork, hq, hstands]
  rfl

/-- A scan that goes on with its next position. -/
theorem weighDone_of_next (hcurrent : s.bus.current = some p) (hwork : p.work = .scan positions i) (hq : positions[i]? = some q)
    (hk : p.entry.kiln = k) (hstands : s.scanStands p.entry = true)
    (ht : deliverReading k q (if 60000 < weight then 0 else weight) s = t) (hnext : i + 1 < positions.length) :
    weighDone weight s = { t with bus := { t.bus with
      current := some { p with attempt := 1, work := .scan positions (i + 1) } } } := by
  rw [weighDone_of_stands hcurrent hwork hq hk hstands ht, if_pos hnext]
  exact serve_of_current (s := t.setPoll _) (by simp [State.setPoll])

/-- A scan that ends with no poll due: the reports of the end, then those of the link. -/
theorem serve_endPoll_reporting {reports rs : List Report} {b : Bus} (hk : p.entry.kiln = k)
    (haddress : t.kilns[k].config.address = p.address) (hempty : t.bus.pendingPolls = [])
    (hb : b = ({ t.bus with current := none } : Bus).setLink k t.bus.links[k].good)
    (hreports : reports = if t.bus.links[k].link = .lost then [.moduleRestored k p.address p.entry.kind] else []) :
    serve (endPoll true p (reporting rs t)) = reporting (rs ++ reports) { t with bus := b } := by
  have hbus : (reporting rs t).bus = t.bus := reporting_bus rs t
  rw [serve_endPoll_quiet (s := reporting rs t) hk (by rw [reporting_kilns]; exact haddress) (by rw [hbus]; exact hempty)
    (b := b) (by rw [hbus]; exact hb), hbus, ← hreports, ← reporting_reporting]
  rw [reporting_eq rs t, reporting_eq rs { t with bus := b }]

/-- A scan that ends behind a raise of its kiln's domain. -/
theorem serve_endPoll_raised {changed : Prop} [Decidable changed] {reports rs : List Report} {b b' : Bus} (hk : p.entry.kiln = k)
    (haddress : t.kilns[k].config.address = p.address) (hempty : b.pendingPolls = [])
    (ht : t.bus = if changed then b.joined k .climate else b) (hb' : b' = ({ b with current := none } : Bus).setLink k b.links[k].good)
    (hreports : reports = if b.links[k].link = .lost then [.moduleRestored k p.address p.entry.kind] else []) :
    serve (endPoll true p (reporting rs t)) =
      reporting (rs ++ reports) { t with bus := if changed then b'.climateJoined k t.kilns[k] else b' } := by
  rw [serve_endPoll_good (s := reporting rs t) hk (by rw [reporting_kilns]; exact haddress) hempty (by rw [reporting_bus]; exact ht) hb',
    ← hreports, ← reporting_reporting, reporting_kilns, reporting_eq rs, reporting_eq rs]

/-- A scan that ends with a climate poll of its kiln due. -/
theorem serve_endPoll_climate {reports rs : List Report} {b : Bus} (hk : p.entry.kiln = k)
    (haddress : t.kilns[k].config.address = p.address) (hempty : t.bus.pendingPolls = [])
    (hb : b = ({ t.bus with current := none } : Bus).setLink k t.bus.links[k].good)
    (hreports : reports = if t.bus.links[k].link = .lost then [.moduleRestored k p.address p.entry.kind] else []) :
    serve (endPoll true p (pollDue k .climate (reporting rs t))) =
      reporting (rs ++ reports) { t with bus := b.climateJoined k t.kilns[k] } := by
  have hdue : pollDue k .climate (reporting rs t) = reporting rs { t with bus := t.bus.joined k .climate } := by
    rw [pollDue_reporting, pollDue_eq]
  rw [hdue, serve_endPoll_good (changed := True) hk (by rw [reporting_kilns]; exact haddress) hempty (by rw [reporting_bus, if_pos trivial]) hb,
    ← hreports, ← reporting_reporting, if_pos trivial, reporting_kilns, reporting_eq rs, reporting_eq rs]

theorem reporting_modCharge_set (rs : List Report) (v : Vector Kiln 6) (b : Bus) (n : Nat) (f : ChargeRecord → ChargeRecord) (s : State) :
    ({ reporting rs s with kilns := v, bus := b } : State).modCharge n f =
      reporting rs (({ s with kilns := v, bus := b } : State).modCharge n f) := by
  rw [reporting_eq, reporting_eq]
  rfl

theorem queue_clock (r : Report) (p : Port) : (p.queue r).clock = p.clock ∧ (p.queue r).clockSet = p.clockSet := by
  have hdrop (kind : ReportKind) (p : Port) : (p.noteDrop kind).clock = p.clock ∧ (p.noteDrop kind).clockSet = p.clockSet := by
    unfold Port.noteDrop
    split <;> exact ⟨rfl, rfl⟩
  unfold Port.queue
  dsimp only
  split
  · exact ⟨rfl, rfl⟩
  split
  · exact ⟨rfl, rfl⟩
  split
  · split
    · exact hdrop ..
    · exact hdrop ..
  · exact hdrop ..

theorem reporting_now (rs : List Report) (s : State) : (reporting rs s).now = s.now := by
  induction rs generalizing s with
  | nil => rfl
  | cons r rs ih =>
    refine (ih (queueReport r s)).trans ?_
    obtain ⟨hclock, hset⟩ := queue_clock r s.port
    exact congrArg₂ (fun (c : Nat) (b : Bool) => (⟨c, !b⟩ : Time)) hclock hset

/-- Settles O27. -/
theorem weighReadingReachesItsSample : Obligations.WeighReadingReachesItsSample := by
  intro s p positions i q w k link bus reports ho hcurrent hwork hq hk hempty hlink hbus hreports
  have hgood : bus = ({ s.bus with current := none } : Bus).setLink k s.bus.links[k].good := by
    rw [hbus, hlink]
    rfl
  have hset (x y : Kiln) : (s.kilns.set k x).set k y = s.kilns.set k y := Vector.set_set ..
  refine ⟨fun old new mc c hstands hold hnonzero htop hlow hhigh hmc hnew hc => ?_,
    fun old weight reads goesOn hstands hold hnext hweight hbad hreads hgoesOn => ?_, fun hstands haddress => ?_⟩
  · have hdeliver : deliverReading k q (if 60000 < w.toNat then 0 else w.toNat) s = { s with kilns := s.kilns.set k c } := by
      rw [if_neg htop.not_gt]
      exact deliverReading_of_quiet hold (read_of_plausible (plausible_of hnonzero hlow hhigh) hmc hnew) hc
    refine ⟨fun hnext => ?_, fun ends hlast haddress hends => ?_⟩
    · exact exec_event_eq_after ho rfl [] (weighDone_of_next hcurrent hwork hq hk hstands hdeliver hnext)
    · obtain ⟨t, ht⟩ : ∃ t : State, t = { s with kilns := s.kilns.set k c } := ⟨_, rfl⟩
      have htk : t.kilns[k] = c := by rw [ht, kilns_set]
      have hfinish : weighDone w.toNat s = serve (endPoll true p (completeScan k t)) := by
        rw [weighDone_of_stands hcurrent hwork hq hk hstands (hdeliver.trans ht.symm), if_neg (by omega)]
      have haddress' : c.config.address = p.address := by rw [hc]; exact haddress
      have hend (f : Kiln) (more : List Report) (hf : f.config = c.config)
          (hscan : completeScan k t = reporting (c.formed.sampleReport k :: more) { s with kilns := s.kilns.set k f }) : ends f more := by
        refine (hends f more).2 (exec_event_eq_after ho rfl _ ?_)
        rw [hfinish, hscan]
        exact serve_endPoll_reporting (t := { s with kilns := s.kilns.set k f }) hk (by rw [kilns_set, hf]; exact haddress')
          hempty hgood hreports
      obtain ⟨t', ht'⟩ : ∃ t' : State, t' = reporting [c.formed.sampleReport k] { s with kilns := s.kilns.set k c.formed } := ⟨_, rfl⟩
      have hformed : t' = reporting [c.formed.sampleReport k] { t with kilns := t.kilns.set k c.formed } := by
        rw [ht', ht]
        simp only [hset]
      have htk' : t'.kilns[k] = c.formed := by rw [ht', reporting_kilns, kilns_set]
      have hreset (rs : List Report) (f : Kiln) : reporting rs { t' with kilns := t'.kilns.set k f } =
          reporting (c.formed.sampleReport k :: rs) { s with kilns := s.kilns.set k f } := by
        rw [ht', reporting_kilns, reporting_set_kilns, reporting_reporting]
        simp only [hset]
        rfl
      refine ⟨fun hheld => ?_, fun d st figure hrun hd hst hfigure => ⟨fun hstays => ?_, fun m hleave hle => ⟨fun st' hst' => ?_,
        fun e hst' he => ?_⟩⟩, fun d wettest e hequalise hd hfigure hwettest he => ?_,
        fun lost u hstate hfigure hfirst hlost hu => ?_⟩
      · exact hend _ [] rfl ((completeScan_of_held htk hheld).trans (hformed.symm.trans ht'))
      · refine hend _ [] rfl ((completeScan_of_run htk hrun hfigure hformed).trans ?_)
        rw [testMCLeave_of_stays (d := d) (st := st) (by rw [htk']; exact hd) hst (by rw [htk']; exact hfigure) hstays, ht']
      · refine hend _ _ rfl ((completeScan_of_run htk hrun hfigure hformed).trans ?_)
        rw [testMCLeave_of_leaves (d := d) (st := st) (by rw [htk']; exact hd) hst (by rw [htk']; exact hfigure) hleave hle,
          KilnRequests.advanceStep_of_next (d := d) .mc (by rw [htk']; exact hd) hst' rfl, htk', hreset, hfigure]
        rfl
      · refine hend _ _ (by rw [he]; rfl) ((completeScan_of_run htk hrun hfigure hformed).trans ?_)
        rw [testMCLeave_of_leaves (d := d) (st := st) (by rw [htk']; exact hd) hst (by rw [htk']; exact hfigure) hleave hle,
          KilnRequests.advanceStep_of_last (d := d) (new := e) .mc (by rw [htk']; exact hd) hst' (by rw [htk']; exact he), htk', hreset, hfigure]
        rfl
      · obtain ⟨figure, hfigure'⟩ := Option.ne_none_iff_exists'.1 hfigure
        have hscan : completeScan k t = if wettest ≤ d.schedule.finalTarget + d.schedule.equaliseTolerance
            then enterCondition k t' else t' := by
          rw [completeScan_of_equalise htk hequalise hfigure' hformed, testEqualiseEnd_eq (d := d) (by rw [htk']; exact hd)
            (by rw [htk']; exact hfigure) (by rw [htk']; exact hwettest)]
        have henter := enterCondition_eq (s := t') (k := k) (d := d) (new := e) (by rw [htk']; exact hd) (by rw [htk', he]; rfl) rfl
        rw [hreset] at henter
        refine ⟨fun hwet => ?_, fun hdry => ⟨fun hlasts => ?_, fun n ch dry new hinstant hn hch hdries hnewest => ?_⟩⟩
        · exact hend _ [] rfl (by rw [hscan, if_neg hwet.not_ge, ht'])
        · exact hend _ _ (by rw [he]; rfl) (by rw [hscan, if_pos hdry, henter, if_neg hlasts])
        · have hdry' : dry = driedOf s.now (finalMC (activeMCs c.samples)) := funext hdries
          have hek : (reporting (c.formed.sampleReport k :: [e.report k .schedule]) { s with kilns := s.kilns.set k e }).kilns[k] = e := by
            rw [reporting_kilns, kilns_set]
          have hdone := enterDone_eq (s := reporting (c.formed.sampleReport k :: [e.report k .schedule]) { s with kilns := s.kilns.set k e })
            (k := k) (n := n) (ch := ch) (new := new) (by rw [hek, he]; exact hn) ((reporting_charge? ..).trans hch) (by rw [hek]; exact hnewest)
          rw [hek, reporting_now, reporting_modCharge_set, reporting_reporting, reporting_kilns, reporting_bus] at hdone
          refine exec_event_eq_after ho rfl _ ?_
          rw [hfinish, hscan, if_pos hdry, henter, if_pos hinstant, hdone]
          have hkiln : (({ s with
              kilns := s.kilns.set k new
              bus := s.bus.setLink k { s.bus.links[k] with scanTimer := none } } : State).modCharge n dry).kilns[k] = new := kilns_set k new s
          have hlinks := Attempts.links_setLink k { s.bus.links[k] with scanTimer := none } s.bus
          have hclimate := serve_endPoll_climate (t := ({ s with
              kilns := s.kilns.set k new
              bus := s.bus.setLink k { s.bus.links[k] with scanTimer := none } } : State).modCharge n dry)
            (b := bus.setLink k { link with scanTimer := none })
            (rs := [c.formed.sampleReport k, e.report k .schedule, (dry ch).report, new.report k .schedule]) (reports := reports) hk
            (by rw [hkiln, hnewest, he]; exact haddress') hempty
            (by
              rw [modCharge_bus, hlinks, hbus, hlink]
              simp only [Bus.setLink, Vector.set_set]
              rfl)
            (by rw [modCharge_bus, hlinks]; exact hreports)
          rw [hkiln] at hclimate
          refine Eq.trans ?_ hclimate
          rw [hdry', hset]
          have hsamples : e.samples = c.samples := by rw [he]; rfl
          rw [hsamples]
          rfl
      · have hscan := completeScan_of_lost (u := u) htk hstate hfigure hfirst hlost (by rw [hu, ht]; simp only [hset])
        have hlostState : lost.state = c.state := by rw [hlost]; rfl
        have hubus : u.bus = if u.kilns[k].state ≠ c.state then s.bus.joined k .climate else s.bus := by
          rw [hu, raise_kiln_bus (by decide), kilns_set, hlostState, ite_not]
        have huaddress : u.kilns[k].config.address = p.address := by
          rw [hu, raise_kiln_config (by decide), kilns_set, hlost]
          exact haddress'
        refine exec_event_eq_after ho rfl _ ?_
        rw [hfinish, hscan, serve_endPoll_raised hk huaddress hempty hubus hgood hreports, ite_not]
        rfl
  · have hplausible := not_plausible_of hbad
    have hgo {t : State} (ht : deliverReading k q weight s = t) : goesOn t := by
      refine (hgoesOn t).2 (exec_event_eq_after ho rfl [] ?_)
      exact weighDone_of_next hcurrent hwork hq hk hstands (by rw [← hweight]; exact ht) hnext
    refine ⟨fun hstanding => ?_, fun c u hstanding hc hu => ?_⟩
    · exact hgo (deliverReading_of_quiet hold (read_of_excluded hplausible hstanding) (hreads old))
    · have hdeliver := deliverReading_eq (c := c) hold (read_of_implausible hplausible hstanding) (hc.trans (hreads _)) rfl hu
      refine ⟨fun hfew => hgo (hdeliver.trans ?_), fun hthird => hgo (hdeliver.trans ?_)⟩
      · exact if_neg (by rw [decide_eq_true_eq]; exact hfew.not_ge)
      · exact if_pos (decide_eq_true hthird)
  · refine exec_event_eq_after ho rfl reports ?_
    rw [weighDone_of_gone hcurrent hwork hq hstands]
    exact serve_endPoll_reporting (rs := []) hk haddress hempty hgood hreports

end Sys2Proof.Proofs.Weighing
end

section
/-!
Line terminals (sections 6.3, 6.5, 6.6): assignment of a function, inputs and their filters.
-/
namespace Sys2Proof.Proofs.Terminals
open Sys2Proof.Machine Sys2Proof.Proofs.Answers Sys2Proof.Proofs.Reporting
set_option Elab.async false

variable {s : State} {a : Assignment} {old : Terminal}

/-! ## TERMINAL-ASSIGN (R100, R101) -/

theorem heldElsewhere_iff {f : TermFn} {t : Fin 16} :
    s.heldElsewhere f t = true ↔ ∃ u, u ≠ t ∧ s.terminals[u].fn = f := by
  have hmem (u : Fin 16) : u ∈ allTerminals := by fin_cases u <;> decide
  simp [State.heldElsewhere, hmem]

/-- The stages of R100 behind the ranges. -/
theorem actTerminalAssign_of_read {payload : List Byte} (hread : readAssignment payload = some a) : actTerminalAssign payload s =
    if a.fn.analogue ∧ a.terminal.val < 12 then refuse .badArg s
    else if a.fn.isLine ∧ s.heldElsewhere a.fn a.terminal then refuse .inUse s
    else if (a.fn.isLine ∨ s.terminals[a.terminal].fn.isLine) ∧ s.line.state.atRest = false then refuse .state s
    else done (assignTerminal a s) := by
  simp only [actTerminalAssign, hread]

theorem actTerminalAssign_accepted {payload : List Byte} (hread : readAssignment payload = some a)
    (hrange : a.fn.analogue = true → 12 ≤ a.terminal.val)
    (hfree : ∀ u : Fin 16, u ≠ a.terminal → a.fn.isLine = true → s.terminals[u].fn ≠ a.fn)
    (hrest : a.fn.isLine = true ∨ s.terminals[a.terminal].fn.isLine = true → s.line.state.atRest = true) :
    actTerminalAssign payload s = done (assignTerminal a s) := by
  rw [actTerminalAssign_of_read hread, if_neg, if_neg, if_neg]
  · rintro ⟨hline, hmoving⟩
    rw [hrest hline] at hmoving
    cases hmoving
  · rintro ⟨hline, hheld⟩
    obtain ⟨u, hu, hfn⟩ := heldElsewhere_iff.1 hheld
    exact hfree u hu hline hfn
  · rintro ⟨hanalogue, hlow⟩
    exact absurd (hrange hanalogue) hlow.not_ge

theorem assigned_of_input (hold : old = s.terminals[a.terminal]) (h : a.fn.digitalInput = true) {high : Bool}
    (hhigh : high = if old.fn.digitalInput then old.pinHigh else Config.releasedPinHigh s.freeCount) :
    assigned a s = { old with
      fn := a.fn, polarity := a.polarity, edges := a.edges, conversion := none, waiting := none, pinHigh := high
      input := a.polarity.through high, drive := none } := by
  have hfound : s.pinFound a.terminal = high := by rw [hhigh, hold]; rfl
  unfold assigned
  simp only [h, if_true, hfound, ← hold]

theorem digitalInput_of_analogue {f : TermFn} (h : f.analogue = true) : f.digitalInput = false := by
  revert h
  cases f <;> decide

theorem assigned_of_analogue (hold : old = s.terminals[a.terminal]) (h : a.fn.analogue = true) :
    assigned a s = { old with
      fn := a.fn, polarity := a.polarity, edges := a.edges, waiting := none, input := false, drive := none
      conversion := some (Config.firstConversion s.freeCount).toNat } := by
  unfold assigned
  simp only [h, digitalInput_of_analogue h, if_true, ← hold]
  rfl

theorem assigned_of_output {level : Bool} (hold : old = s.terminals[a.terminal])
    (h : (a.fn = .generalOut ∧ level = old.stored) ∨ (a.fn = .redryGate ∧ level = s.line.redryDemand) ∨
        (a.fn = .rejectGate ∧ level = s.line.rejectDemand) ∨ (a.fn = .lineStop ∧ level = s.line.stopDemand)) :
    assigned a s = { old with
      fn := a.fn, polarity := a.polarity, edges := a.edges, conversion := none, waiting := none
      input := level, drive := some (a.polarity.through level) } := by
  unfold assigned
  obtain ⟨hfn, rfl⟩ | ⟨hfn, rfl⟩ | ⟨hfn, rfl⟩ | ⟨hfn, rfl⟩ := h <;> simp only [hfn, ← hold] <;> rfl

theorem setFunctionView_of_none {f : TermFn} (h : f.eye? = none) (level : Bool) (s : State) : setFunctionView f level s = s := by
  simp only [setFunctionView, h]

/-- The record of an assignment, and the view of the function it takes (R101). -/
theorem assignTerminal_eq {new : Terminal} (heye : s.terminals[a.terminal].fn.eye? = none) (hnew : assigned a s = new) :
    assignTerminal a s = setFunctionView a.fn new.input
      { s with terminals := s.terminals.set a.terminal new, freeCount := s.freeCount + 1 } := by
  unfold assignTerminal
  rw [setFunctionView_of_none heye]
  dsimp only
  rw [hnew]
  rfl

theorem eye_eq_none {f : TermFn} (hinfeed : f ≠ .infeedEye) (houtfeed : f ≠ .outfeedEye) : f.eye? = none := by
  cases f with
  | infeedEye => exact absurd rfl hinfeed
  | outfeedEye => exact absurd rfl houtfeed
  | generalIn | generalOut | encoder | meterFault | meterIn | tempIn | redryGate | rejectGate | lineStop => rfl

/-- Settles O29. -/
theorem terminalAssignTakesTheFunction : Obligations.TerminalAssignTakesTheFunction := by
  refine ⟨fun s tag payload a old taken htakes hread hold hrange hfree hrest hinfeed houtfeed htaken => ?_,
    fun s tag payload a htakes hread => ⟨fun hanalogue hlow => ?_, fun hrange => ⟨fun u hu hline hfn => ?_, fun hfree hline hmoving => ?_⟩⟩⟩
  · have heye : s.terminals[a.terminal].fn.eye? = none := by rw [← hold]; exact eye_eq_none hinfeed houtfeed
    have hact := actTerminalAssign_accepted hread hrange hfree (by rw [← hold]; exact hrest)
    have hassign {new : Terminal} (hnew : assigned a s = new) :
        actTerminalAssign payload s = done (setFunctionView a.fn new.input (taken new)) := by
      rw [hact, assignTerminal_eq heye hnew, htaken]
    refine ⟨fun level hlevel => ?_, fun hanalogue => ?_, fun high level new hhigh hlevel hnew => ?_⟩
    · have hview : a.fn.eye? = none := by
        obtain ⟨hfn, -⟩ | ⟨hfn, -⟩ | ⟨hfn, -⟩ | ⟨hfn, -⟩ := hlevel <;> rw [hfn] <;> rfl
      refine exec_of_done htakes rfl ?_
      rw [hassign (assigned_of_output hold hlevel), setFunctionView_of_none hview]
    · have hview : a.fn.eye? = none := by
        revert hanalogue
        cases a.fn <;> decide
      refine exec_of_done htakes rfl ?_
      rw [hassign (assigned_of_analogue hold hanalogue), setFunctionView_of_none hview]
    · have hinput (h : a.fn.digitalInput = true) : assigned a s = new := by
        rw [assigned_of_input hold h hhigh, hnew, hlevel]
      have hlevel' : new.input = level := by rw [hnew]
      refine ⟨fun hfn => ?_, fun hfn => ?_, fun hfn hcondition => ?_⟩
      · have hview : a.fn.eye? = none ∧ a.fn.digitalInput = true := by
          obtain h | h | h := hfn <;> rw [h] <;> exact ⟨rfl, rfl⟩
        refine exec_of_done htakes rfl ?_
        rw [hassign (hinput hview.2), setFunctionView_of_none hview.1]
      · refine exec_of_done htakes rfl ?_
        rw [hassign (hinput (by rw [hfn]; rfl)), hfn, hlevel', htaken]
        rfl
      · refine exec_of_done htakes rfl ?_
        have hview : setFunctionView .infeedEye level (taken new) = { taken new with
            line := { s.line with infeed := ⟨level, none⟩, infeedCondition := if level then .untracked else .clear } } := by
          have htail : settleTail s.line.position ((taken new).modLine (Line.setFilter .infeed ⟨level, none⟩)) =
              (taken new).modLine (Line.setFilter .infeed ⟨level, none⟩) := by
            rw [htaken]
            exact if_neg hcondition
          rw [htaken] at htail ⊢
          exact congrArg (fun t => t.modLine fun l => { l with infeedCondition := if level then .untracked else .clear }) htail
        rw [hassign (hinput (by rw [hfn]; rfl)), hfn, hlevel', hview]
  · refine exec_of_refuse htakes rfl (st := .badArg) ?_
    rw [actTerminalAssign_of_read hread, if_pos ⟨hanalogue, hlow⟩]
  all_goals
    have hranges : ¬ (a.fn.analogue = true ∧ a.terminal.val < 12) := fun h => absurd (hrange h.1) h.2.not_ge
  · refine exec_of_refuse htakes rfl (st := .inUse) ?_
    rw [actTerminalAssign_of_read hread, if_neg hranges, if_pos ⟨hline, heldElsewhere_iff.2 ⟨u, hu, hfn⟩⟩]
  · refine exec_of_refuse htakes rfl (st := .state) ?_
    rw [actTerminalAssign_of_read hread, if_neg hranges, if_neg, if_pos ⟨hline, hmoving⟩]
    rintro ⟨hline, hheld⟩
    obtain ⟨u, hu, hfn⟩ := heldElsewhere_iff.1 hheld
    exact hfree u hu hline hfn

/-! ## Inputs (R103 to R105) -/

theorem modTerminal_eq {t : Fin 16} {r : Terminal} (f : Terminal → Terminal) (hr : r = s.terminals[t]) :
    s.modTerminal t f = { s with terminals := s.terminals.set t (f r) } := by
  rw [hr]
  rfl

/-- A level held for 5 ms (R103). -/
theorem generalInTaken_of_waiting {t : Fin 16} {r : Terminal} {high level : Bool} (hr : r = s.terminals[t]) (hfn : r.fn = .generalIn)
    (hwaiting : r.waiting = some high) (hlevel : level = r.polarity.through high) (hchange : level ≠ r.input) :
    generalInTaken t s =
      if r.edges.selects level then
        queueReport (.terminalEdge t level ((r.edgeCount + 1) % 65536) s.now)
          { s with
            terminals := s.terminals.set t { r with waiting := none, input := level, edgeCount := (r.edgeCount + 1) % 65536 } }
      else { s with terminals := s.terminals.set t { r with waiting := none, input := level } } := by
  unfold generalInTaken
  simp only [← hr, hfn, hwaiting, ← hlevel, decide_eq_true hchange, Bool.true_and]
  cases r.edges.selects level with
  | true =>
    simp only [if_true, modTerminal_eq _ hr, hfn]
    rfl
  | false => simp only [Bool.false_eq_true, if_false, modTerminal_eq _ hr, hfn]

/-- Settles O31. -/
theorem inputsFollowTheirPins : Obligations.InputsFollowTheirPins := by
  refine ⟨fun s t r ho hr hfn => ⟨fun high hpin => ?_, fun hnone => ?_, fun high level hwaiting hlevel hchange =>
    ⟨fun hselects => ?_, fun hselects => ?_⟩⟩, fun s high conv count ho => ⟨?_, ?_, ?_⟩⟩
  · refine exec_event_eq_after ho rfl [] ?_
    have hfn' : s.terminals[t].fn = .generalIn := hr ▸ hfn
    simp only [generalInPin, hfn', if_true]
    rw [modTerminal_eq _ hr, Terminal.pinChanged, if_neg hpin]
    rfl
  · refine exec_event_eq_after ho rfl [] ?_
    simp only [generalInTaken, ← hr, hfn, hnone]
    rfl
  · refine exec_event_eq_after ho rfl [_] ?_
    rw [generalInTaken_of_waiting hr hfn hwaiting hlevel hchange, if_pos]
    · rfl
    · obtain h | ⟨h, rfl⟩ | ⟨h, rfl⟩ := hselects <;> rw [h] <;> rfl
  · refine exec_event_eq_after ho rfl [] ?_
    rw [generalInTaken_of_waiting hr hfn hwaiting hlevel hchange, if_neg]
    · rfl
    · obtain h | ⟨h, rfl⟩ | ⟨h, rfl⟩ := hselects <;> rw [h] <;> exact Bool.false_ne_true
  · cases hholder : s.holder .meterFault with
    | none =>
      refine exec_event_eq_after ho rfl [] ?_
      simp only [meterFaultPin, hholder]
      rfl
    | some t =>
      refine exec_event_eq_after ho rfl [] ?_
      simp only [meterFaultPin, hholder]
      rfl
  · cases hholder : s.holder (servedBy conv) with
    | none =>
      have hdone : conversionDone conv count.toNat s = s := by simp only [conversionDone, hholder]
      have hexec : exec (.conversionComplete conv count) s = .next (s.after [] none) := exec_event_eq_after ho rfl [] hdone
      rw [hexec]
      cases conv <;> rw [servedBy] at hholder <;> simp only [hholder]
    | some t =>
      have hdone : conversionDone conv count.toNat s = { s with
          terminals := s.terminals.set t { s.terminals[t] with conversion := some count.toNat } } := by
        simp only [conversionDone, hholder]
        rfl
      have hexec := exec_event_eq_after (i := .conversionComplete conv count) ho rfl [] hdone
      rw [hexec]
      cases conv <;> rw [servedBy] at hholder <;> simp only [hholder]
  · cases hholder : s.holder .encoder with
    | none =>
      refine exec_event_eq_after ho rfl [] ?_
      simp only [encoderFalls, hholder]
      rfl
    | some t =>
      refine exec_event_eq_after ho rfl [] ?_
      simp only [encoderFalls, hholder]
      rfl

/-! ## Eyes (R104, R120) -/

/-- Settles O32. -/
theorem eyeChangeWaitsInItsFilter : Obligations.EyeChangeWaitsInItsFilter := by
  intro s e high fn ho hfn
  have hfn' : Eye.fn e = fn := by
    rw [hfn]
    cases e <;> rfl
  refine ⟨fun hnone => ?_, fun t level u hholder hlevel hu => ⟨fun hsame => ?_, fun hchange htaken => ?_, fun hchange hwaits hfilter => ?_⟩⟩
  · refine exec_event_eq_after ho rfl [] ?_
    simp only [eyePin, hfn', hnone]
    rfl
  all_goals
    have hpin : takePin t high s = u := by
      rw [hu, hlevel]
      rfl
    refine exec_event_eq_after ho rfl [] ?_
    simp only [eyePin, hfn', hholder, ← hlevel, hpin]
  · rw [decide_eq_false (not_not.2 hsame)]
    rfl
  · rw [decide_eq_true hchange, if_pos rfl, eyeEdge]
    have htaken' : level = (u.line.filter e).taken := by rw [hu]; exact htaken
    rw [if_pos htaken', hu, htaken]
    cases e <;> rfl
  · rw [decide_eq_true hchange, if_pos rfl, eyeEdge]
    have hwaits' : level ≠ (u.line.filter e).taken := by rw [hu]; exact hwaits
    have hfilter' : u.line.config.eyeFilter ≠ 0 := by rw [hu]; exact hfilter
    dsimp only
    rw [if_neg hwaits', if_neg (by cases e <;> exact hfilter'), hu]
    cases e <;> rfl

end Sys2Proof.Proofs.Terminals
end

section
/-!
The host link (sections 11.2, 11.3, 11.5): the report queue, the receiver, and a request that the port takes.
-/
namespace Sys2Proof.Proofs.HostLink
open Sys2Proof.Machine Sys2Proof.Proofs.Answers Sys2Proof.Proofs.Invariants
set_option Elab.async false

variable {s t : State} {p q r : Port} {f : Frame}

/-! ## The report queue (R183, R184) -/

section
variable {α : Type} {test : α → Bool} {older younger : List α} {a : α}

theorem takeFirst_eq_none (h : ∀ x ∈ older, test x = false) : takeFirst test older = none := by
  induction older with
  | nil => rfl
  | cons x xs ih =>
    rw [takeFirst, h x (by simp), if_neg (by decide), ih fun y hy => h y (by simp [hy])]
    rfl

theorem takeFirst_eq_some (h : ∀ x ∈ older, test x = false) (ha : test a = true) :
    takeFirst test (older ++ a :: younger) = some (a, older ++ younger) := by
  induction older with
  | nil =>
    rw [List.nil_append, takeFirst, if_pos ha]
    rfl
  | cons x xs ih =>
    rw [List.cons_append, takeFirst, h x (by simp), if_neg (by decide), ih fun y hy => h y (by simp [hy])]
    rfl
end

/-- A report that finds the queue full and nothing to displace is dropped. -/
theorem queue_of_kept {report : Report} (hsubscribed : p.subscribed.getLsbD report.kind.index = true)
    (hfull : 32 ≤ p.reports.length)
    (hkept : p.highKinds.getLsbD report.kind.index = false ∨ takeFirst (fun e => !e.high) p.reports = none) :
    p.queue report = p.noteDrop report.kind := by
  unfold Port.queue
  rw [if_neg (by simp [hsubscribed])]
  dsimp only
  rw [if_neg (by omega)]
  split
  case isTrue hhigh =>
    obtain hlow | hnone := hkept
    · rw [hlow] at hhigh
      cases hhigh
    · rw [hnone]
  case isFalse => rfl

/-- A HIGH report displaces the oldest LOW one. -/
theorem queue_of_displaced {report : Report} {old : ReportEntry} {rest : List ReportEntry}
    (hsubscribed : p.subscribed.getLsbD report.kind.index = true) (hfull : 32 ≤ p.reports.length)
    (hhigh : p.highKinds.getLsbD report.kind.index = true)
    (hold : takeFirst (fun e => !e.high) p.reports = some (old, rest)) :
    p.queue report = Port.noteDrop old.report.kind { p with reports := rest ++ [⟨report, true⟩] } := by
  unfold Port.queue
  rw [if_neg (by simp [hsubscribed])]
  dsimp only
  rw [if_neg (by omega), if_pos hhigh, hold]

/-- Settles O51. -/
theorem reportsAreQueuedOrDropped : Obligations.ReportsAreQueuedOrDropped := by
  refine ⟨fun p report high hhigh => ⟨fun hout => if_pos hout, fun hin => ⟨fun hroom => ?_, fun hfull => ⟨fun hlow => ?_, ?_⟩⟩⟩,
    fun s => ⟨fun ho => exec_event_eq_after ho rfl [] rfl, fun k ho => ?_⟩⟩
  · unfold Port.queue
    rw [if_neg (by simp [hin]), if_pos hroom, hhigh]
  · refine queue_of_kept hin hfull (hlow.imp (fun hno => hhigh.symm.trans hno) fun hall => ?_)
    exact takeFirst_eq_none fun e he => by simp [hall e he]
  · intro older younger e hh hreports holder he
    rw [queue_of_displaced hin hfull (hhigh.symm.trans hh)
      (by rw [hreports]; exact takeFirst_eq_some (fun x hx => by simp [holder x hx]) (by simp [he]))]
    cases p.gap <;> rfl
  · show Host.Outcome.next (beginTransmit (takeOwed s)) = _
    rw [after_none, takeOwed, ho]
    rfl

/-! ## The port behind reports -/

/-- One port differs from another by its report queue alone. -/
def reportsOnly (p q : Port) : Prop := q = { p with reports := q.reports, gap := q.gap, dropOwed := q.dropOwed }

theorem reportsOnly.refl (p : Port) : reportsOnly p p := rfl

theorem reportsOnly.trans (h : reportsOnly p q) (g : reportsOnly q r) : reportsOnly p r := by
  rw [reportsOnly, g, h]

theorem reportsOnly_queueReport (report : Report) (s : State) : reportsOnly s.port (queueReport report s).port := by
  obtain ⟨reports, gap, owed, h, -⟩ := queue_eq report s.port
  show reportsOnly s.port (s.port.queue report)
  rw [h, reportsOnly]

theorem reportsOnly_applyCause (k : Fin 6) (how : HoldKind) (level : Nat) (cause : KilnCause) (s : State) :
    reportsOnly s.port (applyCause k how level cause s).port := by
  unfold applyCause
  dsimp only
  split
  · exact .refl _
  split
  · exact reportsOnly_queueReport _ (s.modKiln k _)
  · rw [pollDue_port]
    exact reportsOnly_queueReport _ (s.modKiln k _)

theorem reportsOnly_applyCauses (how : HoldKind) (level : Nat) (cause : KilnCause) (ks : List (Fin 6)) (s : State) :
    reportsOnly s.port (applyCauses how level cause ks s).port := by
  induction ks generalizing s with
  | nil => exact .refl _
  | cons k ks ih => exact (reportsOnly_applyCause k how level cause s).trans (ih _)

theorem reportsOnly_enterLine (st : LineState) (back : Option ReturnState) (cause : LineCause) (s : State) :
    reportsOnly s.port (enterLine st back cause s).port := reportsOnly_queueReport _ _

theorem reportsOnly_trip (cause : LineCause) (s : State) : reportsOnly s.port (trip cause s).port := by
  unfold trip
  split
  · exact .refl _
  · exact reportsOnly_enterLine _ _ _ s

theorem reportsOnly_applyActions (d : Domain) (record : FaultRecord) (log : DomainLog × Placement) (a : ActionSet) (s : State) :
    reportsOnly s.port (applyActions d record log a s).port := by
  unfold applyActions
  dsimp only
  generalize hlogged : ite (a.report = true) _ s = logged
  have hreport : reportsOnly s.port logged.port := by
    rw [← hlogged]
    split
    · exact reportsOnly_queueReport _ s
    · exact .refl _
  have htrip (u : State) (h : reportsOnly s.port u.port) :
      reportsOnly s.port (if a.stopLine = true then trip .fault u else u).port := by
    split
    · exact h.trans (reportsOnly_trip _ u)
    · exact h
  refine htrip _ ?_
  split
  · exact hreport.trans (reportsOnly_applyCauses ..)
  · exact hreport

/-- A raise reaches the port by its reports alone (R168). -/
theorem reportsOnly_raise (kind : FaultKind) (d : Domain) (x : FaultContext) (s : State) :
    reportsOnly s.port (raise kind d x s).port := by
  unfold raise
  dsimp only
  split
  · exact .refl _
  split
  · exact .refl _
  · exact reportsOnly_applyActions _ _ _ _ _

theorem begin_of_sending (h : p.sending ≠ none) : p.begin = p := by
  rw [Port.begin, if_pos (Option.isSome_iff_ne_none.2 h)]

theorem beginTransmit_of_sending (h : s.port.sending ≠ none) : beginTransmit s = s := by
  rw [beginTransmit, State.modPort, begin_of_sending h]

theorem begin_requests (p : Port) : p.begin.requests = p.requests := by
  obtain ⟨_, _, _, _, h, -⟩ := begin_eq p
  rw [h]

/-- What the transmitter begins does not turn on the waiting requests. -/
theorem begin_waiting (p : Port) (waiting : List Frame) :
    ({ p with requests := waiting } : Port).begin = { p.begin with requests := waiting } := by
  unfold Port.begin
  dsimp only
  split
  · rfl
  split
  · rfl
  split
  · rfl
  split <;> rfl

/-! ## Taking waiting requests (R180) -/

theorem takeRequests_of_cannot (h : s.port.canTake = false) (n : Nat) : takeRequests n s = s := by
  unfold takeRequests
  split
  · rfl
  split
  · rfl
  · rw [if_neg (by simp [h])]

theorem takeRequests_of_none (h : s.port.requests = []) (n : Nat) : takeRequests n s = s := by
  cases n with
  | zero => rfl
  | succ n => rw [takeRequests, h]

theorem pump_of_none (h : s.port.requests = []) : pump s = s := takeRequests_of_none h _

theorem takeRequests_of_taken {rest : List Frame} (h : s.port.requests = f :: rest) (hcan : s.port.canTake = true) (n : Nat) :
    takeRequests (n + 1) s = takeRequests n (event (fun s => respond f (s.modPort fun p => { p with requests := rest })) s) := by
  rw [takeRequests, h]
  dsimp only
  rw [if_pos hcan]

/-- An assigned kind names the request of its act (R176). -/
theorem exec_requestOf_of_assigned {kind tag : Byte} {payload : List Byte} (h : kind.toNat < 0x37) (hnonzero : kind.toNat ≠ 0) :
    ∃ act, actOf kind.toNat payload = some act ∧
      exec (requestOf kind tag payload) s = .next (request kind tag payload act s) := by
  obtain ⟨n, hn, rfl⟩ : ∃ n : Nat, n < 256 ∧ kind = BitVec.ofNat 8 n := ⟨kind.toNat, kind.isLt, by simp⟩
  have hof : (BitVec.ofNat 8 n).toNat = n := by simp; omega
  rw [hof] at h hnonzero
  have hpos : 1 ≤ n := by omega
  clear hn hnonzero hof
  interval_cases n
  all_goals exact ⟨_, rfl, rfl⟩

theorem requestOf_of_unassigned {kind tag : Byte} {payload : List Byte} (h : 0x37 ≤ kind.toNat ∨ kind.toNat = 0) :
    requestOf kind tag payload = .unknownRequest kind tag payload ∧ actOf kind.toNat payload = none := by
  constructor
  · unfold requestOf
    split
    case h_55 => rfl
    all_goals omega
  · unfold actOf
    split
    case h_55 => rfl
    all_goals omega

/-- A request that is taken at once is the response to its frame, whatever its kind (R180). -/
theorem exec_requestOf (h : s.takesAtOnce) (kind tag : Byte) (payload : List Byte) :
    exec (requestOf kind tag payload) s = .next (beginTransmit (respond ⟨kind, tag, payload⟩ s)) := by
  obtain ⟨hreplies, hrestart, hrequests, howed⟩ := h
  have htake : (s.port.canTake && s.port.requests.isEmpty) = true := by simp [Port.canTake, hreplies, hrestart, hrequests]
  by_cases hassigned : kind.toNat < 0x37 ∧ kind.toNat ≠ 0
  · obtain ⟨act, hact, hexec⟩ := exec_requestOf_of_assigned (s := s) (tag := tag) (payload := payload) hassigned.1 hassigned.2
    rw [hexec, request, event_of howed, if_pos htake, respond, hact]
  · obtain ⟨hname, hact⟩ := requestOf_of_unassigned (kind := kind) (tag := tag) (payload := payload) (by omega)
    rw [hname, respond, hact]
    show Host.Outcome.next (event _ s) = _
    rw [event_of howed, if_pos htake]

/-! ## Frames (R179, R180) -/

theorem setReceiver_self {phase : Receiver} (h : s.port.receiver = phase) : s.setReceiver phase = s := by
  rw [← h]
  rfl

theorem completeFrame_eq {check : BitVec 16} (ho : s.port.dropOwed = none) (hhunt : s.port.receiver = .hunt) :
    completeFrame f check s = pump (beginTransmit (testFrame f check s)) := by
  rw [completeFrame, if_neg (by simp [hhunt]), event_of ho, setReceiver_self hhunt]

theorem testFrame_good {check : BitVec 16} (hcheck : check = f.crc) (hkind : f.kind.toNat < 0x80) :
    testFrame f check s = joinRequests f s := by
  rw [testFrame, if_neg]
  rintro (h | h)
  · exact h hcheck.symm
  · have : 0x80 ≤ f.kind.toNat := h
    omega

theorem exec_frame {kind tag : Byte} {payload : List Byte} {check : BitVec 16} :
    exec (.frameReceived kind tag payload check) s = .next (completeFrame ⟨kind, tag, payload⟩ check s) := rfl

/-- A request whose frame waits alone is taken (R180). -/
theorem pump_of_alone (hport : s.port.requests = [f]) (hcan : s.port.canTake = true) (howed : s.port.dropOwed = none) :
    pump s = beginTransmit (respond f { s with port := { s.port with requests := [] } }) := by
  rw [pump, hport, List.length_singleton, takeRequests_of_taken hport hcan, event_of howed]
  rfl

/-- Settles O47. -/
theorem frameRunsTheRequestItNames : Obligations.FrameRunsTheRequestItNames := by
  refine ⟨fun s kind tag payload htakes hhunt hbegin hkind => ?_,
    fun s kind tag payload check ho hhunt => ⟨fun hnone hbad => ?_, fun hcheck hkind hreplies hsending => ?_, fun htakes => ?_⟩⟩
  · have htakes' := htakes
    obtain ⟨hreplies, hrestart, hrequests, howed⟩ := htakes
    have hjoin : beginTransmit (joinRequests ⟨kind, tag, payload⟩ s) =
        { s with port := { s.port with requests := [⟨kind, tag, payload⟩] } } := by
      rw [joinRequests, if_pos (by simp [hrequests])]
      simp only [beginTransmit, State.modPort, begin_waiting, hbegin, hrequests]
      rfl
    have hself : ({ s with port := { s.port with requests := [] } } : State) = s := by rw [← hrequests]
    rw [exec_frame, completeFrame_eq howed hhunt, testFrame_good rfl hkind, hjoin, exec_requestOf htakes']
    generalize hu : ({ s with port := { s.port with requests := [⟨kind, tag, payload⟩] } } : State) = u
    have halone : u.port.requests = [⟨kind, tag, payload⟩] ∧ u.port.canTake = true ∧ u.port.dropOwed = none := by
      rw [← hu]
      exact ⟨rfl, by simp [Port.canTake, hreplies, hrestart], howed⟩
    rw [pump_of_alone halone.1 halone.2.1 halone.2.2, ← hu]
    exact congrArg (fun u => Host.Outcome.next (beginTransmit (respond ⟨kind, tag, payload⟩ u))) hself
  · have htest : testFrame ⟨kind, tag, payload⟩ check s = raise .frameCheck .links (.links none (some kind)) s :=
      if_pos (hbad.imp (fun h => h.symm) id)
    have hrequests : (raise .frameCheck .links (.links none (some kind)) s).port.requests = [] := by
      rw [reportsOnly_raise]
      exact hnone
    rw [exec_frame, completeFrame_eq ho hhunt, htest, pump_of_none, after_none]
    · rfl
    · exact (begin_requests _).trans hrequests
  · have hcannot : s.port.canTake = false := by simp [Port.canTake, hreplies]
    refine ⟨fun hroom => ?_, fun hfull => ?_⟩
    all_goals rw [exec_frame, completeFrame_eq ho hhunt, testFrame_good hcheck hkind]
    · rw [joinRequests, if_pos hroom, beginTransmit_of_sending (by exact hsending)]
      rw [pump, takeRequests_of_cannot (by exact hcannot)]
      rfl
    · have hport := reportsOnly_raise .rxOverrun .links (.links none (some kind)) s
      rw [joinRequests, if_neg (by omega), beginTransmit_of_sending (by rw [hport]; exact hsending), pump,
        takeRequests_of_cannot (by rw [hport]; exact hcannot)]
  · obtain ⟨hreplies, hrestart, hrequests, howed⟩ := htakes
    show Host.Outcome.next (event _ s) = _
    rw [event_of howed, if_pos (by simp [Port.canTake, hreplies, hrestart, hrequests]), after_some]
    rfl

/-! ## The receiver (R178, R192) -/

theorem takeByte_of_phase {b : Byte} {phase : Receiver} (ho : s.port.dropOwed = none)
    (hphase : s.port.receiver.take b = (phase, none)) :
    exec (.hostByteReceived b) s = .next (({ s with port := { s.port with receiver := phase } } : State).after [] none) := by
  show Host.Outcome.next (takeByte b s) = _
  rw [takeByte, hphase, takeOwed, ho, after_none]
  rfl

theorem exec_receiver {i : Instr} {g : Receiver → Receiver} (hexec : exec i s = .next (event (State.modReceiver g) s))
    (ho : s.port.dropOwed = none) {phase : Receiver} (hphase : g s.port.receiver = phase) :
    exec i s = .next (({ s with port := { s.port with receiver := phase } } : State).after [] none) := by
  rw [hexec, event_of ho, after_none, ← hphase]
  rfl

/-- Settles O48. -/
theorem receiverPhases : Obligations.ReceiverPhases := by
  intro s b put ho hput
  have hbyte {phase : Receiver} (h : s.port.receiver.take b = (phase, none)) :
      exec (.hostByteReceived b) s = .next (put phase) := by rw [hput]; exact takeByte_of_phase ho h
  have hgap {phase : Receiver} (h : s.port.receiver.gap = phase) : exec .frameGapTimeout s = .next (put phase) := by
    rw [hput]; exact exec_receiver rfl ho h
  have hspoiled {phase : Receiver} (h : s.port.receiver.spoiled = phase) : exec .byteWithoutStopBit s = .next (put phase) := by
    rw [hput]; exact exec_receiver rfl ho h
  have hidled {phase : Receiver} (h : s.port.receiver.idled = phase) : exec .receiveLineIdle s = .next (put phase) := by
    rw [hput]; exact exec_receiver rfl ho h
  refine ⟨fun h => ?_, fun h => ?_, fun h => ?_, fun len taken h => ?_, fun len taken h => ?_, fun h => ?_⟩
  · exact ⟨hbyte (by rw [h]; rfl), hgap (by rw [h]; rfl), hspoiled (by rw [h]; rfl), hidled (by rw [h]; rfl)⟩
  · exact hbyte (by rw [h]; rfl)
  · exact ⟨hbyte (by rw [h]; rfl), hgap (by rw [h]; rfl), hspoiled (by rw [h]; rfl)⟩
  · refine ⟨hbyte ?_, hgap (by rw [h]; rfl), hspoiled (by rw [h]; rfl)⟩
    rw [h, Receiver.take]
    split <;> rfl
  · exact ⟨hbyte (by rw [h]; rfl), hgap (by rw [h]; rfl), hspoiled (by rw [h]; rfl)⟩
  · exact ⟨hbyte (by rw [h]; rfl), hgap (by rw [h]; rfl), hspoiled (by rw [h]; rfl), hidled (by rw [h]; rfl)⟩

/-! ## A frame byte by byte (R175, R178) -/

/-- The state with its receiver in a phase. -/
def inPhase (phase : Receiver) (s : State) : State := { s with port := { s.port with receiver := phase } }

theorem begin_receiver (phase : Receiver) (p : Port) :
    ({ p with receiver := phase } : Port).begin = { p.begin with receiver := phase } := by
  unfold Port.begin
  dsimp only
  split
  · rfl
  split
  · rfl
  split
  · rfl
  split <;> rfl

theorem receiveBytes_cons {b : Byte} {rest : List Byte} {phase next : Receiver} (ho : s.port.dropOwed = none)
    (hbegin : s.port.begin = s.port) (htake : phase.take b = (next, none)) :
    receiveBytes (b :: rest) (inPhase phase s) = receiveBytes rest (inPhase next s) := by
  have hexec : exec (.hostByteReceived b) (inPhase phase s) = .next (inPhase next s) := by
    rw [takeByte_of_phase (s := inPhase phase s) ho htake, after_none]
    show Host.Outcome.next (beginTransmit (inPhase next s)) = _
    rw [beginTransmit, State.modPort]
    simp only [inPhase, begin_receiver, hbegin]
  rw [receiveBytes, hexec]

/-- The body is taken byte by byte up to its length (R178). -/
theorem receiveBytes_body {len : Byte} (ho : s.port.dropOwed = none) (hbegin : s.port.begin = s.port) (rest : List Byte)
    (b : Byte) (body taken : List Byte) (hlen : taken.length + body.length + 1 = len.toNat + 2) :
    receiveBytes (b :: body ++ rest) (inPhase (.body len taken) s) =
      receiveBytes rest (inPhase (.check len (taken ++ b :: body) none) s) := by
  induction body generalizing b taken with
  | nil =>
    refine receiveBytes_cons ho hbegin ?_
    rw [Receiver.take, if_pos (by simpa using hlen)]
  | cons b' body ih =>
    have hstep : (Receiver.body len taken).take b = (.body len (taken ++ [b]), none) := by
      rw [Receiver.take, if_neg]
      simp only [List.length_cons] at hlen
      omega
    refine (receiveBytes_cons ho hbegin hstep).trans ?_
    have hrest := ih b' (taken ++ [b]) (by simp only [List.length_append, List.length_cons, List.length_nil] at hlen ⊢; omega)
    rw [List.append_assoc] at hrest
    exact hrest

/-- What a completed frame makes of the port does not turn on the phase it ends. -/
theorem completeFrame_inPhase {check : BitVec 16} {phase : Receiver} (ho : s.port.dropOwed = none)
    (hphase : phase ≠ .ignoring) (hhunt : s.port.receiver = .hunt) :
    completeFrame f check (inPhase phase s) = completeFrame f check s := by
  have hset : (inPhase phase s).setReceiver .hunt = s.setReceiver .hunt := rfl
  have hleft : completeFrame f check (inPhase phase s) = pump (event (fun s => testFrame f check (s.setReceiver .hunt)) (inPhase phase s)) :=
    if_neg hphase
  rw [hleft, event_of (by exact ho), hset, completeFrame, if_neg (by simp [hhunt]), event_of ho]

theorem extract_append (check : BitVec 16) : check.extractLsb' 8 8 ++ check.extractLsb' 0 8 = check := by
  ext i hi
  simp only [BitVec.getElem_append, BitVec.getElem_extractLsb']
  split
  · simp [BitVec.getLsbD_eq_getElem hi]
  · rw [BitVec.getLsbD_eq_getElem (by omega)]
    congr 1
    omega

/-- Settles O49. -/
theorem bytesOfAFrameAreTheFrame : Obligations.BytesOfAFrameAreTheFrame := by
  intro s kind tag payload check ho hhunt hbegin hlen
  have hsize : (byteOf payload.length).toNat = payload.length := byteOf_toNat (by omega)
  have hself : s = inPhase .hunt s := (setReceiver_self hhunt).symm
  calc receiveBytes (0xA5 :: byteOf payload.length :: kind :: tag :: payload ++
          [check.extractLsb' 0 8, check.extractLsb' 8 8]) s
      = receiveBytes (0xA5 :: byteOf payload.length :: (kind :: tag :: payload ++
          [check.extractLsb' 0 8, check.extractLsb' 8 8])) (inPhase .hunt s) := by rw [← hself]; rfl
    _ = receiveBytes (byteOf payload.length :: (kind :: tag :: payload ++
          [check.extractLsb' 0 8, check.extractLsb' 8 8])) (inPhase .length s) := receiveBytes_cons ho hbegin rfl
    _ = receiveBytes (kind :: tag :: payload ++ [check.extractLsb' 0 8, check.extractLsb' 8 8])
          (inPhase (.body (byteOf payload.length) []) s) :=
        receiveBytes_cons ho hbegin (by rw [Receiver.take, if_pos (by omega)])
    _ = receiveBytes [check.extractLsb' 0 8, check.extractLsb' 8 8]
          (inPhase (.check (byteOf payload.length) (kind :: tag :: payload) none) s) :=
        receiveBytes_body ho hbegin _ _ _ [] (by simp [hsize])
    _ = receiveBytes [check.extractLsb' 8 8]
          (inPhase (.check (byteOf payload.length) (kind :: tag :: payload) (some (check.extractLsb' 0 8))) s) :=
        receiveBytes_cons ho hbegin rfl
    _ = .next (completeFrame ⟨kind, tag, payload⟩ (check.extractLsb' 8 8 ++ check.extractLsb' 0 8)
          (inPhase (.check (byteOf payload.length) (kind :: tag :: payload) (some (check.extractLsb' 0 8))) s)) := rfl
    _ = exec (.frameReceived kind tag payload check) s := by
        rw [extract_append, completeFrame_inPhase ho (by simp) hhunt, exec_frame]

end Sys2Proof.Proofs.HostLink
end

section
/-!
The transmitter (section 11.4) and the requests that a reply sent lets the port take (section 11.3).
-/
namespace Sys2Proof.Proofs.Transmitter
open Sys2Proof.Machine Sys2Proof.Proofs.Answers Sys2Proof.Proofs.Invariants Sys2Proof.Proofs.HostLink
set_option Elab.async false

variable {s : State} {p : Port} {f : Frame} {rest : List Frame} {m : Sending}

/-! ## What a free transmitter begins (R182, R185) -/

theorem begin_reply (hfree : p.sending = none) (hreplies : p.replies = f :: rest) :
    p.begin = { p with sending := some (.reply f), replies := rest } := by
  rw [Port.begin, if_neg (by simp [hfree]), hreplies]

theorem begin_report {older younger : List ReportEntry} {e : ReportEntry} (hfree : p.sending = none) (hreplies : p.replies = [])
    (hrestart : p.restart = .none) (hreports : p.reports = older ++ e :: younger)
    (hnext : (e.high = true ∧ ∀ x ∈ older, x.high = false) ∨ (older = [] ∧ ∀ x ∈ e :: younger, x.high = false)) :
    p.begin = { p with sending := some (.report e.report p.gap), reports := older ++ younger, gap := false } := by
  rw [Port.begin, if_neg (by simp [hfree]), hreplies]
  dsimp only
  rw [if_neg (by simp [hrestart]), hreports]
  obtain ⟨hhigh, holder⟩ | ⟨rfl, hlow⟩ := hnext
  · rw [takeFirst_eq_some holder hhigh]
  · rw [List.nil_append, takeFirst_eq_none hlow]
    rfl

theorem begin_none (hreplies : p.replies = []) (hreports : p.reports = []) : p.begin = p := by
  rw [Port.begin, hreplies, hreports]
  split
  · rfl
  dsimp only
  split <;> rfl

theorem begin_replies_only (hreplies : p.replies = []) (hrestart : p.restart ≠ .none) : p.begin = p := by
  rw [Port.begin, hreplies]
  split
  · rfl
  · dsimp only

/-! ## The last byte of a frame (R182, R192) -/

theorem sent_eq (hsending : p.sending = some m) (hother : p.restart = .awaitingReply → m.isRestartReply = false) :
    p.sent = { p with sending := none } := by
  rw [Port.sent, hsending]
  dsimp only
  rw [if_neg]
  rintro ⟨hwaits, hreply⟩
  rw [hother hwaits] at hreply
  cases hreply

theorem exec_transmitComplete (ho : s.port.dropOwed = none) :
    exec .transmitComplete s = .next (pump { s with port := s.port.sent.begin }) := by
  show Host.Outcome.next (pump (event (State.modPort Port.sent) s)) = _
  rw [event_of ho]
  rfl

/-- Settles O50. -/
theorem transmitterTakesTheNextFrame : Obligations.TransmitterTakesTheNextFrame := by
  intro s m put ho hsending hput
  have hexec {q : Port} (hother : s.port.restart = .awaitingReply → m.isRestartReply = false)
      (hq : ({ s.port with sending := none } : Port).begin = q) : exec .transmitComplete s = .next (pump (put q)) := by
    rw [exec_transmitComplete ho, sent_eq hsending hother, hq, hput]
  refine ⟨fun hnone hrestart => ⟨fun f rest hreplies => ?_, fun older younger e hreplies hreports hnext => ?_,
    fun hreplies hreports => ?_⟩, fun hrestart => ⟨fun f hm hkind hreplies => ?_, fun f rest hm hreplies => ?_⟩,
    fun f r rest hrestart hreplies => ⟨fun hroom hkind halone => ?_, fun waiting hfull hkind hrequests => ?_⟩⟩
  · rw [hexec (by simp [hrestart]) (begin_reply rfl hreplies), pump_of_none (by rw [hput]; exact hnone)]
  · rw [hexec (by simp [hrestart]) (begin_report rfl hreplies hrestart hreports hnext), pump_of_none (by rw [hput]; exact hnone)]
  · rw [hexec (by simp [hrestart]) (begin_none hreplies hreports), pump_of_none (by rw [hput]; exact hnone)]
  · have hsent : s.port.sent = { s.port with sending := none, restart := .due } := by
      rw [Port.sent, hsending]
      dsimp only
      rw [if_pos ⟨hrestart, by rw [hm]; exact decide_eq_true hkind⟩]
    have hbegin : s.port.sent.begin = { s.port with sending := none, restart := .due } := by
      rw [hsent]
      exact begin_replies_only hreplies (by simp)
    rw [exec_transmitComplete ho, hbegin, pump, takeRequests_of_cannot (by simp [Port.canTake]), hput]
  · have hother : m.isRestartReply = false := by
      cases hreply : m with
      | reply g => exact decide_eq_false (hm g hreply)
      | report => rfl
    rw [hexec (fun _ => hother) (begin_reply rfl hreplies), pump, takeRequests_of_cannot]
    rw [hput]
    simp [Port.canTake, hrestart]
  · rw [hexec (by simp [hrestart]) (begin_reply rfl hreplies)]
    generalize hu : put { s.port with sending := some (.reply f), replies := rest } = u
    rw [hput] at hu
    have hcan : u.port.canTake = true := by rw [← hu]; simp [Port.canTake, hroom, hrestart]
    rw [pump_of_alone (by rw [← hu]; exact halone) hcan (by rw [← hu]; exact ho), ← hu]
    generalize hv : put { s.port with sending := some (.reply f), replies := rest, requests := [] } = v
    rw [hput] at hv
    rw [exec_requestOf (s := v) (by rw [← hv]; exact ⟨hroom, hrestart, rfl, ho⟩), ← hv]
  · have hanswer (u : State) : respond r u = answerUnknown r.tag u := by
      rw [respond, (requestOf_of_unassigned (tag := r.tag) (payload := r.payload) (.inl hkind)).2]
    rw [hexec (by simp [hrestart]) (begin_reply rfl hreplies), pump]
    generalize hu : put _ = u
    rw [hput] at hu
    have hwaiting : u.port.requests = r :: waiting := by rw [← hu]; exact hrequests
    rw [hwaiting, List.length_cons, takeRequests_of_taken hwaiting (by rw [← hu]; simp [Port.canTake, hfull, hrestart]),
      event_of (by rw [← hu]; exact ho), hanswer, beginTransmit_of_sending (by rw [← hu]; simp [answerUnknown, pushReply, State.modPort]),
      takeRequests_of_cannot (by rw [← hu]; simp [answerUnknown, pushReply, State.modPort, Port.canTake, hfull]), ← hu, hput]
    rfl

end Sys2Proof.Proofs.Transmitter
end

section
/-!
The supervision timer (section 11.6): its requests, and an expiry with the holds and the trip that it brings.
-/
namespace Sys2Proof.Proofs.SupervisionUnit
open Sys2Proof.Machine Sys2Proof.Proofs.Answers Sys2Proof.Proofs.Reporting Sys2Proof.Proofs.KilnEvents Sys2Proof.Proofs.HostLink
set_option Elab.async false

variable {s : State} {reports : List Report}

/-! ## A cause applied to kilns (R71, R75) -/

/-- The report that a cause queues of a kiln, if it changes the kiln. -/
def causedReport (how : HoldKind) (level : Nat) (cause : KilnCause) (s : State) (k : Fin 6) : Option Report :=
  if s.kilns[k].caused how level = s.kilns[k] then none else some ((s.kilns[k].caused how level).report k cause)

/-- One kiln: a cause changes it, its report and the poll list, and nothing else. -/
theorem applyCause_reporting (how : HoldKind) (level : Nat) (cause : KilnCause) (k : Fin 6) (s : State) :
    ∃ b, applyCause k how level cause (reporting reports s) = reporting (reports ++ (causedReport how level cause s k).toList)
      { s with kilns := s.kilns.set k (s.kilns[k].caused how level), bus := b } := by
  have hkilns : (reporting reports s).kilns = s.kilns := reporting_kilns _ s
  by_cases hsame : s.kilns[k].caused how level = s.kilns[k]
  · refine ⟨s.bus, ?_⟩
    rw [applyCause_of_same cause (by rw [hkilns]; exact hsame), causedReport, if_pos hsame, hsame, Phases.set_kilns_self rfl, Option.toList_none, List.append_nil]
  · by_cases hstate : (s.kilns[k].caused how level).state = s.kilns[k].state
    · refine ⟨s.bus, ?_⟩
      have hlevel : (s.kilns[k].caused how level).level ≠ s.kilns[k].level := fun h =>
        hsame (Invariants.caused_eq_self hstate h)
      rw [causedReport, if_neg hsame, applyCause, hkilns]
      dsimp only
      rw [if_neg fun h => hlevel h.2, if_pos hstate, reporting_modKiln, Tables.reportKiln_reporting]
      exact congrArg (fun c => reporting (reports ++ [Kiln.report k cause c]) (s.modKiln k fun _ => s.kilns[k].caused how level)) (kilns_modKiln k _ s)
    · refine ⟨s.bus.joined k .climate, ?_⟩
      rw [applyCause_of_changed reports cause rfl hstate, causedReport, if_neg hsame, pollDue_reporting, pollDue_eq]
      rfl

/-- Several kilns, in the order given. -/
theorem applyCauses_reporting (how : HoldKind) (level : Nat) (cause : KilnCause) {ks : List (Fin 6)} (hks : ks.Nodup) (s : State) :
    ∃ kilns b, applyCauses how level cause ks (reporting reports s) =
      reporting (reports ++ ks.filterMap (causedReport how level cause s)) { s with kilns := kilns, bus := b } := by
  induction ks generalizing s reports with
  | nil => exact ⟨s.kilns, s.bus, by rw [List.filterMap_nil, List.append_nil]; rfl⟩
  | cons k ks ih =>
    obtain ⟨hk, hks⟩ := List.nodup_cons.1 hks
    obtain ⟨b, hfirst⟩ := applyCause_reporting (reports := reports) how level cause k s
    obtain ⟨kilns, b', hrest⟩ := ih (reports := reports ++ (causedReport how level cause s k).toList) hks
      { s with kilns := s.kilns.set k (s.kilns[k].caused how level), bus := b }
    refine ⟨kilns, b', ?_⟩
    have hothers : ks.filterMap (causedReport how level cause
          { s with kilns := s.kilns.set k (s.kilns[k].caused how level), bus := b }) =
        ks.filterMap (causedReport how level cause s) := by
      refine List.filterMap_congr fun j hj => ?_
      have hne : k ≠ j := fun h => hk (h ▸ hj)
      have hj' : (s.kilns.set k (s.kilns[k].caused how level))[j] = s.kilns[j] :=
        Vector.getElem_set_ne _ _ (by omega)
      simp only [causedReport, hj']
    have happ : reports ++ (k :: ks).filterMap (causedReport how level cause s) =
        reports ++ (causedReport how level cause s k).toList ++ ks.filterMap (causedReport how level cause s) := by
      cases h : causedReport how level cause s k <;> simp [h]
    rw [happ, ← hothers, ← hrest, ← hfirst]
    rfl

/-! ## An expiry (R190) -/

theorem serve_bus (h : climateFirst s) : ∃ b, serve s = { s with bus := b } := by
  by_cases hcurrent : s.bus.current = none
  · cases hpolls : s.bus.pendingPolls with
    | nil => exact ⟨s.bus, serve_of_settled fun _ => hpolls⟩
    | cons e rest => exact ⟨_, serve_of_climate hcurrent hpolls (h hcurrent e rest hpolls)⟩
  · exact ⟨s.bus, serve_of_current hcurrent⟩

/-- The kilns held and the line tripped, behind reports, and the service of the list: what HOLD_ALL brings. -/
theorem holdAll_reporting (hs : s.bus.settled) :
    ∃ (kilns : Vector Kiln 6) (b : Bus) (t : State), (∀ k : Fin 6, kilns[k] = s.kilns[k].caused .hold 3) ∧
      t = (if s.line.state = .tripped then { s with kilns := kilns, bus := b }
        else ({ s with kilns := kilns, bus := b } : State).lineIn .tripped none) ∧
      serve (trip .supervision (applyCauses .hold 3 .supervision allKilns (reporting reports s))) =
        reporting (reports ++ allKilns.filterMap (causedReport .hold 3 .supervision s) ++
          if s.line.state = .tripped then [] else [t.lineReport .supervision]) t := by
  have hnodup : allKilns.Nodup := by decide
  obtain ⟨kilns, b, hcauses⟩ := applyCauses_reporting (reports := reports) .hold 3 .supervision hnodup s
  have hkilns (k : Fin 6) : kilns[k] = s.kilns[k].caused .hold 3 := by
    have hk : k ∈ allKilns := by fin_cases k <;> decide
    have h := Raises.applyCauses_kiln .hold 3 .supervision hnodup k (reporting reports s)
    rw [hcauses, if_pos hk, reporting_kilns, reporting_kilns] at h
    exact h
  have hfirst : climateFirst ({ s with kilns := kilns, bus := b } : State) := by
    refine climateFirst_of_adds hs ?_
    have hadds := applyCauses_addsClimatePolls .hold 3 .supervision allKilns (reporting reports s)
    rw [hcauses, addsClimatePolls, reporting_bus, reporting_bus] at hadds
    exact hadds
  generalize hheld : allKilns.filterMap (causedReport .hold 3 .supervision s) = held at hcauses ⊢
  rw [hcauses, trip_reporting]
  by_cases htripped : s.line.state = .tripped
  · obtain ⟨b', hserve⟩ := serve_bus hfirst
    refine ⟨kilns, b', _, hkilns, rfl, ?_⟩
    rw [if_pos htripped, if_pos htripped, if_pos htripped, serve_reporting _ hfirst, hserve, List.append_nil]
  · obtain ⟨b', hserve⟩ := serve_bus (s := ({ s with kilns := kilns, bus := b } : State).lineIn .tripped none) hfirst
    refine ⟨kilns, b', _, hkilns, rfl, ?_⟩
    rw [if_neg htripped, if_neg htripped, if_neg htripped, serve_reporting _ (by exact hfirst), hserve]
    rfl

theorem readSupervision_remaining {payload : List Byte} {v : Supervision} (h : readSupervision payload = some v) :
    v.remaining = v.count * v.unit := by
  unfold readSupervision at h
  split at h
  case h_2 => cases h
  split at h
  case h_2 => cases h
  unfold ensure at h
  split at h
  · obtain rfl := Option.some.inj h
    rfl
  · cases h

theorem raise_supervisionExpired_eq (d : Domain) (x : FaultContext) (s : State) :
    ∃ faults, raise .supervisionExpired d x s = { s with faults := faults } := by
  cases hmask : s.faults.kinds[FaultKind.supervisionExpired.index].masked with
  | true => exact ⟨s.faults, raise_masked hmask ..⟩
  | false => exact ⟨_, Raises.raise_supervisionExpired hmask⟩

/-- What follows an event leaves the items of the port alone that are not its queues. -/
theorem port_after_eq (p : Port) (reports : List Report) (reply : Option Frame) :
    ∃ sending replies queued gap owed, p.after reports reply =
      { p with sending := sending, replies := replies, reports := queued, gap := gap, dropOwed := owed } := by
  have hqueued : reportsOnly p (reports.foldl (fun p r => p.queue r) p) := by
    induction reports generalizing p with
    | nil => exact .refl p
    | cons r reports ih =>
      obtain ⟨queued, gap, owed, h, -⟩ := Invariants.queue_eq r p
      exact reportsOnly.trans (q := p.queue r) (by rw [h, reportsOnly]) (ih _)
  unfold Port.after
  generalize reports.foldl (fun p r => p.queue r) p = q at hqueued
  obtain ⟨sending, replies, queued, gap, hbegin, -⟩ := Invariants.begin_eq { q with replies := q.replies ++ reply.toList }
  refine ⟨sending, replies, queued, gap, q.dropOwed, hbegin.trans ?_⟩
  rw [hqueued]

/-- Settles O53. -/
theorem supervisionTimer : Obligations.SupervisionTimer := by
  intro s tag payload put ho hs hput
  refine ⟨fun htakes => ⟨fun hbad => ?_, fun v hread hfree => ?_, fun v hread harmed => ?_, fun hnone => ?_, fun v harmed => ?_⟩,
    fun v u harmed hlatch hu => ?_⟩
  · exact exec_of_refuse (st := .badArg) htakes rfl (by rw [actSuperviseArm, hbad])
  · have hremaining : { v with remaining := v.count * v.unit } = v := by
      rw [← readSupervision_remaining hread]
    rw [hremaining, hput]
    refine exec_of_done htakes rfl ?_
    rw [actSuperviseArm, hread]
    dsimp only
    rw [hfree]
    rfl
  · refine exec_of_refuse (st := .locked) htakes rfl ?_
    rw [actSuperviseArm, hread]
    exact if_pos (Option.isSome_iff_ne_none.2 harmed)
  · exact exec_of_refuse (st := .state) htakes rfl (by rw [actSuperviseRefresh, hnone])
  · refine exec_eq_after htakes rfl _ ?_
    rw [actSuperviseRefresh, harmed, hput]
    cases s.port.latch <;> rfl
  · have hexpires (reports : List Report) {t : State}
        (h : serve (supervisionActs v.mode (reporting [.supervision .expired v.mode v.unit v.count] u)) = reporting reports t) :
        exec .supervisionExpiry s = .next (t.after reports none) := by
      refine exec_event_eq_after ho rfl reports (Eq.trans ?_ h)
      rw [supervisionReached, harmed]
      dsimp only
      rw [hlatch, if_neg (by decide), hu, hput]
      rfl
    have hbus : u.bus = s.bus := by
      rw [hu, Seconds.raise_supervisionExpired_bus, hput]
    have hsettled : u.bus.settled := by rw [hbus]; exact hs
    refine ⟨fun hmode => ?_, fun hmode => ?_⟩
    · rw [hmode] at hexpires
      exact hexpires _ (serve_reporting_of_settled _ hsettled)
    · rw [hmode] at hexpires
      obtain ⟨kilns, b, t, hkilns, ht, hserve⟩ :=
        holdAll_reporting (reports := [.supervision .expired .holdAll v.unit v.count]) hsettled
      have hexec := hexpires _ hserve
      obtain ⟨faults, hfaults⟩ := raise_supervisionExpired_eq .system (.system none)
        (put { s.port with latch := true, expiredSinceCold := true, supervision := some { v with remaining := 0 } })
      rw [hfaults, hput] at hu
      have hline : u.line = s.line := by rw [hu]
      have hukilns : u.kilns = s.kilns := by rw [hu]
      rw [hline] at ht hexec
      have hrest : t.kilns = kilns ∧ t.port = u.port ∧ t.store = u.store ∧ t.charges = u.charges ∧ t.packs = u.packs ∧
          t.labels = u.labels ∧ t.faults = u.faults := by
        rw [ht]
        split <;> exact ⟨rfl, rfl, rfl, rfl, rfl, rfl, rfl⟩
      obtain ⟨htkilns, htport, htstore, htcharges, htpacks, htlabels, htfaults⟩ := hrest
      have hheld : allKilns.filterMap (causedReport .hold 3 .supervision u) =
          ([0, 1, 2, 3, 4, 5] : List (Fin 6)).filterMap fun k =>
            if t.kilns[k] = s.kilns[k] then none else some (t.kilns[k].report k .supervision) := by
        refine List.filterMap_congr fun k _ => ?_
        rw [causedReport, ← hkilns, htkilns, hukilns]
      rw [hheld] at hexec
      rw [hukilns] at hkilns
      generalize hsent : [Report.supervision .expired .holdAll v.unit v.count] ++ _ ++ _ = sent at hexec
      obtain ⟨sending, replies, queued, gap, owed, hport⟩ := port_after_eq t.port sent none
      have hitems : (t.after sent none).port.latch = true ∧ (t.after sent none).port.expiredSinceCold = true ∧
          (t.after sent none).port.supervision = some { v with remaining := 0 } := by
        show (t.port.after sent none).latch = true ∧ (t.port.after sent none).expiredSinceCold = true ∧
          (t.port.after sent none).supervision = some { v with remaining := 0 }
        rw [hport, htport, hu]
        exact ⟨rfl, rfl, rfl⟩
      have hstate : t.line.state = .tripped := by
        rw [ht]
        split
        case isTrue h => exact h
        case isFalse => rfl
      refine ⟨_, hexec, hstate, fun hmoving => ?_, hitems.1, hitems.2.1, hitems.2.2, ?_, ?_, ?_, ?_, ?_, ?_,
        fun k => ⟨fun ph hph => ?_, fun hstopped => ?_, fun hresting => ?_⟩⟩
      · rw [if_neg hmoving] at ht
        rw [ht]
        exact ⟨rfl, rfl⟩
      · exact htstore.trans (by rw [hu])
      · exact htcharges.trans (by rw [hu])
      · exact htpacks.trans (by rw [hu])
      · exact htlabels.trans (by rw [hu])
      · exact htfaults
      · show t.port.after sent none = _
        rw [htport, ← hsent]
        rfl
      · exact (congrArg (·[k]) htkilns).trans ((hkilns k).trans (caused_of_phase .hold 3 hph))
      · refine (congrArg (·[k]) htkilns).trans ((hkilns k).trans ((Raises.caused_of_stopped hstopped).trans ?_))
        rw [if_neg (by decide)]
      · exact (congrArg (·[k]) htkilns).trans ((hkilns k).trans (Raises.caused_of_resting hresting))

end Sys2Proof.Proofs.SupervisionUnit
end

section
/-!
The label unit (chapter 9): what joins its queue, the record of its head, the answers of the printer, REPRINT and the closing of a
pack by request.
-/
namespace Sys2Proof.Proofs.LabelUnits
open Sys2Proof.Machine Sys2Proof.Proofs.Answers Sys2Proof.Proofs.Reporting
set_option Elab.async false

variable {s t : State} {b : Fin 8} {p : Pack} {c : Closing} {e : LabelEntry} {rest : List LabelEntry}

/-! ## Packs in their bays -/

theorem modBay_eq (hb : s.packs.bays[b] = some p) (f : Pack → Pack) :
    s.modBay b f = { s with packs := { s.packs with bays := s.packs.bays.set b (some (f p)) } } := by
  have hmod : vmod s.packs.bays b (Option.map f) = s.packs.bays.set b (some (f p)) := by
    rw [vmod, hb]
    rfl
  rw [State.modBay, hmod]

theorem setLabel_eq (hb : s.packs.bays[b] = some p) (hc : p.closing = some c) (l : LabelState) :
    setLabel b l s =
      { s with packs := { s.packs with bays := s.packs.bays.set b (some { p with closing := some { c with label := l } }) } } := by
  rw [setLabel, modBay_eq hb, hc]
  rfl

/-! ## The record of the head (R150 to R152) -/

theorem composeLabel_congr (hpacks : t.packs = s.packs) (hcharges : t.charges = s.charges) (hstore : t.store = s.store)
    (hnow : t.now = s.now) : composeLabel e t = composeLabel e s := by
  have hcharge : t.charge? = s.charge? := funext fun n => by rw [State.charge?, hcharges]; rfl
  have hline : chargeLine t = chargeLine s := funext fun l => by rw [chargeLine, hcharge]; rfl
  have hforce : t.entryInForce = s.entryInForce := funext fun n => by rw [State.entryInForce, hstore]; rfl
  simp only [composeLabel, hpacks, hcharge, hline, hforce, hstore, hnow]

theorem composeLabel_of_closed {first : ChargeRecord} {l : LineageEntry} {ls : List LineageEntry} (hb : s.packs.bays[e.bay] = some p)
    (hc : p.closing = some c) (hlineage : p.lineage = l :: ls) (hfirst : s.charge? l.charge = some first) :
    composeLabel e s = some
      { pack := p.number, cls := p.cls, speciesNumber := first.species
        speciesName := (s.entryInForce first.species).map (·.name)
        thicknessClass := s.store.slots[first.slot].thicknessClass
        pieces := p.pieces, lengthTenths := roundHalfUp p.lengthSum 100, volumeDm3 := volumeDm3 p.volume
        mcMean := roundHalfUp p.meanSum p.pieces, mcMax := p.highestMax, charges := p.lineage.filterMap (chargeLine s)
        mixed := if p.mixed then some p.unlisted else none, flags := c.flags, closeReason := c.reason
        closeTime := c.time, time := s.now, reprint := if e.reprint then some c.reprints else none } := by
  have hhead : (p.lineage.head?.bind fun l => s.charge? l.charge) = some first := by
    rw [hlineage]
    exact hfirst
  simp only [composeLabel, hb, hc, hhead]

theorem startHead_eq (hqueue : s.labels.queue = e :: rest) :
    startHead s = { s with labels := s.labels.sends (composeLabel e s) e rest } := by
  rw [startHead, hqueue]
  simp only [startTransmission, State.modLabels, LabelUnit.transmit, LabelUnit.modHead, hqueue]
  rfl

/-! ## Joining the queue (R148, R156) -/

theorem joinLabels_behind {pack : Nat} {reprint : Bool} (hb : s.packs.bays[b] = some p) (hc : p.closing = some c)
    (hqueue : s.labels.queue ≠ []) :
    joinLabels b pack reprint s =
      { s with
        packs := { s.packs with bays := s.packs.bays.set b (some { p with closing := some { c with label := .queued } }) }
        labels := { s.labels with queue := s.labels.queue ++ [newEntry b pack reprint] } } := by
  have hbehind : s.labels.queue.isEmpty = false := by simpa using hqueue
  rw [joinLabels, hbehind, setLabel_eq hb hc, if_neg (by decide)]
  rfl

theorem joinLabels_head {pack : Nat} {reprint : Bool} {u : State} (hb : s.packs.bays[b] = some p) (hc : p.closing = some c)
    (hqueue : s.labels.queue = [])
    (hu : u = { s with packs := { s.packs with bays := s.packs.bays.set b (some { p with closing := some { c with label := .queued } }) } }) :
    joinLabels b pack reprint s =
      { u with labels := s.labels.sends (composeLabel (newEntry b pack reprint) u) (newEntry b pack reprint) [] } := by
  have hjoined : (({ u with labels := { s.labels with queue := s.labels.queue ++ [newEntry b pack reprint] } } : State)).labels.queue =
      [newEntry b pack reprint] := by
    rw [hqueue]
    rfl
  have hempty : s.labels.queue.isEmpty = true := by rw [hqueue]; rfl
  rw [joinLabels, hempty, setLabel_eq hb hc, ← hu, if_pos rfl]
  have hlabels : u.labels = s.labels := by rw [hu]
  rw [State.modLabels, hlabels, startHead_eq hjoined]
  rfl

/-! ## PACK-CLOSE and PACK-TARGET (R136 to R138, R148) -/

/-- The pack of a bay as a request closes it, before its label is admitted (R136). -/
theorem closePack_of_opened {closed : LabelState → Pack} {put : LabelState → State} (hb : s.packs.bays[b] = some p)
    (hclosed : ∀ l, closed l = { p with state := .closed, closing := some ⟨gatherFlags s p.lineage, .request, s.now, l, 0⟩ })
    (hput : ∀ l, put l = { s with packs := { s.packs with bays := s.packs.bays.set b (some (closed l)) } }) :
    closePack b .request s = reportPack b (admitLabel b p.number (put .waitingSlot)) := by
  simp only [closePack, hb, hput, hclosed]
  rfl

theorem reportPack_of_pack (hb : s.packs.bays[b] = some p) : reportPack b s = reporting [.packClosed b p] s := by
  rw [reportPack, hb]
  rfl

/-- Settles O40. -/
theorem packCloseAndTarget : Obligations.PackCloseAndTarget := by
  refine ⟨fun s tag b htakes => ?_, fun s tag payload htakes => ⟨fun c t hread => ?_, fun hread => ?_⟩⟩
  · have hread : readNumber 8 [byteOf b.val] = some b := readNumber_byteOf (by decide) b
    refine ⟨fun hrefused => ?_, fun p closed entry put hb hopened hclosed hput hentry => ?_⟩
    · refine exec_of_refuse (st := .state) htakes rfl ?_
      obtain hfree | ⟨p, hb, hstate⟩ := hrefused
      · simp only [actPackClose, hread, hfree]
      · simp only [actPackClose, hread, hb, if_neg hstate]
    · have hbay (l : LabelState) : (put l).packs.bays[b] = some (closed l) := by
        rw [hput]
        exact Vector.getElem_set_self b.isLt
      have hclosing (l : LabelState) : (closed l).closing = some ⟨gatherFlags s p.lineage, .request, s.now, l, 0⟩ := by
        rw [hclosed]
      have hlabel : { closed .waitingSlot with closing := some ⟨gatherFlags s p.lineage, .request, s.now, .queued, 0⟩ } =
          closed .queued := by
        rw [hclosed, hclosed]
      have hset (l : LabelState) : ({ put .waitingSlot with
          packs := { (put .waitingSlot).packs with bays := (put .waitingSlot).packs.bays.set b (some (closed l)) } } : State) =
          put l := by
        rw [hput, hput]
        dsimp only
        rw [Vector.set_set]
      have hlabels : (put .waitingSlot).labels = s.labels := by rw [hput]
      have hexec (t : State) (l : LabelState) (hadmit : admitLabel b p.number (put .waitingSlot) = t)
          (ht : t.packs.bays[b] = some (closed l)) :
          exec (.packClose tag [byteOf b.val]) s = .next (t.after [.packClosed b (closed l)] (replyTo 0x23 tag [0x00])) := by
        refine exec_eq_after htakes rfl _ ?_
        simp only [actPackClose, hread, hb, if_pos hopened]
        rw [closePack_of_opened hb hclosed hput, hadmit, reportPack_of_pack ht]
        rfl
      have hentry' : newEntry b p.number false = entry := by rw [hentry]; rfl
      refine ⟨fun hbehind hroom => ?_, fun e rest first record hempty hlineage hfirst hrecord => ?_, fun hfull => ?_⟩
      · refine hexec _ .queued ?_ (hbay .queued)
        rw [admitLabel, hlabels, if_pos hroom, joinLabels_behind (hbay _) (hclosing _) (by rw [hlabels]; exact hbehind), hlabels,
          hentry', hlabel]
        exact congrArg (fun u : State => ({ u with labels := { s.labels with queue := s.labels.queue ++ [entry] } } : State))
          (hset .queued)
      · refine hexec _ .queued ?_ (hbay .queued)
        have hcompose : composeLabel entry (put .queued) = some record := by
          rw [composeLabel_of_closed (e := entry) (by rw [hentry]; exact hbay .queued) (hclosing .queued)
            (by rw [hclosed]; exact hlineage) (by rw [hput]; exact hfirst)]
          rw [hput, hclosed, hrecord, hentry]
          rfl
        rw [admitLabel, hlabels, if_pos (by rw [hempty]; decide),
          joinLabels_head (u := put .queued) (hbay _) (hclosing _) (by rw [hlabels]; exact hempty) (by rw [hlabel, hset]),
          hentry', hcompose, hlabels]
      · refine hexec _ .waitingSlot ?_ ?_
        · rw [admitLabel, hlabels, if_neg (by omega), setLabel_eq (hbay _) (hclosing _)]
          have hsame : { closed .waitingSlot with
              closing := some ⟨gatherFlags s p.lineage, .request, s.now, .waitingSlot, 0⟩ } = closed .waitingSlot := by
            rw [hclosed]
          rw [hsame, hset, State.modLabels, hlabels]
          rfl
        · rw [raise_packs]
          exact hbay .waitingSlot
  · exact exec_of_done htakes rfl (by rw [actPackTarget, hread])
  · exact exec_of_refuse (st := .badArg) htakes rfl (by rw [actPackTarget, hread])

/-! ## REPRINT (R156) -/

/-- In an ordered list, the first entry that passes a test is the one behind which none smaller does. -/
theorem find?_of_first {test : Fin 8 → Bool} {xs : List (Fin 8)} (hordered : xs.Pairwise (· < ·)) (hmem : b ∈ xs) (hb : test b = true)
    (hfirst : ∀ a, a < b → test a = false) : xs.find? test = some b := by
  induction xs with
  | nil => cases hmem
  | cons x xs ih =>
    obtain ⟨hx, hxs⟩ := List.pairwise_cons.1 hordered
    obtain rfl | hlater := List.mem_cons.1 hmem
    · exact List.find?_cons_of_pos hb
    · rw [List.find?_cons_of_neg (by simp [hfirst x (hx b hlater)])]
      exact ih hxs hlater

/-- Settles O44. -/
theorem reprintQueuesTheLabelAgain : Obligations.ReprintQueuesTheLabelAgain := by
  intro s tag n htakes hn
  have hread := readPack_le hn
  have hbays (b : Fin 8) : b ∈ ([0, 1, 2, 3, 4, 5, 6, 7] : List (Fin 8)) := by fin_cases b <;> decide
  refine ⟨fun hnone => ?_, fun b p hb hnumber hprinted => ⟨fun hfull => ?_, fun c new u entry hc hfirst hnew hu hentry => ?_⟩⟩
  · have hsearch : s.packs.printedBay n = none := by
      refine List.find?_eq_none.2 fun b _ => ?_
      split
      case h_1 p hb => simpa using hnone b p hb
      case h_2 => decide
    exact exec_of_refuse (st := .notFound) htakes rfl (by rw [actReprint, hread]; dsimp only; rw [hsearch])
  · obtain ⟨b', hsearch⟩ : ∃ b', s.packs.printedBay n = some b' := by
      refine Option.isSome_iff_exists.1 (List.find?_isSome.2 ⟨b, hbays b, ?_⟩)
      rw [hb]
      simp [hnumber, hprinted]
    refine exec_of_refuse (st := .full) htakes rfl ?_
    rw [actReprint, hread]
    dsimp only
    rw [hsearch]
    exact if_pos hfull
  · have hsearch : s.packs.printedBay n = some b := by
      refine find?_of_first (by decide) (hbays b) (by rw [hb]; simp [hnumber, hprinted]) fun b' hbefore => ?_
      split
      case h_1 q hq => simpa using hfirst b' q hbefore hq
      case h_2 => rfl
    have hmod := modBay_eq (s := s) hb fun p =>
      { p with closing := p.closing.map fun c => { c with reprints := min 255 (c.reprints + 1) } }
    rw [hc] at hmod
    generalize hcounted : ({ p with closing := some { c with reprints := min 255 (c.reprints + 1) } } : Pack) = counted
    generalize hv : ({ s with packs := { s.packs with bays := s.packs.bays.set b (some counted) } } : State) = v
    have hmod' : (s.modBay b fun p =>
        { p with closing := p.closing.map fun c => { c with reprints := min 255 (c.reprints + 1) } }) = v := by
      rw [hmod, ← hv, ← hcounted]
      rfl
    have hvbay : v.packs.bays[b] = some counted := by
      rw [← hv]
      exact Vector.getElem_set_self b.isLt
    have hvclosing : counted.closing = some { c with reprints := min 255 (c.reprints + 1) } := by rw [← hcounted]
    have hvlabels : v.labels = s.labels := by rw [← hv]
    have hvu : u = { v with
        packs := { v.packs with
          bays := v.packs.bays.set b (some { counted with closing := some { c with reprints := min 255 (c.reprints + 1), label := .queued } }) } } := by
      rw [hu, ← hv, hnew, ← hcounted]
      dsimp only
      rw [Vector.set_set]
    have hentry' : newEntry b n true = entry := by rw [hentry]; rfl
    have hexec {t : State} (hroom : s.labels.queue.length < 4) (hjoin : joinLabels b n true v = t) :
        exec (.reprint tag (le 4 n)) s = .next (t.after [] (replyTo 0x28 tag [0x00])) := by
      refine exec_of_done htakes rfl ?_
      rw [actReprint, hread]
      dsimp only
      rw [hsearch]
      dsimp only
      rw [if_neg (by omega), hmod', hjoin]
    refine ⟨fun hbehind hroom => hexec hroom ?_, fun hempty => hexec (by rw [hempty]; decide) ?_⟩
    · rw [joinLabels_behind hvbay hvclosing (by rw [hvlabels]; exact hbehind), hvlabels, hentry', hvu]
    · rw [joinLabels_head hvbay hvclosing (by rw [hvlabels]; exact hempty) hvu, hentry', hvlabels]

end Sys2Proof.Proofs.LabelUnits
end

section
/-!
The exchange with the label printer (R152 to R155) and the waiting list (R149).
-/
namespace Sys2Proof.Proofs.Printing
open Sys2Proof.Machine Sys2Proof.Proofs.Answers Sys2Proof.Proofs.Reporting Sys2Proof.Proofs.LabelUnits
set_option Elab.async false

variable {s t : State} {p : Pack} {c : Closing} {e h : LabelEntry} {rest tail : List LabelEntry}

/-! ## Failed transmissions (R154, R155) -/

theorem startTransmission_eq (hqueue : s.labels.queue = e :: rest) : startTransmission s = { s with labels := { s.labels with
    queue := { e with transmissions := min 65535 (e.transmissions + 1) } :: rest
    link := .sending
    answerTimer := none
    retryTimer := some 0 } } := by
  simp only [startTransmission, State.modLabels, LabelUnit.transmit, LabelUnit.modHead, hqueue]

theorem transmissionFailed_again (hreported : e.timeoutReported = true) :
    transmissionFailed e s = { s with labels := { s.labels with link := .retryWait, answerTimer := none } } := by
  rw [transmissionFailed, if_pos hreported]
  rfl

theorem transmissionFailed_first (hqueue : s.labels.queue = e :: rest) (hreported : e.timeoutReported = false) :
    transmissionFailed e s = ({ raise .printerTimeout .packing (.packing (some e.pack) s.labels.queue.length)
        { s with labels := { s.labels with queue := { e with timeoutReported := true } :: rest } } with
      labels := { s.labels with
        queue := { e with timeoutReported := true } :: rest, link := .retryWait, answerTimer := none } } : State) := by
  have hmod : s.modLabels (LabelUnit.modHead fun e => { e with timeoutReported := true }) =
      { s with labels := { s.labels with queue := { e with timeoutReported := true } :: rest } } := by
    simp only [State.modLabels, LabelUnit.modHead, hqueue]
  rw [transmissionFailed, if_neg (by simp [hreported]), hmod, raisePacking, State.modLabels, raise_labels, hqueue]
  rfl

/-! ## An acknowledged label (R149, R153) -/

/-- The acknowledged pack is LABELLED and PRINTED, its label reported, and its entry has left. -/
theorem labelAcknowledged_eq {new : Pack} {u : State} {done : Report} (hlink : s.labels.link = .answerWait)
    (hqueue : s.labels.queue = e :: rest) (hb : s.packs.bays[e.bay] = some p) (hc : p.closing = some c)
    (hnew : new = { p with state := .labelled, closing := some { c with label := .printed } })
    (hu : u = { s with packs := { s.packs with bays := s.packs.bays.set e.bay (some new) } })
    (hdone : done = .labelDone e.bay e.pack e.reprint c.reprints e.transmissions)
    (hserved : serveWaiting (reporting [done] { u with labels := { s.labels with queue := rest, head := none } }) = t) :
    labelAcknowledged s = if t.labels.queue.isEmpty then t.modLabels LabelUnit.idle else startHead t := by
  have hmod : (s.modBay e.bay fun p =>
      { p with state := .labelled, closing := p.closing.map fun c => { c with label := .printed } }) = u := by
    rw [modBay_eq hb, hc, hu, hnew]
    rfl
  have hbay : u.packs.bays[e.bay] = some new := by
    rw [hu]
    exact Vector.getElem_set_self e.bay.isLt
  have hreport : reportLabel e u = queueReport done u := by
    rw [reportLabel, hbay, hdone, hnew]
    rfl
  have hleft : (queueReport done u).modLabels (fun l => { l with queue := rest, head := none }) =
      reporting [done] { u with labels := { s.labels with queue := rest, head := none } } := by
    rw [State.modLabels, queueReport_labels, hu]
    rfl
  rw [labelAcknowledged, hlink, hqueue]
  dsimp only
  rw [hmod, hreport, hleft, hserved]

theorem serveWaiting_of_none (h : s.labels.waiting = []) : serveWaiting s = s := by
  rw [serveWaiting, h]

theorem serveWaiting_of_pack {w : WaitingPack} {ws : List WaitingPack} {q : Pack} {d : Closing} (h : s.labels.waiting = w :: ws)
    (hb : s.packs.bays[w.bay] = some q) (hd : q.closing = some d) :
    serveWaiting s = { s with
      packs := { s.packs with bays := s.packs.bays.set w.bay (some { q with closing := some { d with label := .queued } }) }
      labels := { s.labels with queue := s.labels.queue ++ [newEntry w.bay w.pack false], waiting := ws } } := by
  rw [serveWaiting, h]
  exact setLabel_eq (s := s.modLabels fun u => { u with queue := u.queue ++ [newEntry w.bay w.pack false], waiting := ws }) hb hd .queued

/-- The record of the new head does not turn on what has been reported. -/
theorem startHead_reporting {reports : List Report} (hqueue : s.labels.queue = h :: tail) :
    startHead (reporting reports s) = reporting reports { s with labels := s.labels.sends (composeLabel h s) h tail } := by
  have hlabels : (reporting reports s).labels = s.labels := by rw [reporting_eq]
  have hcompose : composeLabel h (reporting reports s) = composeLabel h s :=
    composeLabel_congr (reporting_packs _ s) (reporting_charges _ s) (by rw [reporting_eq]) (Weighing.reporting_now _ s)
  rw [startHead_eq (by rw [hlabels]; exact hqueue), hcompose, hlabels, reporting_eq, reporting_eq]

/-- Where a label waits, the new head is composed and sent (R153 step 5). -/
theorem ended_reporting {reports : List Report} (hqueue : s.labels.queue = h :: tail) :
    (if (reporting reports s).labels.queue.isEmpty then (reporting reports s).modLabels LabelUnit.idle
      else startHead (reporting reports s)) =
      reporting reports { s with labels := s.labels.sends (composeLabel h s) h tail } := by
  have hlabels : (reporting reports s).labels = s.labels := by rw [reporting_eq]
  rw [hlabels, hqueue, startHead_reporting hqueue]
  exact if_neg (by simp)

/-- Settles O43. -/
theorem labelExchange : Obligations.LabelExchange := by
  refine ⟨fun s e rest sent ho hqueue hsent => ⟨fun hlink => ?_, fun hlink => ?_, fun hlink => ⟨fun u hu => ?_, fun hreported => ?_,
    fun u hreported hu => ?_⟩, fun line hline => ?_⟩, fun s e rest p new c u done ho hlink hqueue hb hc hnew hu hdone => ?_⟩
  · refine exec_event_eq_after ho rfl [] ?_
    rw [labelSent, hlink]
    rfl
  · refine exec_event_eq_after ho rfl [] ?_
    rw [labelRetry, hlink, hqueue]
    dsimp only
    rw [startTransmission_eq hqueue, hsent]
    rfl
  · have hrejected : labelRejected s = if e.nakResendUsed then transmissionFailed e u
        else startTransmission (u.modLabels (LabelUnit.modHead fun e => { e with nakResendUsed := true })) := by
      rw [labelRejected, hlink, hqueue, hu]
      simp only [raisePacking, hqueue]
    have hulabels : u.labels = s.labels := by rw [hu, raise_labels]
    refine ⟨fun hfirst => ?_, fun hagain hreported => ?_, fun w hagain hreported hw => ?_⟩
    all_goals
      refine exec_event_eq_after ho rfl [] ?_
      show labelRejected s = _
      rw [hrejected]
    · have hmod : u.modLabels (LabelUnit.modHead fun e => { e with nakResendUsed := true }) =
          { u with labels := { s.labels with queue := { e with nakResendUsed := true } :: rest } } := by
        simp only [State.modLabels, LabelUnit.modHead, hulabels, hqueue]
      rw [if_neg (by simp [hfirst]), hmod, startTransmission_eq rfl, hsent]
      rfl
    · rw [if_pos hagain, transmissionFailed_again hreported, hulabels]
      rfl
    · rw [if_pos hagain, transmissionFailed_first (by rw [hulabels]; exact hqueue) hreported, hw, raise_labels, hulabels]
      rfl
  · constructor
    all_goals
      refine exec_event_eq_after ho rfl [] ?_
      show labelUnanswered s = _
      rw [labelUnanswered, hlink, hqueue]
      exact transmissionFailed_again hreported
  · constructor
    all_goals
      refine exec_event_eq_after ho rfl [] ?_
      show labelUnanswered s = _
      rw [labelUnanswered, hlink, hqueue]
      dsimp only
      rw [transmissionFailed_first hqueue hreported, hu, raise_labels]
      rfl
  · refine exec_event_eq_after ho rfl [] ?_
    rw [otherLine, hline]
    rfl
  · have hexec {v : State} (hv : labelAcknowledged s = reporting [done] v) : exec .ackReceived s = .next (v.after [done] none) :=
      exec_event_eq_after ho rfl [done] hv
    have hulabels : u.labels = s.labels := by rw [hu]
    refine ⟨fun hnone => ⟨fun hlast => hexec ?_, fun h tail hnext => hexec ?_⟩,
      fun w ws q d v h tail hwaiting hother hq hd hv hnext => hexec ?_⟩
    · rw [labelAcknowledged_eq hlink hqueue hb hc hnew hu hdone (serveWaiting_of_none hnone)]
      rw [hlast]
      refine (if_pos rfl).trans ?_
      rw [State.modLabels, reporting_eq, reporting_eq]
      simp only [LabelUnit.idle, hnone]
    · rw [labelAcknowledged_eq hlink hqueue hb hc hnew hu hdone (serveWaiting_of_none hnone), ended_reporting (by exact hnext)]
      rfl
    · have hqu : u.packs.bays[w.bay] = some q := by
        rw [hu]
        exact (Vector.getElem_set_ne e.bay.isLt w.bay.isLt (by omega)).trans hq
      have hserved : serveWaiting (reporting [done] { u with labels := { s.labels with queue := rest, head := none } }) =
          reporting [done] { v with labels := { s.labels with
            queue := rest ++ [newEntry w.bay w.pack false], head := none, waiting := ws } } := by
        rw [serveWaiting_of_pack (s := reporting [done] ({ u with labels := { s.labels with queue := rest, head := none } } : State)) hwaiting hqu hd, hv, reporting_eq, reporting_eq]
      rw [labelAcknowledged_eq hlink hqueue hb hc hnew hu hdone hserved, ended_reporting (by exact hnext)]
      rfl

end Sys2Proof.Proofs.Printing
end

section
/-!
The four starts (R191 to R193): what a cold and a warm start leave of every block.
-/
namespace Sys2Proof.Proofs.Starts
open Sys2Proof.Machine Sys2Proof.Proofs.Answers Sys2Proof.Proofs.Invariants Sys2Proof.Proofs.KilnEvents Sys2Proof.Proofs.Transmitter
set_option Elab.async false

variable {s t : State} {i : StartInputs} {cause : StartCause} {c : ChargeRecord} {p : Port}

/-! ## The store and START (R14, R191) -/

theorem vec8_getElem {α : Type} (f : Fin 8 → α) (n : Fin 8) : (vec8 f)[n] = f n := by
  fin_cases n <;> rfl

theorem storeChecked_of_store (h : t.store = s.store.checked i) : s.storeChecked i t := by
  rw [State.storeChecked, h]
  refine ⟨rfl, rfl, rfl, fun n => (vec16_getElem _ n).trans ?_, fun n => (vec8_getElem _ n).trans ?_⟩
  · cases s.store.slots[n] <;> rfl
  · cases s.store.species[n] <;> rfl

/-- START is begun at once by a port whose queues are empty, where it is subscribed (R191, R193). -/
theorem begin_start {report : Report} (hreport : report.kind.index = 0) (hfree : p.sending = none) (hreplies : p.replies = [])
    (hrestart : p.restart = .none) (hreports : p.reports = []) (hgap : p.gap = false) :
    (p.queue report).begin =
      { p with sending := if p.subscribed.getLsbD 0 then some (.report report false) else none } := by
  unfold Port.queue
  rw [hreport]
  cases hsubscribed : p.subscribed.getLsbD 0 with
  | false =>
    rw [if_pos rfl, begin_none hreplies hreports, if_neg (by decide), ← hfree]
  | true =>
    rw [if_neg (by decide)]
    dsimp only
    rw [if_pos (by simp [hreports])]
    refine (begin_report (p := { p with reports := p.reports ++ [⟨report, p.highKinds.getLsbD 0⟩] }) (older := [])
      (younger := []) (e := ⟨report, p.highKinds.getLsbD 0⟩) hfree hreplies hrestart (by rw [hreports]) ?_).trans ?_
    · cases p.highKinds.getLsbD 0 <;> simp
    · rw [hgap, hreports]
      rfl

/-! ## Cold starts -/

theorem coldStart_started {causes : StartCauses} (hcauses : causesAfter cause s.port.causes = causes) :
    s.coldStarted i cause causes (beginTransmit (coldStart cause i s)) := by
  refine ⟨rfl, storeChecked_of_store rfl, rfl, fun k => coldKilns_getElem k, rfl,
    fun n => coldTerminals_getElem i.pins n, rfl, rfl, rfl, rfl, fun k => ?_, rfl, ?_⟩
  · cases k <;> exact ⟨rfl, rfl, rfl⟩
  · show ((coldPort (causesAfter cause s.port.causes)).queue _).begin = _
    rw [hcauses]
    have hsubscribed : coldSubscribed.getLsbD 0 = true := by decide
    exact (begin_start (p := coldPort causes) (report := .start false cause causes 0 false) rfl rfl rfl rfl rfl rfl).trans
      (congrArg (fun m => ({ coldPort causes with sending := m } : Port)) (if_pos hsubscribed))

/-- Settles O54. -/
theorem coldStartsSettleEveryBlock : Obligations.ColdStartsSettleEveryBlock := fun _ _ =>
  ⟨⟨_, rfl, coldStart_started rfl⟩, ⟨_, rfl, coldStart_started rfl⟩⟩

/-! ## The charge records of a warm start (R48, R52) -/

/-- One board of the queue settled in its record. -/
theorem countCharge_records (b : Board) (f : ChargeRecord → ChargeRecord) (n : Fin 12) (h : s.charges.records[n] = some c) :
    (countCharge b.charge f s).charges.records[n] = some (if b.charge = some c.number then f c else c) := by
  cases hb : b.charge with
  | none => simpa [countCharge] using h
  | some m =>
    have hmod : (s.modCharge m f).charges.records[n] = (s.charges.records[n]).map fun c => if c.number = m then f c else c :=
      vmap_getElem _ _ n.val n.isLt
    rw [countCharge, hmod, h]
    simp [eq_comm]

theorem untrack_counts (pending : Bool) (c : ChargeRecord) : ∃ untracked,
    c.untrack pending = { c with inFlight := c.inFlight - 1, counts := { c.counts with untracked := untracked } } ∧
    (pending = false → untracked = c.counts.untracked) ∧
    (c.counts.untracked < 4294967295 → untracked = c.counts.untracked + if pending then 1 else 0) := by
  cases pending with
  | false => exact ⟨c.counts.untracked, rfl, fun _ => rfl, fun _ => rfl⟩
  | true => exact ⟨raiseCount c.number c.counts.untracked, rfl, fun h => (nomatch h), fun h => raiseCount_of_lt h⟩

/-- The boards of a queue settled one by one: one less in flight for each of the charge, one more untracked for each PENDING. -/
theorem untrackBoards_record (boards : List Board) (n : Fin 12) (h : s.charges.records[n] = some c) :
    ∃ untracked,
      (untrackBoards boards s).charges.records[n] = some
        { c with
          inFlight := c.inFlight - boards.countP (fun b => decide (b.charge = some c.number))
          counts := { c.counts with untracked := untracked } } ∧
      (c.counts.untracked + boards.countP (fun b => decide (b.charge = some c.number) && decide (b.decision = .pending)) ≤ 4294967295 ∨
        boards.countP (fun b => decide (b.charge = some c.number) && decide (b.decision = .pending)) = 0 →
        untracked = c.counts.untracked +
          boards.countP (fun b => decide (b.charge = some c.number) && decide (b.decision = .pending))) := by
  induction boards generalizing s c with
  | nil => exact ⟨c.counts.untracked, h, fun _ => rfl⟩
  | cons b boards ih =>
    have hfirst := countCharge_records b (ChargeRecord.untrack (decide (b.decision = .pending))) n h
    by_cases hb : b.charge = some c.number
    · obtain ⟨u, hu, hnot, hroom⟩ := untrack_counts (decide (b.decision = .pending)) c
      rw [if_pos hb, hu] at hfirst
      obtain ⟨untracked, hrest, hcount⟩ := ih hfirst
      refine ⟨untracked, hrest.trans ?_, fun hbound => ?_⟩
      · simp only [List.countP_cons, hb, decide_true, if_true, Nat.sub_sub, Nat.add_comm]
      · dsimp only at hcount
        by_cases hpending : b.decision = .pending
        · simp only [List.countP_cons, hb, hpending, decide_true, Bool.and_self, if_true] at hbound hroom ⊢
          have hlt : c.counts.untracked < 4294967295 := by omega
          rw [hcount (by rw [hroom hlt]; omega), hroom hlt]
          omega
        · simp only [List.countP_cons, hb, hpending, decide_true, decide_false, Bool.and_false, Bool.false_eq_true, if_false,
            Nat.add_zero] at hbound hnot ⊢
          rw [hnot trivial] at hcount
          exact hcount hbound
    · rw [if_neg hb] at hfirst
      obtain ⟨untracked, hrest, hcount⟩ := ih hfirst
      have hskip (p : Board → Bool) : (b :: boards).countP (fun b => decide (b.charge = some c.number) && p b) =
          boards.countP (fun b => decide (b.charge = some c.number) && p b) := by
        simp [hb]
      have hskip' : (b :: boards).countP (fun b => decide (b.charge = some c.number)) =
          boards.countP (fun b => decide (b.charge = some c.number)) := by
        simp [hb]
      exact ⟨untracked, by rw [hskip']; exact hrest, by rw [hskip]; exact hcount⟩

theorem untrackBoards_tally (boards : List Board) (s : State) : (untrackBoards boards s).charges.tally = s.charges.tally := by
  induction boards generalizing s with
  | nil => rfl
  | cons b boards ih =>
    refine (ih _).trans ?_
    show (countCharge b.charge _ s).charges.tally = s.charges.tally
    cases b.charge <;> rfl

theorem untrackBoards_none (boards : List Board) (n : Fin 12) (h : s.charges.records[n] = none) :
    (untrackBoards boards s).charges.records[n] = none := by
  induction boards generalizing s with
  | nil => exact h
  | cons b boards ih =>
    refine ih ?_
    show (countCharge b.charge _ s).charges.records[n] = none
    cases b.charge with
    | none => exact h
    | some m =>
      refine (vmap_getElem _ _ n.val n.isLt).trans ?_
      show (s.charges.records[n]).map _ = none
      rw [h]
      rfl

/-! ## Warm starts -/

theorem settleRecords_charges (s : State) : ∃ charges, settleRecords s = { s with charges := charges } := by
  obtain ⟨charges, h⟩ := untrackBoards_eq s.line.queue s
  rw [settleRecords_eq, h]
  exact ⟨_, rfl⟩

theorem restarted_of_running {c : Kiln} {ph : Phase} (h : c.state = ph.state) : c.restarted =
    { c with state := .hold, resume := some ph, level := 1, measured := c.measured.map fun m => { m with stale := true } } := by
  have hrunning : c.state.running = true := by rw [h]; cases ph <;> rfl
  unfold Kiln.restarted
  rw [if_pos hrunning, caused_of_phase .hold 1 h]
  rfl

theorem restarted_of_resting {c : Kiln} (h : c.state.running = false) :
    c.restarted = { c with measured := c.measured.map fun m => { m with stale := true } } := by
  unfold Kiln.restarted
  rw [if_neg (by simp [h])]

theorem holder_congr (h : ∀ n : Fin 16, t.terminals[n].fn = s.terminals[n].fn) (f : TermFn) : t.holder f = s.holder f := by
  unfold State.holder
  refine congrArg (fun test => List.find? test _) (funext fun n => ?_)
  rw [h n]

theorem restarted_fn (pinHigh : Bool) (i : StartInputs) (r : Terminal) : (r.restarted pinHigh i).fn = r.fn := by
  unfold Terminal.restarted
  split <;> rfl

theorem restarted_of_digital {r : Terminal} (h : r.fn.digitalInput = true) (pinHigh : Bool) (i : StartInputs) :
    r.restarted pinHigh i = { r with pinHigh := pinHigh, input := r.polarity.through pinHigh, waiting := none } := by
  unfold Terminal.restarted
  split
  case h_1 | h_2 | h_3 | h_4 | h_5 => rfl
  all_goals
    rename_i hfn
    rw [hfn] at h
    cases h

/-- The tracker's view of a function that a digital input holds, read afresh (R104, R131). -/
theorem view_restarted {f : TermFn} (hf : f.digitalInput = true) {n : Fin 16} (hholder : s.holder f = some n)
    (ht : ∀ n : Fin 16, t.terminals[n] = s.terminals[n].restarted (i.pins.getLsbD n) i) :
    t.view f = s.terminals[n].polarity.through (i.pins.getLsbD n) := by
  have hfn : s.terminals[n].fn = f := holder_fn hholder
  have hsame : t.holder f = s.holder f := holder_congr (fun n => by rw [ht n, restarted_fn]) f
  rw [State.view, hsame, hholder]
  dsimp only
  rw [ht n, restarted_of_digital (by rw [hfn]; exact hf)]

theorem view_restarted_none {f : TermFn} (hholder : s.holder f = none)
    (ht : ∀ n : Fin 16, t.terminals[n] = s.terminals[n].restarted (i.pins.getLsbD n) i) : t.view f = false := by
  have hsame : t.holder f = s.holder f := holder_congr (fun n => by rw [ht n, restarted_fn]) f
  rw [State.view, hsame, hholder]

theorem settleRecords_some {n : Fin 12} (h : s.charges.records[n] = some c) : ∃ (untracked : Nat) (d : ChargeRecord),
    (c.counts.untracked + s.pendingOf c.number ≤ 4294967295 ∨ s.pendingOf c.number = 0 →
      untracked = c.counts.untracked + s.pendingOf c.number) ∧
    d = { s.settledRecord c with counts := { c.counts with untracked := untracked } } ∧
    (settleRecords s).charges.records[n] = if d.state = .closed ∧ d.inFlight = 0 ∧ d.packRefs = 0 then none else some d := by
  obtain ⟨untracked, hrecord, hcount⟩ := untrackBoards_record s.line.queue n h
  refine ⟨untracked, _, hcount, rfl, ?_⟩
  rw [settleRecords_eq]
  refine (vmap_getElem _ _ n.val n.isLt).trans ?_
  show ((untrackBoards s.line.queue s).charges.records[n]).bind _ = _
  rw [hrecord, Option.bind_some]
  simp only [ChargeRecord.freeable, Bool.and_eq_true, decide_eq_true_eq, and_assoc]
  rfl

theorem settleRecords_none {n : Fin 12} (h : s.charges.records[n] = none) : (settleRecords s).charges.records[n] = none := by
  rw [settleRecords_eq]
  refine (vmap_getElem _ _ n.val n.isLt).trans ?_
  show ((untrackBoards s.line.queue s).charges.records[n]).bind _ = _
  rw [untrackBoards_none s.line.queue n h]
  rfl

theorem warmStart_started {causes : StartCauses} {receiver : Receiver} (hcauses : causesAfter cause s.port.causes = causes)
    (hreceiver : receiverAfter i.lineIdle cause = receiver) :
    s.warmStarted i cause causes receiver (beginTransmit (warmStart cause i s)) := by
  obtain ⟨charges, hsettled⟩ := settleRecords_charges s
  generalize hu : beginTransmit (warmStart cause i s) = u
  have hkilns : u.kilns = vmap Kiln.restarted s.kilns := by
    rw [← hu]
    show vmap Kiln.restarted (settleRecords s).kilns = _
    rw [hsettled]
  have hbus : u.bus = restartedBus (vmap Kiln.restarted s.kilns) := by
    rw [← hu]
    show restartedBus (vmap Kiln.restarted (settleRecords s).kilns) = _
    rw [hsettled]
  have hterminals (n : Fin 16) : u.terminals[n] = s.terminals[n].restarted (i.pins.getLsbD n) i := by
    rw [← hu]
    refine (vec16_getElem _ n).trans ?_
    rw [hsettled]
  have hlabels : u.labels = s.labels.restarted := by
    rw [← hu]
    show (settleRecords s).labels.restarted = _
    rw [hsettled]
  obtain ⟨w, hw, hline⟩ : ∃ w : State, w.terminals = u.terminals ∧
      u.line = s.line.restarted (w.view .infeedEye) (w.view .outfeedEye) := by
    have hsame : (settleRecords s).line = s.line := by rw [hsettled]
    rw [← hu]
    refine ⟨_, ?_, congrArg (Line.restarted _ _) hsame⟩
    rfl
  have hview (n : Fin 16) : w.terminals[n] = s.terminals[n].restarted (i.pins.getLsbD n) i := by
    rw [hw]
    exact hterminals n
  have hstore : u.store = s.store.checked i := by
    rw [← hu]
    show (settleRecords s).store.checked i = _
    rw [hsettled]
  have hcharges : u.charges = (settleRecords s).charges := by
    rw [← hu]
    rfl
  have hport : u.port = { s.port with
      receiver := receiver, requests := [], replies := [], reports := []
      sending := if s.port.subscribed.getLsbD 0 then
          some (.report (.start true cause causes s.port.clock s.port.clockSet) false) else none
      restart := .none, gap := false, dropOwed := none
      supervision := s.port.supervision.map fun v => { v with remaining := v.count * v.unit }
      causes := causes } := by
    rw [← hu]
    show (((settleRecords s).port.restarted i.lineIdle cause).queue (.start true cause
      (causesAfter cause (settleRecords s).port.causes) (settleRecords s).port.clock (settleRecords s).port.clockSet)).begin = _
    rw [hsettled]
    dsimp only
    rw [begin_start rfl rfl rfl rfl rfl rfl, hcauses, Port.restarted, hcauses, hreceiver]
  have hkiln (k : Fin 6) : u.kilns[k] = s.kilns[k].restarted := by
    rw [hkilns]
    exact vmap_getElem _ _ k.val k.isLt
  refine ⟨?_, ?_, ?_, ?_, ?_, storeChecked_of_store hstore, fun n hn => ?_, fun n c hc => ?_,
    fun k measured hmeasured => ⟨fun ph hph => ?_, fun hresting => ?_, ?_⟩,
    by rw [hbus]; rfl, by rw [hbus]; rfl, fun n r hr => ?_, ?_, ?_, ?_, fun hempty => ?_, fun e rest hqueue => ?_, hport⟩
  · rw [← hu]
    show (settleRecords s).pending = _
    rw [hsettled]
  · rw [← hu]
    show (settleRecords s).faults = _
    rw [hsettled]
  · rw [← hu]
    show (settleRecords s).packs = _
    rw [hsettled]
  · rw [← hu]
    show (settleRecords s).freeCount = _
    rw [hsettled]
  · rw [hcharges, settleRecords_eq]
    exact untrackBoards_tally _ _
  · rw [hcharges]
    exact settleRecords_none hn
  · rw [hcharges]
    exact settleRecords_some hc
  · rw [hkiln, restarted_of_running hph, hmeasured]
  · rw [hkiln, restarted_of_resting hresting, hmeasured]
  · rw [hbus, hkilns]
    exact vec6_getElem _ k
  · rw [hterminals n, hr]
    refine ⟨fun hdigital => restarted_of_digital hdigital _ _, fun hfn => ?_, fun hfn => ?_, fun hfn => ?_, fun hfn => ?_, fun hfn => ?_⟩
    all_goals obtain ⟨⟩ := r
    case refine_4 => obtain hfn | hfn := hfn <;> cases hfn <;> rfl
    all_goals
      cases hfn
      rfl
  · rw [hline]
    rfl
  · rw [hline]
    cases hholder : s.holder .infeedEye with
    | none => exact view_restarted_none hholder hview
    | some n => exact view_restarted rfl hholder hview
  · rw [hline]
    cases hholder : s.holder .outfeedEye with
    | none => exact view_restarted_none hholder hview
    | some n => exact view_restarted rfl hholder hview
  · rw [hlabels, LabelUnit.restarted, hempty]
    rfl
  · rw [hlabels, LabelUnit.restarted, hqueue]
    simp only [List.isEmpty_cons, Bool.false_eq_true, if_false, LabelUnit.transmit, LabelUnit.modHead, hqueue]

/-- Settles O55. -/
theorem warmStartsKeepTheRecords : Obligations.WarmStartsKeepTheRecords := by
  intro s i ho
  refine ⟨⟨_, ?_, warmStart_started rfl rfl⟩, fun hdue => ⟨_, ?_, warmStart_started rfl rfl⟩, fun hnot => ?_⟩
  · show Host.Outcome.next (event (warmStart .lineBreak i) s) = _
    rw [event_of ho]
  · show Host.Outcome.next (event (fun s => if s.port.restart = .due then warmStart .restart i s else s) s) = _
    rw [event_of ho, if_pos hdue]
  · exact exec_event_eq_after (f := fun s => if s.port.restart = .due then warmStart .restart i s else s) ho rfl [] (if_neg hnot)

end Sys2Proof.Proofs.Starts
end

section
/-!
Decisions of the board tracker (sections 2.5, 7.8, 7.9): what a raise leaves of the line, a decision counted and reported, and the
trailing edge at the meter head.
-/
namespace Sys2Proof.Proofs.Decisions
open Sys2Proof.Machine Sys2Proof.Proofs.Answers Sys2Proof.Proofs.Reporting
set_option Elab.async false

variable {s t u v : State} {b : Board} {n i : Nat} {c : ChargeRecord} {d : Decision} {mean : Option Nat}

/-! ## The line behind a raise (R115) -/

/-- One line differs from another in its state, return state and LINE_STOP demand alone. -/
def stateOnly (l m : Line) : Prop := m = { l with state := m.state, returnTo := m.returnTo, stopDemand := m.stopDemand }

theorem stateOnly.refl (l : Line) : stateOnly l l := rfl

theorem stateOnly.trans {l m k : Line} (h : stateOnly l m) (g : stateOnly m k) : stateOnly l k := by
  rw [stateOnly, g, h]

theorem stateOnly.infeed {l m : Line} (h : stateOnly l m) : m.infeed = l.infeed := by
  rw [h]

theorem stateOnly_trip (cause : LineCause) (s : State) : stateOnly s.line (trip cause s).line := by
  unfold trip
  split <;> rfl

theorem stateOnly_raise (kind : FaultKind) (domain : Domain) (x : FaultContext) (s : State) :
    stateOnly s.line (raise kind domain x s).line := by
  unfold raise
  dsimp only
  split
  · exact .refl _
  split
  · exact .refl _
  unfold applyActions
  dsimp only
  have htrip (b : Bool) (t : State) (ht : t.line = s.line) : stateOnly s.line (if b = true then trip .fault t else t).line := by
    cases b
    · exact ht ▸ .refl _
    · exact ht ▸ stateOnly_trip .fault t
  refine htrip _ _ ?_
  split
  · rw [applyCauses_line]
    split <;> rfl
  · split <;> rfl

theorem raise_position (kind : FaultKind) (domain : Domain) (x : FaultContext) (s : State) :
    (raise kind domain x s).line.position = s.line.position := by
  rw [stateOnly_raise kind domain x s]

/-! ## A decision counted (R32, R45) -/

theorem decided_number (d : Decision) (mean : Option Nat) (c : ChargeRecord) :
    (c.decided d mean).number = c.number ∧ (c.decided d mean).redryHigh = c.redryHigh ∧
      (c.decided d mean).counts = c.counts.decided c.number d := by
  unfold ChargeRecord.decided
  cases mean with
  | none => exact ⟨rfl, rfl, rfl⟩
  | some m => dsimp only; split <;> exact ⟨rfl, rfl, rfl⟩

/-- REDRY is counted into the tally of the species too. -/
def tallied (d : Decision) (species : Fin 8) (s : State) : State := if d = .redry then raiseTally species s else s

theorem tallied_line (d : Decision) (species : Fin 8) (s : State) : (tallied d species s).line = s.line := by
  unfold tallied
  split <;> rfl

/-- A decision of a board of a charge: the counts, the tally and the redry rate test. -/
theorem countDecision_of_charge (hb : b.charge = some n) (hc : s.charge? n = some c)
    (hmean : (b.figures.bind (·.moisture)).map (·.mean) = mean) (hu : u = s.modCharge n (ChargeRecord.decided b.decision mean))
    (hv : v = tallied b.decision c.species u) :
    countDecision b s =
      if c.redryHigh = false ∧ b.decision.measured = true ∧
          redryExceeds s.line.config.redryLimit (c.decided b.decision mean).counts = true then
        raise .redryHigh .line (.line (some b.number) (some n) (s.leading b)) (v.modCharge n fun c => { c with redryHigh := true })
      else v := by
  have hcounted : v.charge? n = some (c.decided b.decision mean) := by
    have hu' : u.charge? n = some (c.decided b.decision mean) := by
      rw [hu, charge?_modCharge n _ fun c => (decided_number b.decision mean c).1, hc]
      rfl
    rw [hv, tallied]
    split <;> exact hu'
  have hline : v.line = s.line := by rw [hv, tallied_line, hu]; rfl
  have hlead : v.leading b = s.leading b := by rw [State.leading, hline]; rfl
  have hcount : countDecision b s = if b.decision.measured then testRedryRate b n v else v := by
    rw [countDecision, hb]
    dsimp only
    rw [hc]
    dsimp only
    rw [hmean, ← hu, hv, tallied]
  rw [hcount, testRedryRate, hcounted]
  dsimp only
  rw [(decided_number b.decision mean c).2.1, hline, hlead]
  cases b.decision.measured <;> cases c.redryHigh <;>
    cases redryExceeds s.line.config.redryLimit (c.decided b.decision mean).counts <;> rfl

theorem redryExceeds_iff {limit : Nat} {counts : PlanerCounts} : redryExceeds limit counts = true ↔
    20 ≤ counts.accepted + counts.redry + counts.rejected ∧
      limit * (counts.accepted + counts.redry + counts.rejected) < counts.redry * 1000 := by
  simp [redryExceeds]

theorem measured_iff (h : d ≠ .pending) : d.measured = true ↔ d ≠ .unmeasured := by
  cases d with
  | pending => exact absurd rfl h
  | unmeasured => exact ⟨fun h => (nomatch h), fun h => absurd rfl h⟩
  | accept | redry | reject => exact ⟨fun _ => by simp, fun _ => rfl⟩

theorem tallied_packs (d : Decision) (species : Fin 8) (s : State) :
    (tallied d species s).packs = s.packs ∧ (tallied d species s).labels = s.labels := by
  unfold tallied
  split <;> exact ⟨rfl, rfl⟩

/-- What a decision counted into its charge leaves alone. -/
theorem countDecision_leaves (b : Board) (s : State) : (countDecision b s).line.position = s.line.position ∧
    (countDecision b s).packs = s.packs ∧ (countDecision b s).labels = s.labels := by
  cases hb : b.charge with
  | none =>
    rw [countDecision, hb]
    exact ⟨rfl, rfl, rfl⟩
  | some n =>
    cases hc : s.charge? n with
    | none =>
      rw [countDecision, hb]
      dsimp only
      rw [hc]
      exact ⟨rfl, rfl, rfl⟩
    | some c =>
      obtain ⟨hpacks, hlabels⟩ := tallied_packs b.decision c.species
        (s.modCharge n (ChargeRecord.decided b.decision ((b.figures.bind (·.moisture)).map (·.mean))))
      have hline := tallied_line b.decision c.species
        (s.modCharge n (ChargeRecord.decided b.decision ((b.figures.bind (·.moisture)).map (·.mean))))
      rw [countDecision_of_charge hb hc rfl rfl rfl]
      split
      · rw [raise_position, raise_packs, raise_labels]
        exact ⟨congrArg Line.position hline, hpacks, hlabels⟩
      · exact ⟨congrArg Line.position hline, hpacks, hlabels⟩

theorem boardReport_of_line (h : t.line.position = s.line.position) (b : Board) : t.boardReport b = s.boardReport b := by
  rw [State.boardReport, State.leading, h]
  rfl

theorem reportBoard_countDecision {b' : Board} (h : t.line.position = s.line.position) :
    reportBoard b' (countDecision b' t) = queueReport (s.boardReport b') (countDecision b' t) := by
  rw [← boardReport_of_line (s := s) (t := countDecision b' t) ((countDecision_leaves b' t).1.trans h)]
  rfl

/-! ## Decisions at the meter head and at the redry gate (R124, R125) -/

theorem askPlace_of_none {cls : Fin 4} {x : State} (hplace : s.packs.hasPlace cls = false)
    (hx : x = raise .bayBlock .packing (.packing none s.labels.queue.length) s) :
    (∀ ret : ReturnState, x.line.state = ret.state →
      askPlace cls s = queueReport ((x.lineIn .blocked (some ret)).lineReport .bay) (x.lineIn .blocked (some ret))) ∧
    (x.line.state ≠ .running → x.line.state ≠ .draining → askPlace cls s = x) := by
  have hraised : raisePacking .bayBlock none s = x := hx.symm
  unfold askPlace
  rw [hplace, if_neg (by decide), hraised]
  dsimp only
  refine ⟨fun ret hret => ?_, fun hrunning hdraining => ?_⟩
  · cases ret <;> rw [hret] <;> exact LineStop.enterLine_eq ..
  · cases hstate : x.line.state with
    | running => exact absurd hstate hrunning
    | draining => exact absurd hstate hdraining
    | stopped | blocked | tripped => rfl

/-- Settles O37. -/
theorem decisionIsCountedAndReported : Obligations.DecisionIsCountedAndReported := by
  refine ⟨fun s i b b' n c f d counts hb hc hf hd hb' hcounts => ?_, fun s i b b' n c counts hb hc hnone hb' hcounts => ?_,
    fun s i b b' planed hi hb' hplaned => ?_⟩
  · have hentry : s.boardEntry b = s.entryInForce c.species := by
      rw [State.boardEntry, hb, Option.bind_some, hc]
      rfl
    have hjudged : b.judged s.line.config (s.boardEntry b) = b' := by
      rw [hb', hd, hf, hentry]
      rfl
    have hpending : d ≠ .pending := by
      rw [hd]
      exact Invariants.decideBoard_decided _ _ _ _
    obtain ⟨hb'charge, hb'decision, hb'figures⟩ : b'.charge = some n ∧ b'.decision = d ∧
        (b'.figures.bind (·.moisture)).map (·.mean) = f.moisture.map (·.mean) := by
      rw [hb']
      exact ⟨hb, rfl, rfl⟩
    have hcount := countDecision_of_charge (s := s.modBoard i fun _ => b') hb'charge (by exact hc) hb'figures rfl rfl
    rw [hb'decision] at hcount
    have hcondition : (c.redryHigh = false ∧ d.measured = true ∧
        redryExceeds (s.modBoard i fun _ => b').line.config.redryLimit (c.decided d (f.moisture.map (·.mean))).counts = true) ↔
        (c.redryHigh = false ∧ d ≠ .unmeasured ∧ 20 ≤ counts.accepted + counts.redry + counts.rejected ∧
            s.line.config.redryLimit * (counts.accepted + counts.redry + counts.rejected) < counts.redry * 1000) := by
      rw [measured_iff hpending, redryExceeds_iff, hcounts]
      rfl
    rw [if_congr hcondition rfl rfl] at hcount
    have hnumber : b'.number = b.number ∧ b'.entry = b.entry := by
      rw [hb']
      exact ⟨rfl, rfl⟩
    obtain ⟨w, hw⟩ : ∃ w, countDecision b' (s.modBoard i fun _ => b') = w := ⟨_, rfl⟩
    have hreported : reportBoard b' w = queueReport (s.boardReport b') w := by
      rw [← hw]
      exact reportBoard_countDecision rfl
    have hleaves : w.packs = s.packs ∧ w.labels = s.labels := by
      rw [← hw]
      exact (countDecision_leaves b' (s.modBoard i fun _ => b')).2
    have hjudge : judgeBoard i b s = (d.class?.map fun cls => askPlace cls (queueReport (s.boardReport b') w)).getD
        (queueReport (s.boardReport b') w) := by
      unfold judgeBoard
      rw [hjudged]
      dsimp only
      rw [hw, hreported, hb'decision]
      cases d.class? <;> rfl
    refine ⟨_, _, w, rfl, rfl, ?_, fun hplace => ?_, fun cls x haccept hplace hx => ?_⟩
    · rw [← hw, hcount, hnumber.1, State.leading, hnumber.2]
      rfl
    · rw [hjudge]
      cases hclass : d.class? with
      | none => rfl
      | some cls =>
        refine if_pos ?_
        rw [queueReport_packs, hleaves.1]
        exact hplace cls (Invariants.class?_eq_some hclass)
    · rw [hjudge, haccept]
      refine askPlace_of_none ?_ ?_
      · rw [queueReport_packs, hleaves.1]
        exact hplace
      · rw [queueReport_labels, hleaves.2]
        exact hx
  · generalize hraised : raise .lateDecision .line (.line (some b.number) (some n) s.line.config.redryGate)
      (s.modBoard i fun _ => b') = raised
    have hline : stateOnly (s.modBoard i fun _ => b').line raised.line := by
      rw [← hraised]
      exact stateOnly_raise ..
    have hcharges : raised.charge? n = some c := by
      rw [State.charge?, ← hraised, raise_charges]
      exact hc
    obtain ⟨hb'charge, hb'figures, hb'number, hb'entry⟩ : b'.charge = some n ∧ b'.figures = none ∧ b'.number = b.number ∧
        b'.entry = b.entry := by
      rw [hb']
      exact ⟨hb, hnone, rfl, rfl⟩
    have hb'decision : b'.decision = .reject .late := by rw [hb']
    have hcount := countDecision_of_charge (s := raised) (mean := none) hb'charge hcharges (by rw [hb'figures]; rfl) rfl rfl
    have htallied : tallied (.reject .late) c.species (raised.modCharge n (ChargeRecord.decided (.reject .late) none)) =
        raised.modCharge n (ChargeRecord.decided (.reject .late) none) := if_neg (by decide)
    have hforce : forceLate i b s = reportBoard b' (countDecision b' raised) := by
      rw [← hraised, hb', forceLate, hb]
      rfl
    have hposition : raised.line.position = s.line.position := by
      rw [hline]
      rfl
    have hlimit : raised.line.config.redryLimit = s.line.config.redryLimit := by
      rw [hline]
      rfl
    refine ⟨_, rfl, ?_⟩
    rw [hforce, reportBoard_countDecision hposition, hcount, hb'decision, htallied, hlimit, State.leading, hposition,
      hb'number, hb'entry]
    refine congrArg (queueReport _) (if_congr ?_ rfl rfl)
    rw [redryExceeds_iff, ← hcounts]
    simp only [Decision.measured, true_and]
  · refine ⟨_, _, rfl, rfl, ?_⟩
    have hmoved : ((s.modLine fun l => { l with planedLength := min 4294967295 (l.planedLength + b.length.getD 0) }).modBoard i
        fun b => { b with pastMeter := true }) =
        { s with line := { s.line with queue := s.line.queue.set i b', planedLength := planed } } := by
      have hset : s.line.queue.modify i (fun b => { b with pastMeter := true }) = s.line.queue.set i b' := by
        rw [Invariants.modify_eq_set _ hi, hb']
      rw [hplaned, ← hset]
      rfl
    rw [passMeter, hmoved, ← hb', testKnife]
    simp only [Bool.and_eq_true, Bool.not_eq_true', decide_eq_true_eq]
    rfl

end Sys2Proof.Proofs.Decisions
end

section
/-!
The eyes and the encoder (section 7.6): how a command takes a change of an eye, and the edges of the infeed eye (section 7.7).
-/
namespace Sys2Proof.Proofs.Eyes
open Sys2Proof.Machine Sys2Proof.Proofs.Answers Sys2Proof.Proofs.Reporting Sys2Proof.Proofs.Decisions
set_option Elab.async false

variable {s t u v : State} {b : Board} {e : Eye} {n : Fin 16}

/-! ## Points (R119) -/

/-- The trailing edge of a board, where it has one, lies before a gate. -/
def behindGate (s : State) (b : Board) (gate : Nat) : Prop := ∀ x, b.trailing = some x → distanceMm x s.line.position < gate

theorem reached_sample_none (h : b.decision ≠ .pending ∨ s.spansMeter b (b.nextSample * s.line.config.spacing) = false ∨
    s.leading b < s.line.config.meterPosition + b.nextSample * s.line.config.spacing) : s.reached b .sample = none := by
  unfold State.reached
  dsimp only
  split
  case isTrue hspans =>
    obtain h | h | h := h
    · exact absurd hspans.1 h
    · rw [hspans.2] at h
      cases h
    · exact if_neg (by omega)
  case isFalse => rfl

/-- A point of a leading edge that is marked or lies ahead is not reached. -/
theorem leads_none {mark : Bool} {x : Nat} (h : mark = true ∨ s.leading b < x) :
    (if mark then none else if x ≤ s.leading b then some x else none) = none := by
  obtain rfl | h := h
  · rfl
  · rw [if_neg (show ¬ x ≤ s.leading b by omega)]
    exact ite_self _

theorem reached_leadingRedry_none (h : b.marks.redryLeading = true ∨ s.leading b < s.line.config.redryGate) :
    s.reached b .leadingRedry = none := leads_none h

theorem reached_leadingReject_none (h : b.marks.rejectLeading = true ∨ s.leading b < s.line.config.rejectGate) :
    s.reached b .leadingReject = none := leads_none h

theorem not_reached_of_behind {gate y : Nat} (h : behindGate s b gate) (hy : s.trailing b = some y) : ¬ gate ≤ y := by
  obtain ⟨x, hx, rfl⟩ : ∃ x, b.trailing = some x ∧ distanceMm x s.line.position = y := by simpa [State.trailing] using hy
  have := h x hx
  omega

theorem reached_trailingMeter_none (h : b.pastMeter = true ∨ behindGate s b s.line.config.meterPosition) :
    s.reached b .trailingMeter = none := by
  unfold State.reached
  dsimp only
  split
  · rfl
  rename_i hmark
  split
  case h_1 y hy => exact if_neg (not_reached_of_behind (h.resolve_left hmark) hy)
  case h_2 => rfl

theorem reached_trailingRedry_none (h : b.marks.redryTrailing = true ∨ behindGate s b s.line.config.redryGate) :
    s.reached b .trailingRedry = none := by
  unfold State.reached
  dsimp only
  split
  · rfl
  rename_i hmark
  split
  case h_1 y hy => exact if_neg (not_reached_of_behind (h.resolve_left hmark) hy)
  case h_2 => rfl

theorem reached_trailingReject_none (h : b.marks.rejectTrailing = true ∨ behindGate s b s.line.config.rejectGate) :
    s.reached b .trailingReject = none := by
  unfold State.reached
  dsimp only
  split
  · rfl
  rename_i hmark
  split
  case h_1 y hy => exact if_neg (not_reached_of_behind (h.resolve_left hmark) hy)
  case h_2 => rfl

theorem reached_of_atNoPoint (h : s.atNoPoint b) (p : Point) : s.reached b p = none := by
  obtain ⟨hsample, hmeter, hredryLead, hredryTrail, hrejectLead, hrejectTrail⟩ := h
  cases p with
  | sample =>
    by_cases hp : b.decision = .pending
    · exact reached_sample_none (.inr (.inr (hsample hp)))
    · exact reached_sample_none (.inl hp)
  | leadingRedry => exact reached_leadingRedry_none hredryLead
  | leadingReject => exact reached_leadingReject_none hrejectLead
  | trailingMeter => exact reached_trailingMeter_none hmeter
  | trailingRedry => exact reached_trailingRedry_none hredryTrail
  | trailingReject => exact reached_trailingReject_none hrejectTrail

theorem nextPoint_of_atNoPoint (h : s.atNoPoint b) : s.nextPoint b = none := by
  simp only [State.nextPoint, allPoints, List.foldl, reached_of_atNoPoint h, Option.map_none]

/-- An advance that brings no board to a point (R119). -/
theorem takeBoards_of_atNoPoint (h : ∀ b ∈ s.line.queue, s.atNoPoint b) (i k : Nat) : takeBoards i k s = s := by
  have hpoints (i : Nat) : takePoints i 670 s = s := by
    rw [takePoints]
    cases hb : s.line.queue[i]? with
    | none => rfl
    | some b =>
      dsimp only
      rw [nextPoint_of_atNoPoint (h b (List.mem_of_getElem? hb))]
  induction k generalizing i with
  | zero => rfl
  | succ k ih =>
    rw [takeBoards, hpoints]
    exact ih _

theorem takeAllPoints_of_atNoPoint (h : ∀ b ∈ s.line.queue, s.atNoPoint b) : takeAllPoints s = s :=
  takeBoards_of_atNoPoint h 0 _

/-! ## A change that is taken (R120) -/

/-- What a change of an eye does once it is taken: an edge of the infeed eye (R121, R122), the leading edge of the outfeed eye
(R127). -/
def eyeTaken : Eye → Bool → Nat → State → State
  | .infeed, true, edge => infeedLeading edge
  | .infeed, false, edge => infeedTrailing edge
  | .outfeed, true, _ => outfeedLeading
  | .outfeed, false, _ => id

theorem takeEye_eq {level : Bool} {waiting : Option Nat} (h : s.line.filter e = ⟨!level, waiting⟩) (edge : Nat) :
    takeEye e edge s = eyeTaken e level edge (s.modLine (Line.setFilter e ⟨level, none⟩)) := by
  unfold takeEye
  rw [h]
  cases e <;> cases level <;> rfl

theorem filter_setFilter (f : EyeFilter) (l : Line) : (l.setFilter e f).filter e = f := by
  cases e <;> rfl

theorem setFilter_setFilter (f g : EyeFilter) (l : Line) : (l.setFilter e g).setFilter e f = l.setFilter e f := by
  cases e <;> rfl

theorem setFilter_config (f : EyeFilter) (l : Line) : (l.setFilter e f).config = l.config := by
  cases e <;> rfl

/-- A pin change with a filter distance of 0 (R120). -/
theorem eyeEdge_taken {level : Bool} {waiting : Option Nat} (h : s.line.filter e = ⟨!level, waiting⟩)
    (hfilter : s.line.config.eyeFilter = 0) :
    eyeEdge e level s = eyeTaken e level (waiting.getD s.line.position) (s.modLine (Line.setFilter e ⟨level, none⟩)) := by
  have hwaiting : (s.modLine (Line.setFilter e ⟨!level, some (waiting.getD s.line.position)⟩)).line.filter e =
      ⟨!level, some (waiting.getD s.line.position)⟩ := filter_setFilter _ _
  rw [eyeEdge, h]
  dsimp only
  have hfilter' : (s.modLine (Line.setFilter e ⟨!level, some (waiting.getD s.line.position)⟩)).line.config.eyeFilter = 0 := by
    rw [← hfilter]
    exact congrArg LineConfig.eyeFilter (setFilter_config _ _)
  rw [if_neg (by cases level <;> decide), if_pos hfilter', takeEye_eq hwaiting]
  exact congrArg (fun l => eyeTaken e level (waiting.getD s.line.position) { s with line := l }) (setFilter_setFilter _ _ _)

theorem testFilter_of_none (h : (s.line.filter e).waiting = none) : testFilter e s = s := by
  rw [testFilter, h]

theorem testFilter_taken {level : Bool} {edge : Nat} (h : s.line.filter e = ⟨!level, some edge⟩)
    (hfilter : s.line.config.eyeFilter ≤ distanceMm edge s.line.position) :
    testFilter e s = eyeTaken e level edge (s.modLine (Line.setFilter e ⟨level, none⟩)) := by
  rw [testFilter, h]
  exact (if_pos hfilter).trans (takeEye_eq h edge)

/-! ## What the outfeed eye leaves of the infeed eye -/

theorem freeTest_line (n : Nat) (s : State) : (freeTest n s).line = s.line := by
  unfold freeTest
  split
  · split <;> rfl
  · rfl

theorem joinLabels_line (b : Fin 8) (pack : Nat) (reprint : Bool) (s : State) : (joinLabels b pack reprint s).line = s.line := by
  unfold joinLabels
  dsimp only
  split
  · unfold startHead
    split <;> rfl
  · rfl

theorem stateOnly_closePack (b : Fin 8) (reason : CloseReason) (s : State) : stateOnly s.line (closePack b reason s).line := by
  have hreport (b : Fin 8) (s : State) : (reportPack b s).line = s.line := by
    unfold reportPack
    split <;> rfl
  unfold closePack
  split
  · exact .refl _
  rw [hreport]
  unfold admitLabel
  split
  · rw [joinLabels_line]
    exact .refl _
  · exact stateOnly_raise ..

theorem stateOnly_appendBoard (b : Fin 8) (h : HeldBoard) (s : State) : stateOnly s.line (appendBoard freeTest b h s).line := by
  unfold appendBoard
  split
  · exact .refl _
  dsimp only
  split
  · refine stateOnly.trans ?_ (stateOnly_closePack ..)
    rw [freeTest_line]
    exact .refl _
  · rw [freeTest_line]
    exact .refl _

theorem stateOnly_placeBoard (h : HeldBoard) (s : State) : stateOnly s.line (placeBoard h s).line := by
  unfold placeBoard
  split
  · unfold packBoard
    split
    · exact stateOnly_appendBoard ..
    split
    · exact stateOnly_appendBoard (s := openPack _ _ s) ..
    · exact .refl _
  · unfold holdBoard
    split
    · exact .refl _
    · refine stateOnly.trans ?_ (stateOnly_raise ..)
      rw [freeTest_line]
      exact .refl _

theorem stateOnly_drainTest (s : State) : stateOnly s.line (drainTest s).line := by
  unfold drainTest
  split <;> rfl

theorem settleGates_infeed (s : State) : (settleGates s).line.infeed = s.line.infeed := by
  unfold settleGates
  dsimp only
  split <;> split <;> rfl

theorem outfeedLeading_infeed (s : State) : (outfeedLeading s).line.infeed = s.line.infeed := by
  have hmismatch (head : Option Board) (s : State) : (mismatch head s).line.infeed = s.line.infeed :=
    ((stateOnly_raise ..).trans (stateOnly_trip .fault _)).infeed
  unfold outfeedLeading
  split
  · exact hmismatch ..
  split
  · split
    · refine ((stateOnly_placeBoard _ _).trans (stateOnly_drainTest _)).infeed.trans ?_
      rw [settleGates_infeed]
      rfl
    · exact hmismatch ..
  · exact hmismatch ..

/-- A command takes a change of an eye: its event is the change taken (R104, R119, R120). -/
theorem exec_takes {level : Bool} {edge : Nat} {command : Instr} (ho : s.port.dropOwed = none)
    (h : s.takes e level edge command u) : exec command s = .next (beginTransmit (eyeTaken e level edge u)) := by
  obtain ⟨high, n, waiting, rfl, hholder, hlevel, hchange, hfilter, hold, rfl, rfl⟩ |
    ⟨n, v, rfl, hholder, hv, hold, hother, hdistance, hnone, rfl⟩ := h
  · have hholder' : s.holder (Eye.fn e) = some n := by
      rw [← hholder]
      cases e <;> rfl
    have hpin : takePin n high s = { s with terminals := s.terminals.set n { s.terminals[n] with pinHigh := high, input := level } } := by
      rw [hlevel]
      rfl
    show Host.Outcome.next (event (eyePin e high) s) = _
    rw [event_of ho, eyePin, hholder']
    dsimp only
    rw [← hlevel, if_pos (decide_eq_true hchange), hpin]
    exact congrArg (fun t => Host.Outcome.next (beginTransmit t)) (eyeEdge_taken hold hfilter)
  · show Host.Outcome.next (event encoderRises s) = _
    have hpoints : takeAllPoints v = v := takeAllPoints_of_atNoPoint (by rw [hv]; rw [hv] at hnone; exact hnone)
    have hadvance : encoderRises s = testFilter .infeed (testFilter .outfeed v) := by
      rw [encoderRises, hholder]
      show testFilter .infeed (testFilter .outfeed (takeAllPoints (s.pulsed n))) = _
      rw [← hv, hpoints]
    have hline : v.line.filter e = s.line.filter e := by rw [hv]; cases e <;> rfl
    have hconfig : v.line.config = s.line.config := by rw [hv]; rfl
    rw [event_of ho, hadvance]
    refine congrArg (fun t => Host.Outcome.next (beginTransmit t)) ?_
    have htaken := testFilter_taken (s := v) (e := e) (hline.trans hold) (by rw [hconfig]; exact hdistance)
    cases e with
    | infeed =>
      have hfree : testFilter .outfeed v = v := testFilter_of_none (by rw [hv]; exact hother)
      rw [hfree, htaken]
      rfl
    | outfeed =>
      rw [htaken]
      refine (testFilter_of_none ?_).trans rfl
      have hinfeed : (eyeTaken .outfeed level edge (v.modLine (Line.setFilter .outfeed ⟨level, none⟩))).line.infeed =
          v.line.infeed := by
        cases level with
        | false => rfl
        | true => exact outfeedLeading_infeed _
      show (eyeTaken .outfeed level edge (v.modLine (Line.setFilter .outfeed ⟨level, none⟩))).line.infeed.waiting = none
      rw [hinfeed, hv]
      exact hother

/-- What a change that is taken has moved before it acts: terminals, the position and the filters. -/
theorem takes_moved {level : Bool} {edge : Nat} {command : Instr} (h : s.takes e level edge command u) :
    ∃ terminals position infeed outfeed, u = { s with
      terminals := terminals, line := { s.line with position := position, infeed := infeed, outfeed := outfeed } } := by
  obtain ⟨high, n, waiting, -, -, -, -, -, -, -, rfl⟩ | ⟨n, v, -, -, rfl, -, -, -, -, rfl⟩ := h <;>
    cases e <;> exact ⟨_, _, _, _, rfl⟩

theorem exec_takes_after {level : Bool} {edge : Nat} {command : Instr} (ho : s.port.dropOwed = none)
    (h : s.takes e level edge command u) (reports : List Report) (ht : eyeTaken e level edge u = reporting reports t) :
    exec command s = .next (t.after reports none) := by
  rw [exec_takes ho h, ht, after_none]
  rfl

/-! ## The infeed eye (R121, R122) -/

theorem modLast_append {α : Type} (f : α → α) (earlier : List α) (a : α) : modLast f (earlier ++ [a]) = earlier ++ [f a] := by
  induction earlier with
  | nil => rfl
  | cons x xs ih =>
    cases xs with
    | nil => rfl
    | cons y ys => exact congrArg (x :: ·) ih

/-- Settles O33. -/
theorem infeedEdgesEnterAndMeasureBoards : Obligations.InfeedEdgesEnterAndMeasureBoards := by
  intro s level edge command u ho htakes
  have hexec (reports : List Report) {t : State} (h : eyeTaken .infeed level edge u = reporting reports t) :=
    exec_takes_after ho htakes reports h
  obtain ⟨terminals, position, infeed, outfeed, hu⟩ := takes_moved htakes
  have hfeed : u.feedCharge = s.feedCharge := by rw [hu]; rfl
  obtain ⟨hqueue, hnumber, huncharged, hcondition⟩ : u.line.queue = s.line.queue ∧ u.line.nextBoard = s.line.nextBoard ∧
      u.line.uncharged = s.line.uncharged ∧ u.line.infeedCondition = s.line.infeedCondition := by
    rw [hu]
    exact ⟨rfl, rfl, rfl, rfl⟩
  rw [← hfeed, ← hqueue, ← hnumber, ← huncharged, ← hcondition]
  refine ⟨fun c hlevel hroom hc => hexec [] ?_, fun b hlevel hroom hc hb => hexec [_] ?_, fun c hlevel hfull hc => hexec [] ?_,
    fun hlevel hfull hc => hexec [] ?_, fun earlier b hlevel htracked hboards => hexec [] ?_, fun hlevel hother => hexec [] ?_⟩
  all_goals rw [hlevel]
  · show infeedLeading edge u = _
    simp only [infeedLeading, hc, Option.map_some, if_pos hroom]
    rfl
  · show infeedLeading edge u = _
    simp only [infeedLeading, hc, Option.map_none, if_pos hroom, hb]
    rfl
  · show infeedLeading edge u = _
    simp only [infeedLeading, hc, Option.map_some, if_neg (Nat.not_lt.2 hfull)]
    rfl
  · show infeedLeading edge u = _
    simp only [infeedLeading, hc, Option.map_none, if_neg (Nat.not_lt.2 hfull)]
    rfl
  · show infeedTrailing edge u = _
    rw [infeedTrailing, settleTail, if_pos htracked, State.modLine, State.modLine, hboards, modLast_append]
    rfl
  · show infeedTrailing edge u = _
    rw [infeedTrailing, settleTail, if_neg hother]
    rfl

end Sys2Proof.Proofs.Eyes
end

section
/-!
The pack builder (chapter 8): a board appended to a pack, a pack opened or closed by it, the hold list, and the outfeed eye (R127).
-/
namespace Sys2Proof.Proofs.Stacking
open Sys2Proof.Machine Sys2Proof.Proofs.Answers Sys2Proof.Proofs.Reporting Sys2Proof.Proofs.LabelUnits Sys2Proof.Proofs.Eyes Sys2Proof.Proofs.Decisions
set_option Elab.async false

variable {s t u : State} {b : Fin 8} {p new : Pack} {h : HeldBoard} {n : Nat} {c : ChargeRecord}

/-! ## Charges and flags -/

theorem freeTest_of_held (hc : s.charge? n = some c) (hheld : c.freeable = false) : freeTest n s = s := by
  rw [freeTest, hc]
  exact if_neg (by simp [hheld])

theorem freeable_of_open (hstate : c.state ≠ .closed) : c.freeable = false := by
  rw [ChargeRecord.freeable, decide_eq_false hstate]
  rfl

theorem appended_number (first : Bool) (c : ChargeRecord) : (c.appended first).number = c.number ∧
    (c.appended first).state = c.state := by
  cases first <;> exact ⟨rfl, rfl⟩

/-- The flags of a lineage read three items of its records (R136). -/
theorem gatherFlags_modCharge {f : ChargeRecord → ChargeRecord} (hnumber : ∀ c, (f c).number = c.number)
    (hf : ∀ c, (f c).incomplete = c.incomplete ∧ (f c).redryHigh = c.redryHigh ∧ (f c).redryPart = c.redryPart)
    (hcharges : t.charges = (s.modCharge n f).charges) (lineage : List LineageEntry) :
    gatherFlags t lineage = gatherFlags s lineage := by
  have hcharge (m : Nat) : t.charge? m = (s.charge? m).map fun c => if c.number = n then f c else c := by
    have htm : t.charge? m = (s.modCharge n f).charge? m := by rw [State.charge?, hcharges]; rfl
    rw [htm]
    by_cases hm : m = n
    · subst hm
      rw [charge?_modCharge m f hnumber]
      cases hc : s.charge? m with
      | none => rfl
      | some c => simp [charge?_number hc]
    · rw [charge?_modCharge_ne (Ne.symm hm) hnumber]
      cases hc : s.charge? m with
      | none => rfl
      | some c => simp [charge?_number hc, hm]
  have hmap : lineage.filterMap (fun e => t.charge? e.charge) =
      (lineage.filterMap fun e => s.charge? e.charge).map fun c => if c.number = n then f c else c := by
    rw [List.map_filterMap]
    exact List.filterMap_congr fun e _ => hcharge e.charge
  simp only [gatherFlags, hmap, List.any_map]
  have hany (test : ChargeRecord → Bool) (htest : ∀ c, test (f c) = test c) (cs : List ChargeRecord) :
      cs.any (test ∘ fun c => if c.number = n then f c else c) = cs.any test := by
    refine congrArg (cs.any ·) (funext fun c => ?_)
    show test (if c.number = n then f c else c) = test c
    split
    · exact htest c
    · rfl
  rw [hany (·.incomplete) (fun c => (hf c).1), hany (·.redryHigh) (fun c => (hf c).2.1),
    hany (·.redryPart.isSome) (fun c => by rw [(hf c).2.2])]

/-! ## A board appended (R135) -/

/-- The pack of a bay with a board more, and its charge with the board landed (R135). -/
theorem appendBoard_eq {free : Nat → State → State} (hb : s.packs.bays[b] = some p) (hc : s.charge? h.charge = some c)
    (hnew : new = (p.withBoard h (h.length * c.width * c.thickness) s.now).withLineage h.charge)
    (hu : u = ({ s with packs := { s.packs with bays := s.packs.bays.set b (some new) } } : State).modCharge h.charge
      (ChargeRecord.appended (p.givesEntry h.charge)))
    (hfree : free h.charge u = u) :
    appendBoard free b h s = if new.pieces = new.target then closePack b .count u else u := by
  have hvolume : s.volumeOf h = h.length * c.width * c.thickness := by
    rw [State.volumeOf, hc]
    rfl
  have hset : (s.setBay b (some new)).modCharge h.charge (ChargeRecord.appended (p.givesEntry h.charge)) = u := hu.symm
  rw [appendBoard, hb]
  dsimp only
  rw [hvolume, ← hnew, hset, hfree]

/-- The charge of a board appended is not freed where its record is held by more than the board. -/
theorem freeTest_appended {first : Bool} (hc : t.charge? n = some c)
    (hu : u = t.modCharge n (ChargeRecord.appended first)) (hheld : (c.appended first).freeable = false) : freeTest n u = u := by
  refine freeTest_of_held ?_ hheld
  rw [hu, charge?_modCharge _ _ fun c => (appended_number _ c).1, hc]
  rfl

theorem withLineage_listed {m : Nat} {before after : List LineageEntry} (hlineage : p.lineage = before ++ ⟨n, m⟩ :: after)
    (hothers : ∀ e ∈ before ++ after, e.charge ≠ n) :
    p.withLineage n = { p with lineage := before ++ ⟨n, m + 1⟩ :: after } ∧ p.givesEntry n = false := by
  have hlists : lists p.lineage n = true := by simp [lists, hlineage]
  have hkeep (xs : List LineageEntry) (hxs : ∀ e ∈ xs, e.charge ≠ n) :
      xs.map (fun e => if e.charge = n then { e with pieces := e.pieces + 1 } else e) = xs :=
    (List.map_congr_left fun e he => if_neg (hxs e he)).trans (List.map_id _)
  constructor
  · rw [Pack.withLineage, if_pos hlists, hlineage, List.map_append, List.map_cons, if_pos rfl,
      hkeep before fun e he => hothers e (by simp [he]), hkeep after fun e he => hothers e (by simp [he])]
  · simp [Pack.givesEntry, hlists]

theorem lists_eq_false (hothers : ∀ e ∈ p.lineage, e.charge ≠ n) : lists p.lineage n = false := by
  simpa [lists] using hothers

theorem withLineage_first (hothers : ∀ e ∈ p.lineage, e.charge ≠ n) (hroom : p.lineage.length < 4) :
    p.withLineage n = { p with lineage := p.lineage ++ [⟨n, 1⟩] } ∧ p.givesEntry n = true := by
  constructor
  · rw [Pack.withLineage, if_neg (by simp [lists_eq_false hothers]), if_pos hroom]
  · simp [Pack.givesEntry, lists_eq_false hothers, hroom]

theorem withLineage_mixed (hothers : ∀ e ∈ p.lineage, e.charge ≠ n) (hfull : 4 ≤ p.lineage.length) :
    p.withLineage n = { p with mixed := true, unlisted := p.unlisted + 1 } ∧ p.givesEntry n = false := by
  constructor
  · rw [Pack.withLineage, if_neg (by simp [lists_eq_false hothers]), if_neg (by omega)]
  · simp [Pack.givesEntry, hfull]

/-- A pack that closes behind other labels (R136, R148). -/
theorem closePack_queued {reason : CloseReason} {closed : Pack} (hb : s.packs.bays[b] = some p) (hbehind : s.labels.queue ≠ [])
    (hroom : s.labels.queue.length < 4)
    (hclosed : closed = { p with state := .closed, closing := some ⟨gatherFlags s p.lineage, reason, s.now, .queued, 0⟩ }) :
    closePack b reason s = queueReport (.packClosed b closed) { s with
      packs := { s.packs with bays := s.packs.bays.set b (some closed) }
      labels := { s.labels with queue := s.labels.queue ++ [newEntry b p.number false] } } := by
  generalize hwaiting : ({ p with
    state := .closed, closing := some ⟨gatherFlags s p.lineage, reason, s.now, .waitingSlot, 0⟩ } : Pack) = waiting
  have hclosing : waiting.closing = some ⟨gatherFlags s p.lineage, reason, s.now, .waitingSlot, 0⟩ := by rw [← hwaiting]
  have hqueued : ({ waiting with closing := some ⟨gatherFlags s p.lineage, reason, s.now, .queued, 0⟩ } : Pack) = closed := by
    rw [← hwaiting, hclosed]
  have hbay : (s.setBay b (some waiting)).packs.bays[b] = some waiting := Vector.getElem_set_self b.isLt
  have hjoin := joinLabels_behind (pack := p.number) (reprint := false) hbay hclosing (by exact hbehind)
  rw [hqueued] at hjoin
  have hset : (s.setBay b (some waiting)).packs.bays.set b (some closed) = s.packs.bays.set b (some closed) := Vector.set_set _ _
  rw [hset] at hjoin
  have hclose : closePack b reason s = reportPack b (admitLabel b p.number (s.setBay b (some waiting))) := by
    rw [← hwaiting, closePack, hb]
  rw [hclose, admitLabel, if_pos (by exact hroom), hjoin, reportPack_of_pack (p := closed) (Vector.getElem_set_self b.isLt)]
  rfl

/-! ## The place of a board (R133, R134, R139) -/

theorem placeBoard_open (hopen : s.packs.openBay h.cls = some b) : placeBoard h s = appendBoard freeTest b h s := by
  rw [placeBoard, if_pos (by simp [PackBuilder.hasPlace, hopen]), packBoard, hopen]

theorem placeBoard_free (hopen : s.packs.openBay h.cls = none) (hfree : s.packs.freeBay h.cls = some b) :
    placeBoard h s = appendBoard freeTest b h (openPack b h.cls s) := by
  rw [placeBoard, if_pos (by simp [PackBuilder.hasPlace, hfree]), packBoard, hopen]
  dsimp only
  rw [hfree]

theorem placeBoard_none (hopen : s.packs.openBay h.cls = none) (hfree : s.packs.freeBay h.cls = none) :
    placeBoard h s = holdBoard h s := by
  rw [placeBoard, if_neg (by simp [PackBuilder.hasPlace, hopen, hfree])]

/-- The pack that a board opens in a FREE bay (R134, R135). -/
def openedPack (h : HeldBoard) (c : ChargeRecord) (s : State) : Pack :=
  { number := s.store.nextPack, cls := h.cls, state := .opened, target := s.packs.targets[h.cls], pieces := 1
    lengthSum := h.length, volume := h.length * c.width * c.thickness, meanSum := h.mean, highestMax := h.max
    firstBoard := s.now, lastBoard := s.now, lineage := [⟨h.charge, 1⟩], mixed := false, unlisted := 0, closing := none }

/-- The pack that stands in a FREE bay before its first board (R134). -/
def emptyPack (c : Fin 4) (s : State) : Pack :=
  { number := s.store.nextPack, cls := c, state := .opened, target := s.packs.targets[c], pieces := 0, lengthSum := 0
    volume := 0, meanSum := 0, highestMax := 0, firstBoard := s.now, lastBoard := s.now, lineage := [], mixed := false
    unlisted := 0, closing := none }

theorem openPack_eq (b : Fin 8) (cls : Fin 4) (s : State) : openPack b cls s =
    ({ s with store := { s.store with nextPack := nextPack s.store.nextPack } } : State).setBay b (some (emptyPack cls s)) := rfl

theorem emptyPack_appended (h : HeldBoard) (c : ChargeRecord) (s : State) :
    openedPack h c s = ((emptyPack h.cls s).withBoard h (h.length * c.width * c.thickness) s.now).withLineage h.charge ∧
      (emptyPack h.cls s).givesEntry h.charge = true := by
  refine ⟨?_, rfl⟩
  simp [openedPack, emptyPack, Pack.withBoard, Pack.withLineage, lists]

/-- A board opens a pack in a FREE bay (R134, R135). -/
theorem appendBoard_opened {free : Nat → State → State} (hc : s.charge? h.charge = some c) (htarget : s.packs.targets[h.cls] ≠ 1)
    (hu : u = ({ s with
        store := { s.store with nextPack := nextPack s.store.nextPack }
        packs := { s.packs with bays := s.packs.bays.set b (some (openedPack h c s)) } } : State).modCharge h.charge
      fun c => { c with inFlight := c.inFlight - 1, packRefs := c.packRefs + 1 })
    (hfree : free h.charge u = u) : appendBoard free b h (openPack b h.cls s) = u := by
  obtain ⟨hnew, hgives⟩ := emptyPack_appended h c s
  have hset : (openPack b h.cls s).packs.bays.set b (some (openedPack h c s)) = s.packs.bays.set b (some (openedPack h c s)) :=
    Vector.set_set _ _
  have happend := appendBoard_eq (s := openPack b h.cls s) (p := emptyPack h.cls s) (u := u) (free := free) (b := b) (h := h)
    (Vector.getElem_set_self b.isLt) (by exact hc) hnew (by rw [hu, hgives, hset]; rfl) hfree
  exact happend.trans (if_neg fun h => htarget h.symm)

/-! ## The outfeed eye (R127) -/

theorem drainTest_eq (s : State) : drainTest s = if s.line.state = .draining ∧ s.line.queue = [] ∧ s.packs.held = [] then
    queueReport ((s.lineIn .stopped none).lineReport .drained) (s.lineIn .stopped none) else s := by
  rw [drainTest, LineStop.enterLine_eq]

theorem settleGates_of_settled (hredry : s.line.redryDemand = s.line.queue.any (·.spansRedry))
    (hreject : s.line.rejectDemand = s.line.queue.any (·.spansReject)) : settleGates s = s := by
  rw [settleGates, if_pos hredry, if_pos hreject]

theorem stateOnly.queue {l m : Line} (h : stateOnly l m) : m.queue = l.queue := by
  rw [h]

/-- Settles O42. -/
theorem boardJoinsTheOpenPack : Obligations.BoardJoinsTheOpenPack := by
  refine ⟨fun s h b p new c hopen hb hc hstate hpieces lineage mixed unlisted hnew => ?_, fun s h c hopen hc => ?_,
    fun s level edge command u ho htakes => ?_⟩
  · have hboard : p.withBoard h (h.length * c.width * c.thickness) s.now = { p with
        pieces := p.pieces + 1, lengthSum := p.lengthSum + h.length
        volume := p.volume + h.length * c.width * c.thickness, meanSum := p.meanSum + h.mean
        highestMax := max p.highestMax h.max, lastBoard := s.now } := by
      simp [Pack.withBoard, Nat.ne_of_gt hpieces]
    have hplace {w : State} (hlineage : new = (p.withBoard h (h.length * c.width * c.thickness) s.now).withLineage h.charge)
        (hw : w = ({ s with packs := { s.packs with bays := s.packs.bays.set b (some new) } } : State).modCharge h.charge
          (ChargeRecord.appended (p.givesEntry h.charge))) :
        placeBoard h s = if p.pieces + 1 = p.target then closePack b .count w else w := by
      have hcounts : new.pieces = p.pieces + 1 ∧ new.target = p.target := by
        rw [hnew]
        exact ⟨rfl, rfl⟩
      rw [placeBoard_open hopen, appendBoard_eq hb hc hlineage hw (freeTest_appended (first := p.givesEntry h.charge) (c := c) (by exact hc) hw
        (freeable_of_open (by rw [(appended_number _ c).2]; exact hstate))), hcounts.1, hcounts.2]
    refine ⟨fun before after n u hlisted hothers hlineage hmixed hunlisted hu => ?_,
      fun hothers hroom hlineage hmixed hunlisted htarget => ?_, fun hothers hfull hlineage hmixed hunlisted htarget => ?_⟩
    · obtain ⟨hwith, hgives⟩ := withLineage_listed (p := p.withBoard h (h.length * c.width * c.thickness) s.now)
        (by exact hlisted) hothers
      have hu' : u = ({ s with packs := { s.packs with bays := s.packs.bays.set b (some new) } } : State).modCharge h.charge
          (ChargeRecord.appended (p.givesEntry h.charge)) := by
        rw [hu, show p.givesEntry h.charge = false from hgives]
        rfl
      have hplaced := hplace (by rw [hwith, hboard, hnew, hlineage, hmixed, hunlisted]) hu'
      refine ⟨fun hnot => hplaced.trans (if_neg hnot), fun closed hfull hbehind hroom hclosed => hplaced.trans ((if_pos hfull).trans ?_)⟩
      have hflags : gatherFlags u new.lineage = gatherFlags s lineage := by
        rw [hnew]
        exact gatherFlags_modCharge (f := fun c => { c with inFlight := c.inFlight - 1 }) (n := h.charge) (fun _ => rfl)
          (fun _ => ⟨rfl, rfl, rfl⟩) (by rw [hu]; rfl) lineage
      have hbay : u.packs.bays[b] = some new := by
        rw [hu]
        exact Vector.getElem_set_self b.isLt
      have hset : u.packs.bays.set b (some closed) = s.packs.bays.set b (some closed) := by
        rw [hu]
        exact Vector.set_set _ _
      have hlabels : u.labels = s.labels := by
        rw [hu]
        rfl
      have hnow : u.now = s.now := by
        rw [hu]
        rfl
      have hnumber : new.number = p.number := by rw [hnew]
      rw [closePack_queued (closed := closed) hbay (by rw [hlabels]; exact hbehind) (by rw [hlabels]; exact hroom)
        (by rw [hflags, hnow]; exact hclosed), hset, hlabels, hnumber]
      rfl
    · obtain ⟨hwith, hgives⟩ := withLineage_first (p := p.withBoard h (h.length * c.width * c.thickness) s.now)
        (by exact hothers) (by exact hroom)
      rw [hplace (by rw [hwith, hboard, hnew, hlineage, hmixed, hunlisted]) rfl, if_neg htarget,
        show p.givesEntry h.charge = true from hgives]
      rfl
    · obtain ⟨hwith, hgives⟩ := withLineage_mixed (p := p.withBoard h (h.length * c.width * c.thickness) s.now)
        (by exact hothers) (by exact hfull)
      rw [hplace (by rw [hwith, hboard, hnew, hlineage, hmixed, hunlisted]) rfl, if_neg htarget,
        show p.givesEntry h.charge = false from hgives]
      rfl
  · refine ⟨fun f hfree htarget => ?_, fun hfree hroom => ?_, fun hfree hfull hstate => ?_⟩
    · rw [placeBoard_free hopen hfree]
      exact appendBoard_opened hc htarget rfl (freeTest_appended (first := true) (c := c) (by exact hc) rfl
        (by simp [ChargeRecord.freeable, ChargeRecord.appended]))
    · rw [placeBoard_none hopen hfree, holdBoard, if_pos hroom]
    · have hlanded : freeTest h.charge (({ s with
          packs := { s.packs with overflow := min 65535 (s.packs.overflow + 1) } } : State).modCharge h.charge ChargeRecord.landed) =
          ({ s with packs := { s.packs with overflow := min 65535 (s.packs.overflow + 1) } } : State).modCharge h.charge
            ChargeRecord.landed :=
        freeTest_appended (first := false) (c := c) (by exact hc) rfl (freeable_of_open hstate)
      rw [placeBoard_none hopen hfree, holdBoard, if_neg (by omega)]
      dsimp only
      rw [hlanded]
      rfl
  · have hexec (reports : List Report) {t : State} (h : eyeTaken .outfeed level edge u = reporting reports t) :=
      exec_takes_after ho htakes reports h
    obtain ⟨terminals, position, infeed, outfeed, hu⟩ := takes_moved htakes
    obtain ⟨hqueue, hconfig, hredry, hreject⟩ : u.line.queue = s.line.queue ∧ u.line.config = s.line.config ∧
        u.line.redryDemand = s.line.redryDemand ∧ u.line.rejectDemand = s.line.rejectDemand := by
      rw [hu]
      exact ⟨rfl, rfl, rfl, rfl⟩
    rw [← hqueue, ← hconfig, ← hredry, ← hreject]
    refine ⟨fun hlevel => hexec [] (by rw [hlevel]; rfl), fun b rest c n m f v hlevel hboards haccept hpast hn hf hm hspans hspans' hv => ?_,
      fun board charge v hlevel hcase hv => ?_⟩
    · have htaken : eyeTaken .outfeed level edge u = drainTest v := by
        have hheld : b.held c = ⟨b.number, n, c, b.length.getD 0, m.mean, m.max⟩ := by
          simp [Board.held, hn, hf, hm]
        have hsettled : settleGates { u with line := { u.line with queue := rest } } =
            { u with line := { u.line with queue := rest } } := settleGates_of_settled hspans hspans'
        rw [hlevel]
        show outfeedLeading u = _
        rw [outfeedLeading, hboards]
        dsimp only
        rw [haccept]
        dsimp only [Decision.class?]
        rw [if_pos hpast, hheld, State.modLine, hsettled, hv]
      have hleft : v.line.queue = rest := by
        rw [hv]
        exact stateOnly.queue (stateOnly_placeBoard _ { u with line := { u.line with queue := rest } })
      rw [drainTest_eq, hleft] at htaken
      refine ⟨fun hnot => hexec [] (htaken.trans (if_neg ?_)), fun hdraining hempty hnone => hexec [_] (htaken.trans (if_pos ⟨hdraining, hempty, hnone⟩))⟩
      rintro ⟨hdraining, hempty, hnone⟩
      obtain hnot | hnot | hnot := hnot
      · exact hnot hdraining
      · exact hnot hempty
      · exact hnot hnone
    · have htaken : eyeTaken .outfeed level edge u = trip .fault v := by
        rw [hlevel, hv]
        show outfeedLeading u = _
        obtain ⟨hempty, rfl, rfl⟩ | ⟨b, rest, hboards, rfl, rfl, hother⟩ := hcase
        · rw [outfeedLeading, hempty]
          rfl
        · rw [outfeedLeading, hboards]
          dsimp only
          cases hclass : b.decision.class? with
          | none => rfl
          | some c =>
            obtain hnot | hbefore := hother
            · exact absurd (Invariants.class?_eq_some hclass) (hnot c)
            · exact if_neg (Nat.not_le.2 hbefore)
      refine ⟨fun htripped => hexec [] (htaken.trans (Raises.trip_of_tripped htripped .fault)),
        fun hmoving => hexec [_] (htaken.trans (Raises.trip_of_moving hmoving .fault))⟩

end Sys2Proof.Proofs.Stacking
end

section
/-!
BAY-CLEARED (sections 8.5, 8.6): the freeing tests of several charges, the refill of a bay and the release of a blocked line.
-/
namespace Sys2Proof.Proofs.BayClearing
open Sys2Proof.Machine Sys2Proof.Proofs.Answers Sys2Proof.Proofs.Reporting Sys2Proof.Proofs.Stacking
set_option Elab.async false

variable {s t u v : State} {b : Fin 8} {p : Pack} {h : HeldBoard} {n m : Nat} {c : ChargeRecord} {reports : List Report}

/-! ## Several freeing tests (R43, R141) -/

/-- Whether the freeing test of a charge frees its record. -/
def frees (s : State) (n : Nat) : Bool := (s.charge? n).any ChargeRecord.freeable

theorem frees_iff : frees s n = true ↔ ∃ c, s.charge? n = some c ∧ c.state = .closed ∧ c.inFlight = 0 ∧ c.packRefs = 0 := by
  simp [frees, Option.any_eq_true, ChargeRecord.freeable, and_assoc]

theorem charge?_congr (h : t.charges = s.charges) : t.charge? = s.charge? :=
  funext fun n => by rw [State.charge?, h]; rfl

theorem charge?_dropCharge_ne (hmn : m ≠ n) (s : State) : (s.dropCharge m).charge? n = s.charge? n := by
  simp only [State.charge?, State.dropCharge, vmap_toList, List.findSome?_map]
  refine congrArg (fun g => List.findSome? g s.charges.records.toList) (funext fun o => ?_)
  cases o with
  | none => rfl
  | some c =>
    by_cases hc : c.number = m
    · simp [hc, hmn]
    · simp [hc]

/-- The freeing tests of charges that are listed once, in order. -/
theorem freeTests_reporting {ns : List Nat} (hns : ns.Nodup) (s : State) : freeTests ns (reporting reports s) =
    reporting (reports ++ (ns.filter (frees s)).filterMap fun n => (s.charge? n).map ChargeRecord.freedReport)
      ((ns.filter (frees s)).foldl (fun s n => s.dropCharge n) s) := by
  induction ns generalizing s reports with
  | nil => simp [freeTests]
  | cons n ns ih =>
    obtain ⟨hn, hns⟩ := List.nodup_cons.1 hns
    show freeTests ns (freeTest n (reporting reports s)) = _
    cases hc : s.charge? n with
    | none =>
      have hfrees : frees s n = false := by rw [frees, hc]; rfl
      have hkept : freeTest n (reporting reports s) = reporting reports s := by
        rw [freeTest, reporting_charge?, hc]
      rw [hkept, ih hns, List.filter_cons_of_neg (by simp [hfrees])]
    | some c =>
      rw [freeTest_reporting reports hc]
      cases hfree : c.freeable with
      | false =>
        have hfrees : frees s n = false := by rw [frees, hc]; exact hfree
        rw [if_neg (by decide), ih hns, List.filter_cons_of_neg (by simp [hfrees])]
      | true =>
        have hfrees : frees s n = true := by rw [frees, hc]; exact hfree
        have hother (m : Nat) (hm : m ∈ ns) : (s.dropCharge n).charge? m = s.charge? m :=
          charge?_dropCharge_ne (fun h : n = m => hn (h ▸ hm)) s
        have hfilter : ns.filter (frees (s.dropCharge n)) = ns.filter (frees s) :=
          List.filter_congr fun m hm => by rw [frees, hother m hm]; rfl
        have hreports : (ns.filter (frees s)).filterMap (fun m => ((s.dropCharge n).charge? m).map ChargeRecord.freedReport) =
            (ns.filter (frees s)).filterMap fun m => (s.charge? m).map ChargeRecord.freedReport :=
          List.filterMap_congr fun m hm => by rw [hother m (List.mem_of_mem_filter hm)]
        rw [if_pos rfl, ih hns, hfilter, hreports, List.filter_cons_of_pos hfrees]
        simp [hc]

theorem freeTests_of_open {ns : List Nat} (hopen : ∀ n ∈ ns, ∀ c, s.charge? n = some c → c.state ≠ .closed) :
    freeTests ns (reporting reports s) = reporting reports s := by
  induction ns with
  | nil => rfl
  | cons n ns ih =>
    have hfirst : freeTest n (reporting reports s) = reporting reports s := by
      cases hc : s.charge? n with
      | none => rw [freeTest, reporting_charge?, hc]
      | some c => rw [freeTest_reporting reports hc, freeable_of_open (hopen n (by simp) c hc), if_neg (by decide)]
    show freeTests ns (freeTest n (reporting reports s)) = _
    rw [hfirst]
    exact ih fun m hm => hopen m (by simp [hm])

/-! ## The release of a blocked line (R117, R118, R142) -/

theorem mayRelease_iff : s.mayRelease = true ↔
    s.packs.held = [] ∧ ∀ x ∈ s.line.queue, ∀ c, x.decision = .accept c → s.packs.hasPlace c = true := by
  have hplace (x : Board) : (match x.decision.class? with | some c => s.packs.hasPlace c | none => true) = true ↔
      ∀ c, x.decision = .accept c → s.packs.hasPlace c = true := by
    cases hd : x.decision <;> simp [Decision.class?]
  rw [State.mayRelease, Bool.and_eq_true, decide_eq_true_eq, List.all_eq_true]
  exact and_congr_right fun _ => forall₂_congr fun x _ => hplace x

theorem drainTest_reporting (s : State) : drainTest (reporting reports s) =
    if s.line.state = .draining ∧ s.line.queue = [] ∧ s.packs.held = [] then
      reporting (reports ++ [(s.lineIn .stopped none).lineReport .drained]) (s.lineIn .stopped none)
    else reporting reports s := by
  rw [drainTest, reporting_line, reporting_packs, enterLine_reporting]

theorem unblock_of_unblocked (h : s.line.state ≠ .blocked) : unblock s = s := by
  unfold unblock
  split
  case h_1 hstate _ => exact absurd hstate h
  case h_2 hstate _ => exact absurd hstate h
  case h_3 => rfl

theorem unblock_of_running (hstate : s.line.state = .blocked) (hback : s.line.returnTo = some .running) :
    unblock s = reporting [(s.lineIn .running none).lineReport .bay] (s.lineIn .running none) := by
  rw [unblock, hstate, hback]
  exact LineStop.enterLine_eq ..

theorem unblock_of_draining (hstate : s.line.state = .blocked) (hback : s.line.returnTo = some .draining) :
    unblock s = drainTest (reporting [(s.lineIn .draining none).lineReport .bay] (s.lineIn .draining none)) := by
  rw [unblock, hstate, hback]
  exact congrArg drainTest (LineStop.enterLine_eq ..)

/-! ## BAY-CLEARED (R141) -/

/-- The line rules at the end of a clearing, behind the refill. -/
def released (s : State) : State := if s.mayRelease then unblock s else s

/-- The charges of a lineage that leaves its bay, each with one reference less (R47). -/
def unlistedAll (ns : List Nat) (s : State) : State := ns.foldl (fun s n => s.modCharge n ChargeRecord.unlisted) s

theorem unlisted_number (c : ChargeRecord) : c.unlisted.number = c.number := rfl

theorem unlistedAll_eq (ns : List Nat) (s : State) : ∃ charges, unlistedAll ns s = { s with charges := charges } := by
  induction ns generalizing s with
  | nil => exact ⟨s.charges, rfl⟩
  | cons n ns ih =>
    obtain ⟨charges, h⟩ := ih (s.modCharge n ChargeRecord.unlisted)
    exact ⟨charges, h⟩

theorem unlistedAll_charge (ns : List Nat) {s : State} (hc : s.charge? m = some c) :
    ∃ k, (unlistedAll ns s).charge? m = some { c with packRefs := c.packRefs - k } := by
  induction ns generalizing s c with
  | nil => exact ⟨0, hc⟩
  | cons n ns ih =>
    by_cases hn : n = m
    · subst hn
      obtain ⟨k, hk⟩ := ih (s := s.modCharge n ChargeRecord.unlisted) (c := c.unlisted)
        (by rw [charge?_modCharge n _ unlisted_number, hc]; rfl)
      refine ⟨1 + k, hk.trans ?_⟩
      rw [Nat.sub_add_eq]
      rfl
    · exact ih (s := s.modCharge n ChargeRecord.unlisted) ((charge?_modCharge_ne hn unlisted_number s).trans hc)

theorem unlistedAll_none (ns : List Nat) {s : State} (hc : s.charge? m = none) : (unlistedAll ns s).charge? m = none := by
  induction ns generalizing s with
  | nil => exact hc
  | cons n ns ih =>
    refine ih (s := s.modCharge n ChargeRecord.unlisted) ?_
    by_cases hn : n = m
    · subst hn
      rw [charge?_modCharge n _ unlisted_number, hc]
      rfl
    · exact (charge?_modCharge_ne hn unlisted_number s).trans hc

theorem unlistedAll_state (ns : List Nat) {s : State} (hc : (unlistedAll ns s).charge? m = some c) :
    ∃ d, s.charge? m = some d ∧ d.state = c.state := by
  cases hd : s.charge? m with
  | none => rw [unlistedAll_none ns hd] at hc; cases hc
  | some d =>
    obtain ⟨k, hk⟩ := unlistedAll_charge ns hd
    rw [hk] at hc
    obtain rfl := Option.some.inj hc
    exact ⟨d, rfl, rfl⟩

theorem modCharge_state {f : ChargeRecord → ChargeRecord} (hf : ∀ c, (f c).number = c.number ∧ (f c).state = c.state)
    (hc : (s.modCharge n f).charge? m = some c) : ∃ d, s.charge? m = some d ∧ d.state = c.state := by
  by_cases hn : n = m
  · subst hn
    rw [charge?_modCharge n f fun c => (hf c).1, Option.map_eq_some_iff] at hc
    obtain ⟨d, hd, rfl⟩ := hc
    exact ⟨d, hd, (hf d).2.symm⟩
  · rw [charge?_modCharge_ne hn fun c => (hf c).1] at hc
    exact ⟨c, hc, rfl⟩

theorem clearBay_of_none (hheld : s.packs.held = []) (hu : u = unlistedAll (p.lineage.map (·.charge)) (s.setBay b none)) :
    clearBay b p s = freeTests (p.lineage.map (·.charge)) (released u) := by
  obtain ⟨charges, hcharges⟩ := unlistedAll_eq (p.lineage.map (·.charge)) (s.setBay b none)
  have huheld : u.packs.held = [] := by
    rw [hu, hcharges]
    exact hheld
  have hcleared : clearBay b p s = freeTests (p.lineage.map (·.charge) ++ []) (released u) := by
    rw [clearBay]
    rw [show (p.lineage.map (·.charge)).foldl (fun s n => s.modCharge n ChargeRecord.unlisted) (s.setBay b none) = u from hu.symm,
      huheld]
    rfl
  rw [hcleared, List.append_nil]

/-- A held board of the class that opens a pack in the bay cleared (R140). -/
theorem clearBay_of_one (hheld : s.packs.held = [h]) (hu : u = unlistedAll (p.lineage.map (·.charge)) (s.setBay b none))
    (hclass : h.cls = bayClass b) {f : Fin 8} (hopen : u.packs.openBay h.cls = none) (hfree : u.packs.freeBay h.cls = some f)
    (hv : appendBoard (fun _ s => s) f h (openPack f h.cls { u with packs := { u.packs with held := [] } }) = v)
    (hleft : v.packs.held = []) :
    clearBay b p s = freeTests (p.lineage.map (·.charge) ++ [h.charge]) (released (drainTest v)) := by
  obtain ⟨charges, hcharges⟩ := unlistedAll_eq (p.lineage.map (·.charge)) (s.setBay b none)
  have huheld : u.packs.held = [h] := by
    rw [hu, hcharges]
    exact hheld
  have hrefill : refill (bayClass b) 1 u = (v, [h.charge]) := by
    have hfirst : takeFirst (fun h => decide (h.cls = bayClass b)) u.packs.held = some (h, []) := by
      rw [huheld, takeFirst, if_pos (decide_eq_true hclass)]
    have hplace : u.packs.hasPlace (bayClass b) = true := by
      rw [← hclass]
      simp [PackBuilder.hasPlace, hfree]
    have hpack : packBoard (fun _ s => s) h { u with packs := { u.packs with held := [] } } = v := by
      rw [packBoard, show ({ u with packs := { u.packs with held := [] } } : State).packs.openBay h.cls = none from hopen]
      dsimp only
      rw [show ({ u with packs := { u.packs with held := [] } } : State).packs.freeBay h.cls = some f from hfree]
      exact hv
    rw [refill, hfirst]
    dsimp only
    rw [if_pos hplace, hpack]
    rfl
  rw [clearBay]
  rw [show (p.lineage.map (·.charge)).foldl (fun s n => s.modCharge n ChargeRecord.unlisted) (s.setBay b none) = u from hu.symm,
    huheld, show refill (bayClass b) [h].length u = (v, [h.charge]) from hrefill, hleft]
  rfl

theorem actBayCleared_accepted {payload : List Byte} (hread : readNumber 8 payload = some b) (hb : s.packs.bays[b] = some p)
    (hprinted : p.printed = true) : actBayCleared payload s = done (clearBay b p s) := by
  simp only [actBayCleared, hread, hb]
  exact if_pos hprinted

/-- Settles O41. -/
theorem bayClearedFreesTheBay : Obligations.BayClearedFreesTheBay := by
  intro s tag b htakes
  have hread : readNumber 8 [byteOf b.val] = some b := readNumber_byteOf (by decide) b
  refine ⟨fun hrefused => ?_, fun p u hb hprinted hu => ?_⟩
  · refine exec_of_refuse (st := .state) htakes rfl ?_
    obtain hfree | ⟨p, hb, hunprinted⟩ := hrefused
    · simp only [actBayCleared, hread, hfree]
    · simp only [actBayCleared, hread, hb, hunprinted]
      rfl
  have hu' : u = unlistedAll (p.lineage.map (·.charge)) (s.setBay b none) := hu
  obtain ⟨charges, hcharges⟩ := unlistedAll_eq (p.lineage.map (·.charge)) (s.setBay b none)
  obtain ⟨huheld, huline, hutargets, hustore, hunow⟩ : u.packs.held = s.packs.held ∧ u.line = s.line ∧
      u.packs.targets = s.packs.targets ∧ u.store = s.store ∧ u.now = s.now := by
    rw [hu', hcharges]
    exact ⟨rfl, rfl, rfl, rfl, rfl⟩
  have hexec (reports : List Report) {t : State} (h : clearBay b p s = reporting reports t) :
      exec (.bayCleared tag [byteOf b]) s = .next (t.after reports (replyTo 0x25 tag [0x00])) :=
    exec_eq_after htakes rfl reports (by rw [actBayCleared_accepted hread hb hprinted, h]; rfl)
  refine ⟨fun freeable free freed hnone hnodup hfreeable hfree hfreed => ?_,
    fun h f c v hlineage hheld hclass hopen hfreeBay hc hstate htarget hv => ?_⟩
  · have hfrees : freeable = frees u := funext fun n => Bool.eq_iff_iff.2 ((hfreeable n).trans frees_iff.symm)
    have hfreeTests (reports : List Report) {t : State} (ht : t.charges = u.charges) :
        freeTests (p.lineage.map (·.charge)) (reporting reports t) = reporting (reports ++ freed) (free t) := by
      have hcharge : t.charge? = u.charge? := charge?_congr ht
      have hsame : frees t = frees u := funext fun n => by rw [frees, hcharge]; rfl
      rw [freeTests_reporting hnodup, hsame, hcharge, hfree, hfreed, hfrees]
    have hclear (reports : List Report) {t : State} (hrelease : released u = reporting reports t) (ht : t.charges = u.charges) :
        exec (.bayCleared tag [byteOf b]) s = .next ((free t).after (reports ++ freed) (replyTo 0x25 tag [0x00])) :=
      hexec _ (by rw [clearBay_of_none hnone hu', hrelease, hfreeTests reports ht])
    have hplaces : (∀ x ∈ s.line.queue, ∀ c, x.decision = .accept c → u.packs.hasPlace c = true) → released u = unblock u := by
      intro hplaces
      refine if_pos (mayRelease_iff.2 ⟨huheld.trans hnone, ?_⟩)
      rw [huline]
      exact hplaces
    refine ⟨fun hnot => hclear [] ?_ rfl, fun hblocked hback hall => hclear [_] ?_ rfl, fun hblocked hsome => hclear [] ?_ rfl,
      fun v hv hblocked hback hall => ⟨fun hboards => hclear [_] ?_ (by rw [hv]; rfl),
        fun hempty => hclear [_, _] ?_ (by rw [hv]; rfl)⟩⟩
    · rw [released, unblock_of_unblocked (by rw [huline]; exact hnot)]
      exact ite_self _
    · rw [hplaces hall, unblock_of_running (by rw [huline]; exact hblocked) (by rw [huline]; exact hback)]
    · obtain ⟨x, hx, c, haccept, hplace⟩ := hsome
      refine if_neg fun hrelease => ?_
      have := (mayRelease_iff.1 hrelease).2 x (by rw [huline]; exact hx) c haccept
      rw [hplace] at this
      cases this
    all_goals
      rw [hplaces hall, unblock_of_draining (by rw [huline]; exact hblocked) (by rw [huline]; exact hback), ← hv, drainTest_reporting]
    · rw [if_neg]
      rintro ⟨-, hempty, -⟩
      rw [hv] at hempty
      exact hboards ((congrArg Line.queue huline).symm.trans hempty)
    · refine if_pos ⟨by rw [hv]; rfl, ?_, ?_⟩
      · rw [hv]
        exact (congrArg Line.queue huline).trans hempty
      · rw [hv]
        exact huheld.trans hnone
  · obtain ⟨k, hucharge⟩ := unlistedAll_charge (p.lineage.map (·.charge)) (s := s.setBay b none) (m := h.charge) hc
    rw [← hu'] at hucharge
    have hopened : appendBoard (fun _ s => s) f h (openPack f h.cls { u with packs := { u.packs with held := [] } }) = v := by
      refine appendBoard_opened (s := { u with packs := { u.packs with held := [] } }) (c := { c with packRefs := c.packRefs - k })
        hucharge (by rw [← hutargets] at htarget; exact htarget) ?_ rfl
      rw [hv, ← hutargets, ← hustore, ← hunow]
      rfl
    have hvheld : v.packs.held = [] := by
      rw [hv]
      rfl
    have hvline : v.line = s.line := by
      rw [hv]
      exact huline
    have hvstate {n : Nat} {d : ChargeRecord} (hd : v.charge? n = some d) : ∃ c, s.charge? n = some c ∧ c.state = d.state := by
      rw [hv] at hd
      obtain ⟨c', hc', hsame⟩ := modCharge_state (f := fun c => { c with inFlight := c.inFlight - 1, packRefs := c.packRefs + 1 })
        (fun _ => ⟨rfl, rfl⟩) hd
      have hu'' : u.charge? n = some c' := hc'
      rw [hu'] at hu''
      obtain ⟨c, hc, hsame'⟩ := unlistedAll_state _ hu''
      exact ⟨c, hc, hsame'.trans hsame⟩
    have hclear (reports : List Report) {t : State} (hrelease : released (drainTest v) = reporting reports t)
        (ht : t.charges = v.charges) : exec (.bayCleared tag [byteOf b]) s = .next (t.after reports (replyTo 0x25 tag [0x00])) := by
      refine hexec _ ?_
      rw [clearBay_of_one hheld hu' hclass hopen hfreeBay hopened hvheld, hrelease]
      refine freeTests_of_open fun n hn d hd => ?_
      rw [charge?_congr ht] at hd
      obtain ⟨c', hc', hsame⟩ := hvstate hd
      rw [← hsame]
      obtain hn | hn := List.mem_append.1 hn
      · obtain ⟨e, he, rfl⟩ := List.mem_map.1 hn
        exact hlineage e he c' hc'
      · obtain rfl := List.mem_singleton.1 hn
        obtain rfl := Option.some.inj (hc.symm.trans hc')
        exact hstate
    have hdrain (hnot : ¬ (s.line.state = .draining ∧ s.line.queue = [])) : drainTest v = v := by
      rw [drainTest_eq, hvline]
      exact if_neg fun h => hnot ⟨h.1, h.2.1⟩
    refine ⟨fun hmoving => hclear [] ?_ rfl, fun hdraining hempty => hclear [_] ?_ rfl, fun hblocked hsome => hclear [] ?_ rfl,
      fun hblocked hback hall => hclear [_] ?_ rfl⟩
    · have hunblocked : v.line.state ≠ .blocked := by
        rw [hvline]
        obtain h | h | h := hmoving <;> rw [h] <;> decide
      rw [hdrain (by obtain h | h | h := hmoving <;> simp [h]), released, unblock_of_unblocked hunblocked]
      exact ite_self _
    · rw [drainTest_eq, hvline, if_pos ⟨hdraining, hempty, hvheld⟩, released]
      rw [unblock_of_unblocked (show LineState.stopped ≠ .blocked by decide)]
      exact ite_self _
    · obtain ⟨x, hx, c, haccept, hplace⟩ := hsome
      rw [hdrain (by simp [hblocked])]
      refine if_neg fun hrelease => ?_
      have := (mayRelease_iff.1 hrelease).2 x (by rw [hvline]; exact hx) c haccept
      rw [hplace] at this
      cases this
    · rw [hdrain (by simp [hblocked]), ← unblock_of_running (by rw [hvline]; exact hblocked) (by rw [hvline]; exact hback)]
      refine if_pos (mayRelease_iff.2 ⟨hvheld, ?_⟩)
      rw [hvline]
      exact hall

end Sys2Proof.Proofs.BayClearing
end

section
/-!
The tracking queue emptied (section 7.3, R48, R113): the gates settled, every board counted in its record, and the freeing tests of
the charges of the queue.
-/
namespace Sys2Proof.Proofs.Clearing
open Sys2Proof.Machine Sys2Proof.Proofs.Answers Sys2Proof.Proofs.Reporting Sys2Proof.Proofs.Invariants Sys2Proof.Proofs.BayClearing
set_option Elab.async false

variable {s t u : State} {n m : Nat} {c : ChargeRecord} {ns : List Nat} {reports : List Report}

/-! ## Charges listed more than once -/

theorem nodup_eraseDups (ns : List Nat) : ns.eraseDups.Nodup := by
  match ns with
  | [] => exact .nil
  | n :: ns =>
    have : (ns.filter fun b => !b == n).length < ns.length + 1 := Nat.lt_succ_of_le (List.length_filter_le _ _)
    rw [List.eraseDups_cons, List.nodup_cons]
    exact ⟨by simp, nodup_eraseDups _⟩
termination_by ns.length

theorem frees_freeTest (m : Nat) (s : State) : frees (freeTest m s) n = (frees s n && !decide (m = n)) := by
  cases hm : s.charge? m with
  | none =>
    have hkept : freeTest m s = s := by rw [freeTest, hm]
    rw [hkept]
    by_cases hmn : m = n
    · subst hmn
      simp [frees, hm]
    · simp [hmn]
  | some c =>
    cases hfree : c.freeable with
    | false =>
      rw [Stacking.freeTest_of_held hm hfree]
      by_cases hmn : m = n
      · subst hmn
        simp [frees, hm, hfree]
      · simp [hmn]
    | true =>
      have hdropped : freeTest m s = queueReport c.freedReport (s.dropCharge m) := by rw [freeTest, hm]; exact if_pos hfree
      have hcharge : frees (freeTest m s) n = frees (s.dropCharge m) n := by rw [hdropped]; rfl
      rw [hcharge]
      by_cases hmn : m = n
      · subst hmn
        have hgone : (s.dropCharge m).charge? m = none := by
          rw [State.charge?, List.findSome?_eq_none_iff]
          intro o ho
          rw [State.dropCharge, vmap_toList] at ho
          obtain ⟨o', -, rfl⟩ := List.mem_map.1 ho
          cases o' with
          | none => rfl
          | some d => by_cases hd : d.number = m <;> simp [hd]
        simp [frees, hgone]
      · rw [frees, charge?_dropCharge_ne hmn, frees]
        simp [hmn]

theorem freeTest_of_kept (h : frees s n = false) : freeTest n s = s := by
  cases hn : s.charge? n with
  | none => rw [freeTest, hn]
  | some c => exact Stacking.freeTest_of_held hn (by simpa [frees, hn] using h)

/-- A charge that is not freed may be left out of the tests. -/
theorem freeTests_filter (h : frees s n = false) : freeTests ns s = freeTests (ns.filter fun m => !m == n) s := by
  induction ns generalizing s with
  | nil => rfl
  | cons m ns ih =>
    show freeTests ns (freeTest m s) = _
    by_cases hmn : m = n
    · subst hmn
      rw [freeTest_of_kept h, ih h, List.filter_cons_of_neg (by simp)]
    · rw [ih (s := freeTest m s) (by rw [frees_freeTest, h]; rfl), List.filter_cons_of_pos (by simp [hmn])]
      rfl

theorem freeTests_eraseDups (ns : List Nat) (s : State) : freeTests ns s = freeTests ns.eraseDups s := by
  match ns with
  | [] => rfl
  | n :: ns =>
    have : (ns.filter fun b => !b == n).length < ns.length + 1 := Nat.lt_succ_of_le (List.length_filter_le _ _)
    have hkept : frees (freeTest n s) n = false := by rw [frees_freeTest]; simp
    rw [List.eraseDups_cons]
    show freeTests ns (freeTest n s) = freeTests (ns.filter fun b => !b == n).eraseDups (freeTest n s)
    rw [freeTests_filter hkept, freeTests_eraseDups (ns.filter fun b => !b == n)]
termination_by ns.length

/-- Records dropped one by one: those whose numbers are listed. -/
theorem dropCharges_eq (ns : List Nat) (s : State) : ns.foldl (fun s n => s.dropCharge n) s =
    { s with charges := { s.charges with
      records := vmap (fun o => o.bind fun c => if c.number ∈ ns then none else some c) s.charges.records } } := by
  induction ns generalizing s with
  | nil =>
    have hid : vmap (fun o : Option ChargeRecord => o.bind fun c => if c.number ∈ ([] : List Nat) then none else some c)
        s.charges.records = s.charges.records := by
      apply Vector.ext
      intro i hi
      cases h : s.charges.records[i] <;> simp [h]
    rw [hid]
    rfl
  | cons n ns ih =>
    refine (ih (s.dropCharge n)).trans ?_
    have hrecords : vmap (fun o : Option ChargeRecord => o.bind fun c => if c.number ∈ ns then none else some c)
        (s.dropCharge n).charges.records =
        vmap (fun o : Option ChargeRecord => o.bind fun c => if c.number ∈ n :: ns then none else some c) s.charges.records := by
      apply Vector.ext
      intro i hi
      simp only [State.dropCharge, vmap_getElem]
      cases s.charges.records[i] with
      | none => rfl
      | some c => by_cases hc : c.number = n <;> simp [hc]
    rw [hrecords]
    rfl

/-! ## The gates of an empty queue (R106, R126) -/

/-- The terminals with the gate demands of an empty queue driven where they change. -/
def gatesReleased (s : State) : Vector Terminal 16 :=
  vmap (fun r => if (r.fn = .redryGate ∧ s.line.redryDemand = true) ∨ (r.fn = .rejectGate ∧ s.line.rejectDemand = true)
    then r.driven false else r) s.terminals

theorem vmap_self {α : Type} {k : Nat} {f : α → α} (hf : ∀ a, f a = a) (v : Vector α k) : vmap f v = v := by
  rw [funext (g := id) hf]
  exact Ticks.vmap_id v

theorem redryReleased (s : State) : (if s.line.redryDemand = false then s
      else driveOutput .redryGate false (s.modLine fun l => { l with redryDemand := false })) =
    { s with
      line := { s.line with redryDemand := false }
      terminals := vmap (fun r => if r.fn = .redryGate ∧ s.line.redryDemand = true then r.driven false else r) s.terminals } := by
  cases hdemand : s.line.redryDemand with
  | false =>
    have hline : { s.line with redryDemand := false } = s.line := by rw [← hdemand]
    rw [if_pos rfl, hline, vmap_self fun r => by simp]
  | true =>
    rw [if_neg (by decide)]
    simp only [and_true]
    rfl

theorem rejectReleased (s : State) : (if s.line.rejectDemand = false then s
      else driveOutput .rejectGate false (s.modLine fun l => { l with rejectDemand := false })) =
    { s with
      line := { s.line with rejectDemand := false }
      terminals := vmap (fun r => if r.fn = .rejectGate ∧ s.line.rejectDemand = true then r.driven false else r) s.terminals } := by
  cases hdemand : s.line.rejectDemand with
  | false =>
    have hline : { s.line with rejectDemand := false } = s.line := by rw [← hdemand]
    rw [if_pos rfl, hline, vmap_self fun r => by simp]
  | true =>
    rw [if_neg (by decide)]
    simp only [and_true]
    rfl

theorem settleGates_emptied (hempty : s.line.queue = []) : settleGates s =
    { s with line := { s.line with redryDemand := false, rejectDemand := false }, terminals := gatesReleased s } := by
  have hredryFree : s.line.queue.any (·.spansRedry) = false := by rw [hempty]; rfl
  have hrejectFree : s.line.queue.any (·.spansReject) = false := by rw [hempty]; rfl
  have hboth : vmap (fun r : Terminal => if r.fn = .rejectGate ∧ s.line.rejectDemand = true then r.driven false else r)
      (vmap (fun r : Terminal => if r.fn = .redryGate ∧ s.line.redryDemand = true then r.driven false else r) s.terminals) =
      gatesReleased s := by
    apply Vector.ext
    intro i hi
    simp only [gatesReleased, vmap_getElem]
    by_cases hfn : s.terminals[i].fn = .redryGate
    · by_cases hdemand : s.line.redryDemand = true <;> simp [hfn, hdemand, Terminal.driven]
    · simp [hfn]
  unfold settleGates
  rw [hredryFree, hrejectFree]
  dsimp only
  rw [redryReleased]
  refine (rejectReleased _).trans ?_
  rw [← hboth]

/-! ## The boards settled in their records (R48) -/

/-- Every board of the queue counted in its record, where no untracked count passes its top. -/
theorem untrackBoards_settled (hbound : ∀ (i : Fin 12) (c : ChargeRecord), s.charges.records[i] = some c →
      c.counts.untracked + s.pendingOf c.number ≤ 4294967295) :
    untrackBoards s.line.queue s = { s with charges := { s.charges with
      records := vmap (Option.map s.settledRecord) s.charges.records } } := by
  obtain ⟨charges, hcharges⟩ := untrackBoards_eq s.line.queue s
  have htally := Starts.untrackBoards_tally s.line.queue s
  have hrecords : (untrackBoards s.line.queue s).charges.records = vmap (Option.map s.settledRecord) s.charges.records := by
    apply Vector.ext
    intro i hi
    rw [vmap_getElem]
    cases hc : s.charges.records[i] with
    | none => exact Starts.untrackBoards_none s.line.queue ⟨i, hi⟩ hc
    | some c =>
      obtain ⟨untracked, hrecord, hcount⟩ := Starts.untrackBoards_record s.line.queue ⟨i, hi⟩ hc
      refine hrecord.trans ?_
      rw [hcount (.inl (hbound ⟨i, hi⟩ c hc))]
      rfl
  rw [hcharges] at htally hrecords ⊢
  have hsettled : charges = { s.charges with records := vmap (Option.map s.settledRecord) s.charges.records } := by
    obtain ⟨records, tally⟩ := charges
    exact congrArg₂ ChargeTable.mk hrecords htally
  rw [hsettled]

/-- The tracking emptied, with the charges that it frees (R43, R113). -/
theorem emptyQueue_settled (hbound : ∀ (i : Fin 12) (c : ChargeRecord), s.charges.records[i] = some c →
      c.counts.untracked + s.pendingOf c.number ≤ 4294967295)
    (hu : u = { s with
      line := { s.line with queue := [], redryDemand := false, rejectDemand := false }
      terminals := gatesReleased s
      charges := { s.charges with records := vmap (Option.map s.settledRecord) s.charges.records } })
    (hns : (s.line.queue.filterMap (·.charge)).eraseDups = ns) :
    emptyQueue s = reporting ((ns.filter (frees u)).filterMap fun n => (u.charge? n).map ChargeRecord.freedReport)
      { u with charges := { u.charges with
        records := vmap (fun o => o.bind fun c => if c.number ∈ ns.filter (frees u) then none else some c) u.charges.records } } := by
  have hgates : settleGates (withQueue [] (untrackBoards s.line.queue s)) = u := by
    rw [untrackBoards_settled hbound, settleGates_emptied rfl, hu]
    rfl
  rw [emptyQueue_eq, hgates, freeTests_eraseDups, hns]
  have hfreed := freeTests_reporting (reports := []) (ns := ns) (hns ▸ nodup_eraseDups _) u
  rw [dropCharges_eq] at hfreed
  exact hfreed

end Sys2Proof.Proofs.Clearing
end

section
/-!
LINE-CONFIG, KNIFE-RESET and LINE-START (sections 7.1, 7.3, 7.11).
-/
namespace Sys2Proof.Proofs.LineStarts
open Sys2Proof.Machine Sys2Proof.Proofs.Answers Sys2Proof.Proofs.Reporting Sys2Proof.Proofs.Invariants Sys2Proof.Proofs.Clearing
set_option Elab.async false
open Sys2Proof.Proofs.BayClearing

variable {s t u : State} {n : Nat} {c : ChargeRecord} {reports : List Report}

/-! ## CLEAR_TRACKING (R43, R48, R113) -/

theorem charge?_of_recordsMap {g : ChargeRecord → ChargeRecord} (h : RecordsMap g s t) (hs : s.numbersApart) (n : Nat) :
    t.charge? n = (s.charge? n).map g := by
  cases hc : s.charge? n with
  | none =>
    have hnone := h.charge?_isSome n
    rw [hc] at hnone
    exact Option.isNone_iff_eq_none.1 (by simpa using hnone)
  | some c =>
    obtain ⟨hheld, hnumber⟩ := holdsRecord_of_charge? hc
    exact (charge?_eq_some_iff (h.numbersApart hs)).2 ⟨h.holdsRecord_iff.2 ⟨c, hheld, rfl⟩, (h.number c).trans hnumber⟩

/-- The tracking emptied, in the form of the statement: each record settled, and the closed ones that nothing holds freed. -/
theorem emptyQueue_freed {freedNow : ChargeRecord → Bool} (hapart : s.numbersApart)
    (hbound : ∀ (i : Fin 12) (c : ChargeRecord), s.charges.records[i] = some c →
      c.counts.untracked + s.pendingOf c.number ≤ 4294967295)
    (hfreed : ∀ c, freedNow c = true ↔ (∃ b ∈ s.line.queue, b.charge = some c.number) ∧ c.state = .closed ∧
      (s.settledRecord c).inFlight = 0 ∧ c.packRefs = 0) :
    emptyQueue s = reporting ((s.line.queue.filterMap (·.charge)).eraseDups.filterMap fun n =>
        (s.charge? n).bind fun c => if freedNow c then some (s.settledRecord c).freedReport else none)
      { s with
        line := { s.line with queue := [], redryDemand := false, rejectDemand := false }
        terminals := gatesReleased s
        charges := { s.charges with
          records := vmap (fun o => o.bind fun c => if freedNow c then none else some (s.settledRecord c)) s.charges.records } } := by
  generalize hns : (s.line.queue.filterMap (·.charge)).eraseDups = ns
  have hlisted (n : Nat) : n ∈ ns ↔ ∃ b ∈ s.line.queue, b.charge = some n := by
    rw [← hns, List.mem_eraseDups, List.mem_filterMap]
  obtain ⟨u, hu⟩ : ∃ u : State, u = { s with
      line := { s.line with queue := [], redryDemand := false, rejectDemand := false }
      terminals := gatesReleased s
      charges := { s.charges with records := vmap (Option.map s.settledRecord) s.charges.records } } := ⟨_, rfl⟩
  have hmap : RecordsMap s.settledRecord s u := ⟨fun _ => rfl, by rw [hu]⟩
  have hcharge (n : Nat) : u.charge? n = (s.charge? n).map s.settledRecord := charge?_of_recordsMap hmap hapart n
  have hnow {n : Nat} {c : ChargeRecord} (hc : s.charge? n = some c) (hn : n ∈ ns) : frees u n = freedNow c := by
    have hnumber := charge?_number hc
    rw [Bool.eq_iff_iff, frees_iff, hcharge, hc, hfreed, hnumber]
    constructor
    · rintro ⟨d, hd, hclosed, hflight, hrefs⟩
      obtain rfl := Option.some.inj hd
      exact ⟨(hlisted n).1 hn, hclosed, hflight, hrefs⟩
    · rintro ⟨-, hclosed, hflight, hrefs⟩
      exact ⟨_, rfl, hclosed, hflight, hrefs⟩
  have hreports : ((ns.filter (frees u)).filterMap fun n => (u.charge? n).map ChargeRecord.freedReport) =
      ns.filterMap fun n => (s.charge? n).bind fun c => if freedNow c then some (s.settledRecord c).freedReport else none := by
    rw [List.filterMap_filter]
    refine List.filterMap_congr fun n hn => ?_
    rw [hcharge]
    cases hc : s.charge? n with
    | none => exact ite_self _
    | some c =>
      rw [hnow hc hn]
      rfl
  have hrecords : vmap (fun o => o.bind fun c => if c.number ∈ ns.filter (frees u) then none else some c) u.charges.records =
      vmap (fun o => o.bind fun c => if freedNow c then none else some (s.settledRecord c)) s.charges.records := by
    apply Vector.ext
    intro i hi
    rw [hu]
    simp only [vmap_getElem]
    cases hc : s.charges.records[i] with
    | none => rfl
    | some c =>
      have hheld : s.charge? c.number = some c := (charge?_eq_some_iff hapart).2 ⟨⟨⟨i, hi⟩, hc⟩, rfl⟩
      have hmem : c.number ∈ ns.filter (frees u) ↔ freedNow c = true := by
        rw [List.mem_filter]
        constructor
        · rintro ⟨hn, hfree⟩
          rwa [← hnow hheld hn]
        · intro hfree
          have hn := (hlisted c.number).2 ((hfreed c).1 hfree).1
          exact ⟨hn, by rwa [hnow hheld hn]⟩
      rw [hu] at hmem
      exact if_congr hmem rfl rfl
  rw [emptyQueue_settled hbound hu hns, hreports, hrecords, hu]

/-- Boards of no charge leave the tracking without a trace in the records. -/
theorem emptyQueue_uncharged (hboards : ∀ b ∈ s.line.queue, b.charge = none) (hredry : s.line.redryDemand = false)
    (hreject : s.line.rejectDemand = false) : emptyQueue s = { s with line := { s.line with queue := [] } } := by
  have huntracked : untrackBoards s.line.queue s = s := by
    have hsame (boards : List Board) (h : ∀ b ∈ boards, b.charge = none) : untrackBoards boards s = s := by
      induction boards with
      | nil => rfl
      | cons b boards ih =>
        have hfirst : countCharge b.charge (ChargeRecord.untrack (decide (b.decision = .pending))) s = s := by
          rw [h b (by simp), countCharge]
        show untrackBoards boards (countCharge b.charge _ s) = s
        rw [hfirst]
        exact ih fun b hb => h b (by simp [hb])
    exact hsame _ hboards
  have hnone : s.line.queue.filterMap (·.charge) = [] := List.filterMap_eq_nil_iff.2 hboards
  rw [emptyQueue_eq, huntracked, hnone]
  exact Stacking.settleGates_of_settled hredry hreject

/-- A cleared tracking, behind what it freed. -/
theorem clearTracking_reporting (h : emptyQueue s = reporting reports t) : clearTracking s = reporting reports
    { t with line := { t.line with
      infeedCondition := if t.line.infeedCondition = .tracked then .untracked else t.line.infeedCondition } } := by
  rw [clearTracking, h, reporting_eq, reporting_eq]
  rfl

/-! ## LINE-START (R112, R113) -/

/-- The checks of a start, by the state of the line (R112). -/
def mayStart (clear : Bool) (s : State) : Prop :=
  s.port.latchHolds = false ∧ s.functionsHeld = true ∧
    ((s.line.state = .stopped ∧ s.feedCharge.isSome = true) ∨ (s.line.state = .tripped ∧ (s.line.queue = [] ∨ clear = true)))

theorem actLineStart_refused {payload : List Byte} {clear : Bool} (hread : readClearTracking payload = some clear)
    (h : ¬ mayStart clear s) : actLineStart payload s = refuse .state s := by
  unfold actLineStart
  rw [hread]
  dsimp only
  split
  case h_1 hstopped =>
    split
    · rfl
    split
    · rfl
    split
    · rfl
    rename_i hlatch hfeed hheld
    have hsome : s.feedCharge.isSome = true := by
      cases hc : s.feedCharge with
      | none => simp [hc] at hfeed
      | some c => rfl
    exact absurd ⟨by simpa using hlatch, by simpa using hheld, .inl ⟨hstopped, hsome⟩⟩ h
  case h_2 htripped =>
    split
    · rfl
    split
    · rfl
    split
    · rfl
    rename_i hlatch hqueue hheld
    refine absurd ⟨by simpa using hlatch, by simpa using hheld, .inr ⟨htripped, ?_⟩⟩ h
    by_cases hempty : s.line.queue = []
    · exact .inl hempty
    · exact .inr (by simpa [hempty] using hqueue)
  all_goals rfl

theorem actLineStart_running {payload : List Byte} {clear : Bool} (hread : readClearTracking payload = some clear)
    (h : mayStart clear s) (hfeed : s.feedCharge.isSome = true) :
    actLineStart payload s = done (enterLine .running none .request (clearIf clear s)) := by
  obtain ⟨hlatch, hheld, ⟨hstopped, -⟩ | ⟨htripped, hqueue⟩⟩ := h
  · have hsome : s.feedCharge.isNone = false := by
      cases hc : s.feedCharge with
      | none => simp [hc] at hfeed
      | some c => rfl
    rw [actLineStart, hread]
    dsimp only
    rw [hstopped, hlatch, hheld, hsome]
    rfl
  · have hcleared : ¬ (s.line.queue ≠ [] ∧ clear = false) := by
      rintro ⟨hqueue', hclear⟩
      obtain hqueue | hqueue := hqueue
      · exact hqueue' hqueue
      · simp [hclear] at hqueue
    rw [actLineStart, hread]
    dsimp only
    rw [htripped, hlatch, hheld]
    dsimp only
    rw [if_neg (by decide), if_neg hcleared, if_neg (by decide), if_pos hfeed]

theorem actLineStart_draining {payload : List Byte} {clear : Bool} (hread : readClearTracking payload = some clear)
    (h : mayStart clear s) (hfeed : s.feedCharge = none) :
    actLineStart payload s = done (enterDraining .request (clearIf clear s)) := by
  obtain ⟨hlatch, hheld, ⟨-, hsome⟩ | ⟨htripped, hqueue⟩⟩ := h
  · simp [hfeed] at hsome
  · have hcleared : ¬ (s.line.queue ≠ [] ∧ clear = false) := by
      rintro ⟨hqueue', hclear⟩
      obtain hqueue | hqueue := hqueue
      · exact hqueue' hqueue
      · simp [hclear] at hqueue
    rw [actLineStart, hread]
    dsimp only
    rw [htripped, hlatch, hheld]
    dsimp only
    rw [if_neg (by decide), if_neg hcleared, if_neg (by decide), hfeed]
    rfl

theorem enterDraining_reporting (cause : LineCause) (s : State) : enterDraining cause (reporting reports s) =
    if s.line.queue = [] ∧ s.packs.held = [] then
      reporting (reports ++ [(s.lineIn .draining none).lineReport cause,
        ((s.lineIn .draining none).lineIn .stopped none).lineReport .drained]) ((s.lineIn .draining none).lineIn .stopped none)
    else reporting (reports ++ [(s.lineIn .draining none).lineReport cause]) (s.lineIn .draining none) := by
  rw [enterDraining, enterLine_reporting, drainTest_reporting, List.append_assoc]
  exact if_congr (and_iff_right rfl) rfl rfl

/-- Settles O38. -/
theorem lineConfigAndStartByState : Obligations.LineConfigAndStartByState := by
  refine ⟨fun s tag payload htakes => ⟨fun cfg hread => ?_, ?_⟩, fun s tag payload clear htakes hread => ⟨fun hrefused => ?_,
    fun hlatch hheld => ⟨fun hclear hfeed hstate => ?_, fun u hclear hfeed hstate hboards hredry hreject hu => ?_,
      fun freedNow u freed hclear hstate hapart hbound hfreedNow hu hfreed => ?_, fun hclear hfeed htripped hempty => ?_⟩⟩⟩
  · have hrest : s.line.state.atRest = true ↔ s.line.state = .stopped ∨ s.line.state = .tripped := by
      cases s.line.state <;> decide
    by_cases hstate : s.line.state = .stopped ∨ s.line.state = .tripped
    · rw [if_pos hstate]
      refine exec_of_done htakes rfl ?_
      rw [actLineConfig, hread]
      exact if_pos (hrest.2 hstate)
    · rw [if_neg hstate]
      refine exec_of_refuse (st := .state) htakes rfl ?_
      rw [actLineConfig, hread]
      exact if_neg fun h => hstate (hrest.1 h)
  · exact exec_of_done htakes rfl rfl
  · refine exec_of_refuse (st := .state) htakes rfl (actLineStart_refused hread ?_)
    rintro ⟨hlatch, hheld, hstate⟩
    obtain h | h | h | h | h | ⟨h, hnone⟩ | ⟨h, hqueue, hclear⟩ := hrefused
    · simp [h] at hstate
    · simp [h] at hstate
    · simp [h] at hstate
    · simp [h] at hlatch
    · simp [h] at hheld
    · simp [h, hnone] at hstate
    · simp [h, hqueue, hclear] at hstate
  · have hmay : mayStart clear s := ⟨hlatch, hheld, hstate.imp (fun h => ⟨h, hfeed⟩) fun h => ⟨h.1, .inl h.2⟩⟩
    refine exec_eq_after htakes rfl [_] (fields := [0x00]) ?_
    rw [actLineStart_running hread hmay hfeed, hclear]
    exact congrArg done (LineStop.enterLine_eq ..)
  · have hmay : mayStart clear s := ⟨hlatch, hheld, hstate.imp (fun h => ⟨h, hfeed⟩) fun h => ⟨h, .inr hclear⟩⟩
    have hcleared : clearIf clear s = u := by
      rw [hclear, hu]
      exact clearTracking_reporting (reports := []) (emptyQueue_uncharged hboards hredry hreject)
    refine exec_eq_after htakes rfl [_] (fields := [0x00]) ?_
    rw [actLineStart_running hread hmay hfeed, hcleared]
    exact congrArg done (LineStop.enterLine_eq ..)
  · have hmay : mayStart clear s := ⟨hlatch, hheld, hstate.imp id fun h => ⟨h, .inr hclear⟩⟩
    have hcleared : clearIf clear s = reporting freed u := by
      rw [hclear, hu, hfreed]
      exact clearTracking_reporting (emptyQueue_freed hapart hbound hfreedNow)
    have hdraining := enterDraining_reporting (reports := freed) .request u
    have hempty : u.line.queue = [] := by rw [hu]
    have hheldBoards : u.packs.held = s.packs.held := by rw [hu]
    refine ⟨fun hfeed => exec_eq_after htakes rfl _ (fields := [0x00]) ?_, fun hfeed hheld => exec_eq_after htakes rfl _ (fields := [0x00]) ?_,
      fun hfeed hnone => exec_eq_after htakes rfl _ (fields := [0x00]) ?_⟩
    · rw [actLineStart_running hread hmay hfeed, hcleared, enterLine_reporting]
      rfl
    · rw [actLineStart_draining hread hmay hfeed, hcleared, hdraining, if_neg fun h => hheld (hheldBoards.symm.trans h.2)]
      rfl
    · rw [actLineStart_draining hread hmay hfeed, hcleared, hdraining, if_pos ⟨hempty, hheldBoards.trans hnone⟩]
      rfl
  · have hmay : mayStart clear s := ⟨hlatch, hheld, .inr ⟨htripped, .inl hempty⟩⟩
    have hdraining := enterDraining_reporting (reports := []) .request s
    have hact : actLineStart payload s = done (enterDraining .request s) := by
      rw [actLineStart_draining hread hmay hfeed, hclear]
      rfl
    refine ⟨fun hheld => exec_eq_after htakes rfl [_] (fields := [0x00]) ?_, fun hnone => exec_eq_after htakes rfl [_, _] (fields := [0x00]) ?_⟩
    · rw [hact]
      exact congrArg done (hdraining.trans (if_neg fun h => hheld h.2))
    · rw [hact]
      exact congrArg done (hdraining.trans (if_pos ⟨hempty, hnone⟩))

end Sys2Proof.Proofs.LineStarts
end

section
/-!
One advance of the encoder (section 7.6): what the points and the eyes leave of the position and of the encoder's terminal, and the
advance that brings no board to a point.
-/
namespace Sys2Proof.Proofs.Advances
open Sys2Proof.Machine Sys2Proof.Proofs.Answers Sys2Proof.Proofs.Reporting Sys2Proof.Proofs.Decisions Sys2Proof.Proofs.Eyes
set_option Elab.async false

variable {s t u : State} {e : Eye}

/-! ## What is left alone -/

/-- The position, the configuration and the filters of the line stand, every terminal keeps its function, and a terminal of the
encoder is the same. -/
structure Tracked (s t : State) : Prop where
  position : t.line.position = s.line.position
  config : t.line.config = s.line.config
  infeed : t.line.infeed = s.line.infeed
  outfeed : t.line.outfeed = s.line.outfeed
  fn (n : Fin 16) : t.terminals[n].fn = s.terminals[n].fn
  encoder (n : Fin 16) (h : s.terminals[n].fn = .encoder) : t.terminals[n] = s.terminals[n]

theorem Tracked.refl (s : State) : Tracked s s := ⟨rfl, rfl, rfl, rfl, fun _ => rfl, fun _ _ => rfl⟩

theorem Tracked.trans (h : Tracked s t) (g : Tracked t u) : Tracked s u where
  position := g.position.trans h.position
  config := g.config.trans h.config
  infeed := g.infeed.trans h.infeed
  outfeed := g.outfeed.trans h.outfeed
  fn n := (g.fn n).trans (h.fn n)
  encoder n hn := (g.encoder n ((h.fn n).trans hn)).trans (h.encoder n hn)

theorem Tracked.behind (g : Tracked t u) (h : Tracked s t) : Tracked s u := h.trans g

theorem Tracked.of_stateOnly (hline : stateOnly s.line t.line) (hterminals : t.terminals = s.terminals) : Tracked s t where
  position := by rw [hline]
  config := by rw [hline]
  infeed := by rw [hline]
  outfeed := by rw [hline]
  fn n := by rw [hterminals]
  encoder n _ := by rw [hterminals]

theorem Tracked.of_line (hline : t.line = s.line) (hterminals : t.terminals = s.terminals) : Tracked s t :=
  .of_stateOnly (hline ▸ .refl _) hterminals

theorem Tracked.ite {p : Prop} [Decidable p] (h : p → Tracked s t) (g : ¬ p → Tracked s u) : Tracked s (if p then t else u) := by
  split
  · exact h ‹_›
  · exact g ‹_›

/-! ## Lines and terminals -/

theorem tracked_driveOutput {f : TermFn} (hf : f ≠ .encoder) (demand : Bool) (s : State) : Tracked s (driveOutput f demand s) where
  position := rfl
  config := rfl
  infeed := rfl
  outfeed := rfl
  fn n := by
    simp only [driveOutput, Fin.getElem_fin, vmap_getElem]
    split <;> rfl
  encoder n h := by
    have hother : ¬ s.terminals[n].fn = f := fun h' => hf (h'.symm.trans h)
    simp only [driveOutput, Fin.getElem_fin, vmap_getElem]
    exact if_neg hother

theorem tracked_enterLine (st : LineState) (ret : Option ReturnState) (cause : LineCause) (s : State) :
    Tracked s (enterLine st ret cause s) :=
  (Tracked.of_stateOnly (t := s.modLine fun l => { l with state := st, returnTo := ret, stopDemand := st.stops }) rfl rfl).trans
    ((tracked_driveOutput (f := .lineStop) (by decide) st.stops _).trans (.of_line rfl rfl))

theorem tracked_trip (cause : LineCause) (s : State) : Tracked s (trip cause s) :=
  .ite (fun _ => .refl s) fun _ => tracked_enterLine ..

theorem tracked_applyActions (domain : Domain) (r : FaultRecord) (log : DomainLog × Placement) (a : ActionSet) (s : State) :
    Tracked s (applyActions domain r log a s) := by
  unfold applyActions
  generalize hreported : (if a.report then _ else s) = reported
  have hreport : Tracked s reported := by
    rw [← hreported]
    exact .ite (fun _ => .of_line rfl rfl) fun _ => .refl s
  refine hreport.trans ?_
  cases a.kilnCause with
  | none => exact .ite (fun _ => tracked_trip ..) fun _ => .refl _
  | some kind =>
    have hcauses : Tracked reported (applyCauses kind r.severity.level .fault domain.kilns reported) :=
      .of_line (applyCauses_line ..) (applyCauses_terminals ..)
    exact .ite (fun _ => hcauses.trans (tracked_trip ..)) fun _ => hcauses

theorem tracked_raise (kind : FaultKind) (domain : Domain) (x : FaultContext) (s : State) : Tracked s (raise kind domain x s) :=
  .ite (fun _ => .refl s) fun _ => .ite (fun _ => .of_line rfl rfl) fun _ => (tracked_applyActions ..).behind (.of_line rfl rfl)

theorem tracked_takeOwed (s : State) : Tracked s (takeOwed s) := by
  unfold takeOwed
  split
  · exact .refl s
  · exact (tracked_raise ..).behind (.of_line rfl rfl)

theorem tracked_drainTest (s : State) : Tracked s (drainTest s) :=
  .ite (fun _ => tracked_enterLine ..) fun _ => .refl s

theorem tracked_settleGates (s : State) : Tracked s (settleGates s) := by
  have hredry (s : State) (demand : Bool) : Tracked s (if s.line.redryDemand = demand then s
      else driveOutput .redryGate demand (s.modLine fun l => { l with redryDemand := demand })) :=
    .ite (fun _ => .refl s) fun _ => (tracked_driveOutput (by decide) demand _).behind
      ⟨rfl, rfl, rfl, rfl, fun _ => rfl, fun _ _ => rfl⟩
  have hreject (s : State) (demand : Bool) : Tracked s (if s.line.rejectDemand = demand then s
      else driveOutput .rejectGate demand (s.modLine fun l => { l with rejectDemand := demand })) :=
    .ite (fun _ => .refl s) fun _ => (tracked_driveOutput (by decide) demand _).behind
      ⟨rfl, rfl, rfl, rfl, fun _ => rfl, fun _ _ => rfl⟩
  exact (hreject ..).behind (hredry ..)

/-! ## Charges -/

theorem tracked_freeTest (n : Nat) (s : State) : Tracked s (freeTest n s) := by
  unfold freeTest
  split
  · exact .ite (fun _ => .of_line rfl rfl) fun _ => .refl s
  · exact .refl s

theorem tracked_countCharge (charge : Option Nat) (f : ChargeRecord → ChargeRecord) (s : State) :
    Tracked s (countCharge charge f s) := by
  cases charge with
  | none => exact .refl s
  | some n => exact .of_line rfl rfl

theorem tracked_tallied (d : Decision) (species : Fin 8) (s : State) : Tracked s (tallied d species s) :=
  .ite (fun _ => .of_line rfl rfl) fun _ => .refl s

theorem tracked_countDecision (b : Board) (s : State) : Tracked s (countDecision b s) := by
  cases hb : b.charge with
  | none =>
    rw [countDecision, hb]
    exact .refl s
  | some n =>
    cases hc : s.charge? n with
    | none =>
      rw [countDecision, hb]
      dsimp only
      rw [hc]
      exact .refl s
    | some c =>
      have htallied := Tracked.trans (.of_line rfl rfl : Tracked s (s.modCharge n (ChargeRecord.decided b.decision
        ((b.figures.bind (·.moisture)).map (·.mean))))) (tracked_tallied b.decision c.species _)
      rw [countDecision_of_charge hb hc rfl rfl rfl]
      exact .ite (fun _ => htallied.trans ((tracked_raise ..).behind (.of_line rfl rfl))) fun _ => htallied

/-! ## The points of a board -/

theorem tracked_modBoard (i : Nat) (f : Board → Board) (s : State) : Tracked s (s.modBoard i f) :=
  ⟨rfl, rfl, rfl, rfl, fun _ => rfl, fun _ _ => rfl⟩

theorem tracked_leaveAtGate (i : Nat) (b : Board) (s : State) : Tracked s (leaveAtGate i b s) := by
  have hleft (charge : Option Nat) : Tracked s (settleGates (countCharge charge ChargeRecord.landed
      (s.modLine fun l => { l with queue := l.queue.eraseIdx i }))) :=
    ((tracked_settleGates _).behind (tracked_countCharge ..)).behind ⟨rfl, rfl, rfl, rfl, fun _ => rfl, fun _ _ => rfl⟩
  unfold leaveAtGate
  cases b.charge with
  | none => exact (tracked_drainTest _).behind (hleft none)
  | some n => exact ((tracked_drainTest _).behind (tracked_freeTest n _)).behind (hleft (some n))

theorem tracked_reportBoard (b : Board) (s : State) : Tracked s (reportBoard b s) := .of_line rfl rfl

theorem tracked_askPlace (c : Fin 4) (s : State) : Tracked s (askPlace c s) := by
  refine .ite (fun _ => .refl s) fun _ => .trans (tracked_raise .bayBlock .packing (.packing none s.labels.queue.length) s) ?_
  dsimp only
  split
  case h_1 => exact tracked_enterLine ..
  case h_2 => exact tracked_enterLine ..
  all_goals exact .refl _

theorem tracked_judgeBoard (i : Nat) (b : Board) (s : State) : Tracked s (judgeBoard i b s) := by
  have hjudged (b' : Board) : Tracked s (reportBoard b' (countDecision b' (s.modBoard i fun _ => b'))) :=
    (tracked_modBoard ..).trans ((tracked_countDecision ..).trans (tracked_reportBoard ..))
  unfold judgeBoard
  dsimp only
  split
  · exact (hjudged _).trans (tracked_askPlace ..)
  · exact hjudged _

theorem tracked_testKnife (b : Board) (s : State) : Tracked s (testKnife b s) :=
  .ite (fun _ => (tracked_raise ..).behind ⟨rfl, rfl, rfl, rfl, fun _ => rfl, fun _ _ => rfl⟩) fun _ => .refl s

theorem tracked_takeSample (i : Nat) (b : Board) (s : State) : Tracked s (takeSample i b s) :=
  .ite (fun _ => .ite (fun _ => tracked_modBoard ..) fun _ => (tracked_modBoard ..).trans (tracked_raise ..))
    fun _ => tracked_modBoard ..

theorem tracked_passMeter (i : Nat) (b : Board) (s : State) : Tracked s (passMeter i b s) := by
  have hpassed : Tracked s (testKnife b ((s.modLine fun l =>
      { l with planedLength := min 4294967295 (l.planedLength + b.length.getD 0) }).modBoard i fun b => { b with pastMeter := true })) :=
    ((tracked_testKnife ..).behind (tracked_modBoard ..)).behind ⟨rfl, rfl, rfl, rfl, fun _ => rfl, fun _ _ => rfl⟩
  exact .ite (fun _ => hpassed.trans (tracked_judgeBoard ..)) fun _ => hpassed

theorem tracked_forceLate (i : Nat) (b : Board) (s : State) : Tracked s (forceLate i b s) :=
  (tracked_modBoard ..).trans ((tracked_raise ..).trans ((tracked_countDecision ..).trans (tracked_reportBoard ..)))

theorem tracked_takePoint (i : Nat) (b : Board) (p : Point) (s : State) : Tracked s (takePoint i b p s) := by
  cases p with
  | sample => exact tracked_takeSample ..
  | trailingMeter => exact tracked_passMeter ..
  | leadingRedry =>
    exact .ite (fun _ => tracked_forceLate ..) fun _ => .ite (fun _ => (tracked_modBoard ..).trans (tracked_settleGates _))
      fun _ => tracked_modBoard ..
  | leadingReject =>
    exact .ite (fun _ => (tracked_modBoard ..).trans (tracked_settleGates _)) fun _ => tracked_modBoard ..
  | trailingRedry | trailingReject =>
    exact .ite (fun _ => (tracked_modBoard ..).trans (tracked_leaveAtGate ..)) fun _ => tracked_modBoard ..

theorem tracked_takePoints (i fuel : Nat) (s : State) : Tracked s (takePoints i fuel s) := by
  induction fuel generalizing s with
  | zero => exact .refl s
  | succ fuel ih =>
    rw [takePoints]
    split
    · exact .refl s
    split
    · exact .refl s
    · exact .ite (fun _ => tracked_takePoint ..) fun _ => (tracked_takePoint ..).trans (ih _)

theorem tracked_takeBoards (i k : Nat) (s : State) : Tracked s (takeBoards i k s) := by
  induction k generalizing i s with
  | zero => exact .refl s
  | succ k ih => exact (tracked_takePoints i 670 s).trans (ih ..)

/-! ## The eyes -/

theorem tracked_infeedLeading (edge : Nat) (s : State) : Tracked s (infeedLeading edge s) := by
  unfold infeedLeading
  dsimp only
  refine .ite (fun _ => ?_) fun _ => (tracked_raise ..).behind ?_
  all_goals split <;> exact ⟨rfl, rfl, rfl, rfl, fun _ => rfl, fun _ _ => rfl⟩

theorem tracked_infeedTrailing (edge : Nat) (s : State) : Tracked s (infeedTrailing edge s) := by
  have hsettled : Tracked s (settleTail edge s) :=
    .ite (fun _ => ⟨rfl, rfl, rfl, rfl, fun _ => rfl, fun _ _ => rfl⟩) fun _ => .refl s
  exact hsettled.trans ⟨rfl, rfl, rfl, rfl, fun _ => rfl, fun _ _ => rfl⟩

theorem tracked_closePack (b : Fin 8) (reason : CloseReason) (s : State) : Tracked s (closePack b reason s) := by
  have hreport (b : Fin 8) (s : State) : Tracked s (reportPack b s) := by
    unfold reportPack
    split
    · exact .of_line rfl rfl
    · exact .refl s
  have hstart (s : State) : Tracked s (startHead s) := by
    unfold startHead
    split <;> exact .of_line rfl rfl
  have hjoin (b : Fin 8) (pack : Nat) (s : State) : Tracked s (joinLabels b pack false s) :=
    .ite (fun _ => (hstart _).behind (.of_line rfl rfl)) fun _ => .of_line rfl rfl
  have hadmit (b : Fin 8) (pack : Nat) (s : State) : Tracked s (admitLabel b pack s) :=
    .ite (fun _ => hjoin ..) fun _ => (tracked_raise ..).behind (.of_line rfl rfl)
  unfold closePack
  split
  · exact .refl s
  · exact ((hreport ..).behind (hadmit ..)).behind (.of_line rfl rfl)

theorem tracked_appendBoard (b : Fin 8) (h : HeldBoard) (s : State) : Tracked s (appendBoard freeTest b h s) := by
  unfold appendBoard
  split
  · exact .refl s
  · have hcounted (s : State) (bay : Option Pack) (first : Bool) :
        Tracked s (freeTest h.charge ((s.setBay b bay).modCharge h.charge (ChargeRecord.appended first))) :=
      (tracked_freeTest ..).behind (.of_line rfl rfl)
    exact .ite (fun _ => (hcounted ..).trans (tracked_closePack ..)) fun _ => hcounted ..

theorem tracked_placeBoard (h : HeldBoard) (s : State) : Tracked s (placeBoard h s) := by
  refine .ite (fun _ => ?_) fun _ => .ite (fun _ => .of_line rfl rfl) fun _ =>
    ((tracked_raise ..).behind (tracked_freeTest h.charge _)).behind (.of_line rfl rfl)
  unfold packBoard
  split
  · exact tracked_appendBoard ..
  split
  · exact (tracked_appendBoard ..).behind (.of_line rfl rfl)
  · exact .refl s

theorem tracked_outfeedLeading (s : State) : Tracked s (outfeedLeading s) := by
  have hmismatch (head : Option Board) : Tracked s (mismatch head s) := (tracked_raise ..).trans (tracked_trip ..)
  unfold outfeedLeading
  split
  · exact hmismatch _
  split
  · refine .ite (fun _ => ?_) fun _ => hmismatch _
    exact ((tracked_drainTest _).behind ((tracked_placeBoard ..).behind (tracked_settleGates _))).behind
      ⟨rfl, rfl, rfl, rfl, fun _ => rfl, fun _ _ => rfl⟩
  · exact hmismatch _

theorem tracked_eyeTaken (e : Eye) (level : Bool) (edge : Nat) (s : State) : Tracked s (eyeTaken e level edge s) := by
  cases e <;> cases level
  · exact tracked_infeedTrailing ..
  · exact tracked_infeedLeading ..
  · exact .refl s
  · exact tracked_outfeedLeading s

/-- The position of the line and a terminal of the encoder stand. -/
def placed (s t : State) : Prop :=
  t.line.position = s.line.position ∧ ∀ n : Fin 16, s.terminals[n].fn = .encoder → t.terminals[n] = s.terminals[n]

theorem Tracked.placed (h : Tracked s t) : placed s t := ⟨h.position, h.encoder⟩

theorem placed.trans (h : placed s t) (g : placed t u) : placed s u := by
  refine ⟨g.1.trans h.1, fun n hn => ?_⟩
  have hkept := h.2 n hn
  exact (g.2 n (by rw [hkept]; exact hn)).trans hkept

theorem placed_testFilter (e : Eye) (s : State) : placed s (testFilter e s) := by
  have htake (edge : Nat) : placed s (takeEye e edge s) := by
    have hset : placed s (s.modLine (Line.setFilter e ⟨!(s.line.filter e).taken, none⟩)) := by
      cases e <;> exact ⟨rfl, fun _ _ => rfl⟩
    have htaken : takeEye e edge s =
        eyeTaken e (!(s.line.filter e).taken) edge (s.modLine (Line.setFilter e ⟨!(s.line.filter e).taken, none⟩)) :=
      takeEye_eq (waiting := (s.line.filter e).waiting) (by simp) edge
    rw [htaken]
    exact hset.trans (tracked_eyeTaken ..).placed
  unfold testFilter
  split
  · exact ⟨rfl, fun _ _ => rfl⟩
  · split
    · exact htake _
    · exact ⟨rfl, fun _ _ => rfl⟩

/-! ## The advance (R119) -/

/-- A rising edge of the encoder: the position it leaves, then the points and the eyes. -/
theorem encoderRises_of_holder {m : Fin 16} (h : s.holder .encoder = some m) :
    encoderRises s = testFilter .infeed (testFilter .outfeed (takeAllPoints (s.pulsed m))) := by
  rw [encoderRises, h]
  rfl

theorem placed_encoderRises {m : Fin 16} (h : s.holder .encoder = some m) : placed (s.pulsed m) (encoderRises s) := by
  rw [encoderRises_of_holder h]
  exact (tracked_takeBoards ..).placed.trans ((placed_testFilter ..).trans (placed_testFilter ..))

theorem takeOwed_holder (s : State) (f : TermFn) : (takeOwed s).holder f = s.holder f :=
  Starts.holder_congr (tracked_takeOwed s).fn f

/-- The first statement: a pulse completes, and moves the position where a terminal holds ENCODER. -/
theorem encoderPulse_completes (s : State) : ∃ t : State, exec .encoderPulse s = .next t ∧
    (s.holder .encoder = none → t.line.position = s.line.position) ∧
    ∀ n : Fin 16, s.holder .encoder = some n →
      t.line.position = (s.line.position + s.line.config.resolution) % 2 ^ 48 ∧
      t.terminals[n] = { s.terminals[n] with input := true, pinHigh := s.terminals[n].polarity.through true } := by
  have howed := tracked_takeOwed s
  refine ⟨beginTransmit (encoderRises (takeOwed s)), rfl, fun hnone => ?_, fun n hn => ?_⟩
  · rw [encoderRises, takeOwed_holder, hnone]
    exact howed.position
  · have hholder : (takeOwed s).holder .encoder = some n := (takeOwed_holder s .encoder).trans hn
    obtain ⟨hposition, hterminals⟩ := placed_encoderRises hholder
    have hfn : (takeOwed s).terminals[n].fn = .encoder := Invariants.holder_fn hholder
    have hsame := howed.encoder n (Invariants.holder_fn hn)
    have hset : ((takeOwed s).pulsed n).terminals[n] =
        { (takeOwed s).terminals[n] with input := true, pinHigh := (takeOwed s).terminals[n].polarity.through true } :=
      Vector.getElem_set_self n.isLt
    refine ⟨hposition.trans ?_, (hterminals n (by rw [hset]; exact hfn)).trans ?_⟩
    · show ((takeOwed s).line.position + (takeOwed s).line.config.resolution) % 2 ^ 48 = _
      rw [howed.position, howed.config]
    · rw [hset, hsame]

theorem testFilter_of_near (h : ∀ edge, (s.line.filter e).waiting = some edge →
    distanceMm edge s.line.position < s.line.config.eyeFilter) : testFilter e s = s := by
  cases hwaiting : (s.line.filter e).waiting with
  | none => exact testFilter_of_none hwaiting
  | some edge =>
    rw [testFilter, hwaiting]
    exact if_neg (Nat.not_le.2 (h edge hwaiting))

theorem encoderPulse_of_no_holder (ho : s.port.dropOwed = none) (h : s.holder .encoder = none) :
    exec .encoderPulse s = .next (s.after [] none) :=
  exec_event_eq_after ho rfl [] (by rw [encoderRises, h]; rfl)

/-- The second statement: no board at a point and no change that has travelled the filter distance. -/
theorem encoderPulse_moves {m : Fin 16} (ho : s.port.dropOwed = none) (h : s.holder .encoder = some m)
    (hpoints : ∀ b ∈ s.line.queue, (s.pulsed m).atNoPoint b)
    (hfilters : ∀ e edge, (s.line.filter e).waiting = some edge →
      distanceMm edge (s.pulsed m).line.position < s.line.config.eyeFilter) :
    exec .encoderPulse s = .next ((s.pulsed m).after [] none) := by
  have hnear (e : Eye) : testFilter e (s.pulsed m) = s.pulsed m :=
    testFilter_of_near fun edge hwaiting => hfilters e edge (by cases e <;> exact hwaiting)
  refine exec_event_eq_after ho rfl [] ?_
  rw [encoderRises_of_holder h, takeAllPoints_of_atNoPoint hpoints, hnear, hnear]
  rfl

end Sys2Proof.Proofs.Advances
end

section
/-!
The points of the one board of a queue (sections 7.8, 7.9): which point falls first, what it makes of the line, and the pulse that
brings the board to it.
-/
namespace Sys2Proof.Proofs.BoardPoints
open Sys2Proof.Machine Sys2Proof.Proofs.Answers Sys2Proof.Proofs.Reporting Sys2Proof.Proofs.Decisions Sys2Proof.Proofs.Eyes
set_option Elab.async false
open Sys2Proof.Proofs.Advances

variable {s t u v w : State} {b b' : Board} {m : Fin 16} {p : Point} {x n : Nat} {reports : List Report}

/-! ## The point that falls first (R119) -/

theorem nextPoint_of_only (hp : s.reached b p = some x) (hothers : ∀ q, q ≠ p → s.reached b q = none) :
    s.nextPoint b = some p := by
  cases p with
  | sample | trailingMeter | leadingRedry | trailingRedry | leadingReject | trailingReject =>
    simp [State.nextPoint, allPoints, hp, hothers]

/-- The trailing edge past the redry gate falls before the one past a reject gate that lies behind it. -/
theorem nextPoint_of_trailingRedry (hp : s.reached b .trailingRedry = some x)
    (hothers : ∀ q, q ≠ .trailingRedry → q ≠ .trailingReject → s.reached b q = none)
    (hlater : ∀ y, s.reached b .trailingReject = some y → x ≤ y) : s.nextPoint b = some .trailingRedry := by
  cases hreject : s.reached b .trailingReject with
  | none =>
    refine nextPoint_of_only hp fun q hq => ?_
    by_cases hq' : q = .trailingReject
    · rw [hq', hreject]
    · exact hothers q hq hq'
  | some y =>
    have hfirst : ¬ y < x := Nat.not_lt.2 (hlater y hreject)
    simp [State.nextPoint, allPoints, hp, hothers, hreject, hfirst]

theorem reached_sample (hpending : b.decision = .pending) (htrailing : b.trailing = none)
    (hlead : s.line.config.meterPosition + b.nextSample * s.line.config.spacing ≤ s.leading b) :
    s.reached b .sample = some (s.line.config.meterPosition + b.nextSample * s.line.config.spacing) := by
  simp [State.reached, hpending, State.spansMeter, State.trailing, htrailing, hlead]

theorem reached_leadingRedry (hmark : b.marks.redryLeading = false) (hlead : s.line.config.redryGate ≤ s.leading b) :
    s.reached b .leadingRedry = some s.line.config.redryGate := by
  simp [State.reached, hmark, hlead]

theorem reached_leadingReject (hmark : b.marks.rejectLeading = false) (hlead : s.line.config.rejectGate ≤ s.leading b) :
    s.reached b .leadingReject = some s.line.config.rejectGate := by
  simp [State.reached, hmark, hlead]

theorem reached_trailingMeter (hmark : b.pastMeter = false) (hx : b.trailing = some x)
    (hgate : s.line.config.meterPosition ≤ distanceMm x s.line.position) :
    s.reached b .trailingMeter = some (s.line.config.meterPosition + b.length.getD 0) := by
  simp [State.reached, hmark, State.trailing, hx, hgate]

theorem reached_trailingRedry (hmark : b.marks.redryTrailing = false) (hx : b.trailing = some x)
    (hgate : s.line.config.redryGate ≤ distanceMm x s.line.position) :
    s.reached b .trailingRedry = some (s.line.config.redryGate + b.length.getD 0) := by
  simp [State.reached, hmark, State.trailing, hx, hgate]

theorem reached_trailingReject (hmark : b.marks.rejectTrailing = false) (hx : b.trailing = some x)
    (hgate : s.line.config.rejectGate ≤ distanceMm x s.line.position) :
    s.reached b .trailingReject = some (s.line.config.rejectGate + b.length.getD 0) := by
  simp [State.reached, hmark, State.trailing, hx, hgate]

/-- No reject edge is reached later than its gate behind the trailing edge. -/
theorem eq_of_reached_trailingReject (h : s.reached b .trailingReject = some x) :
    x = s.line.config.rejectGate + b.length.getD 0 := by
  unfold State.reached at h
  dsimp only at h
  split at h
  · cases h
  split at h
  · split at h
    · exact (Option.some.inj h).symm
    · cases h
  · cases h

theorem behindGate_of_none (h : b.trailing = none) (gate : Nat) : behindGate s b gate := by
  intro x hx
  rw [h] at hx
  cases hx

theorem behindGate_mono {gate gate' : Nat} (h : behindGate s b gate) (hle : gate ≤ gate') : behindGate s b gate' :=
  fun x hx => Nat.lt_of_lt_of_le (h x hx) hle

theorem atNoPoint_congr (hposition : t.line.position = s.line.position) (hconfig : t.line.config = s.line.config) :
    t.atNoPoint b ↔ s.atNoPoint b := by
  unfold State.atNoPoint State.leading
  rw [hposition, hconfig]

/-! ## The pulse that brings a board to one point -/

/-- The queue holds one board, no eye has a change that waits, and a terminal holds ENCODER. -/
structure OneBoard (s : State) (m : Fin 16) (b : Board) : Prop where
  notOwed : s.port.dropOwed = none
  holder : s.holder .encoder = some m
  queue : s.line.queue = [b]
  infeed : s.line.infeed.waiting = none
  outfeed : s.line.outfeed.waiting = none

/-- One point, after which the board has left or is at no point. -/
theorem takePoints_one (hqueue : u.line.queue = [b]) (hnext : u.nextPoint b = some p) (ht : takePoint 0 b p u = t)
    (hrest : t.line.queue = [] ∨ ∃ b', t.line.queue = [b'] ∧ t.atNoPoint b') (fuel : Nat) : takePoints 0 (fuel + 2) u = t := by
  have hhead : u.line.queue[0]? = some b := by rw [hqueue]; rfl
  rw [takePoints, hhead]
  dsimp only
  rw [hnext]
  dsimp only
  rw [ht, hqueue]
  obtain hempty | ⟨b', hqueue', hnone⟩ := hrest
  · exact if_pos (by rw [hempty]; exact Nat.zero_lt_one)
  · have hhead' : t.line.queue[0]? = some b' := by rw [hqueue']; rfl
    rw [if_neg (by rw [hqueue']; exact Nat.lt_irrefl 1), takePoints, hhead']
    dsimp only
    rw [nextPoint_of_atNoPoint hnone]

theorem exec_of_point (h : OneBoard s m b) (hu : u = s.pulsed m) (hnext : u.nextPoint b = some p)
    (ht : takePoint 0 b p u = reporting reports t) (hrest : t.line.queue = [] ∨ ∃ b', t.line.queue = [b'] ∧ t.atNoPoint b') :
    exec .encoderPulse s = .next (t.after reports none) := by
  have hqueue : u.line.queue = [b] := by rw [hu]; exact h.queue
  have hpoints : takeAllPoints u = reporting reports t := by
    rw [takeAllPoints, hqueue]
    refine takePoints_one hqueue hnext ht ?_ 668
    rw [reporting_line]
    exact hrest.imp_right fun ⟨b', hb', hnone⟩ =>
      ⟨b', hb', (atNoPoint_congr (by rw [reporting_line]) (by rw [reporting_line])).2 hnone⟩
  have htracked : Tracked u (reporting reports t) := by
    rw [← hpoints]
    exact tracked_takeBoards ..
  have hout : testFilter .outfeed (reporting reports t) = reporting reports t := testFilter_of_none <| by
    show (reporting reports t).line.outfeed.waiting = none
    rw [htracked.outfeed, hu]
    exact h.outfeed
  have hin : testFilter .infeed (reporting reports t) = reporting reports t := testFilter_of_none <| by
    show (reporting reports t).line.infeed.waiting = none
    rw [htracked.infeed, hu]
    exact h.infeed
  refine exec_event_eq_after h.notOwed rfl reports ?_
  rw [encoderRises_of_holder h.holder, ← hu, hpoints, hout, hin]

/-! ## The gates (R126) -/

theorem settleGates_redry (hdemand : s.line.redryDemand = false) (hspans : s.line.queue.any (·.spansRedry) = true)
    (hreject : s.line.rejectDemand = s.line.queue.any (·.spansReject)) :
    settleGates s = driveOutput .redryGate true (s.modLine fun l => { l with redryDemand := true }) := by
  have hchanges : ¬ s.line.redryDemand = true := by simp [hdemand]
  rw [settleGates, hspans, if_neg hchanges]
  exact if_pos hreject

theorem settleGates_reject (hredry : s.line.redryDemand = s.line.queue.any (·.spansRedry))
    (hdemand : s.line.rejectDemand = false) (hspans : s.line.queue.any (·.spansReject) = true) :
    settleGates s = driveOutput .rejectGate true (s.modLine fun l => { l with rejectDemand := true }) := by
  have hchanges : ¬ s.line.rejectDemand = true := by simp [hdemand]
  rw [settleGates, if_pos hredry, hspans]
  exact if_neg hchanges

theorem modBoard_one (hqueue : u.line.queue = [b]) (f : Board → Board) :
    u.modBoard 0 f = { u with line := { u.line with queue := [f b] } } := by
  rw [State.modBoard, State.modLine, hqueue]
  rfl

theorem reachRedry_opens (hqueue : u.line.queue = [b]) (hdecision : b.decision = .redry) (hdemand : u.line.redryDemand = false)
    (hreject : u.line.rejectDemand = b.spansReject) :
    reachRedry 0 b u = { u with
      terminals := vmap (fun r => if r.fn = .redryGate then r.driven true else r) u.terminals
      line := { u.line with
        queue := [{ b with marks := { b.marks with redryLeading := true }, spansRedry := true }], redryDemand := true } } := by
  unfold reachRedry
  dsimp only
  rw [if_neg (by rw [hdecision]; decide), if_pos hdecision, modBoard_one hqueue,
    settleGates_redry (by exact hdemand) rfl (by simpa using hreject)]
  rfl

theorem reachReject_opens (hqueue : u.line.queue = [b]) (hdecision : b.decision.rejected = true)
    (hdemand : u.line.rejectDemand = false) (hredry : u.line.redryDemand = b.spansRedry) :
    reachReject 0 b u = { u with
      terminals := vmap (fun r => if r.fn = .rejectGate then r.driven true else r) u.terminals
      line := { u.line with
        queue := [{ b with marks := { b.marks with rejectLeading := true }, spansReject := true }], rejectDemand := true } } := by
  unfold reachReject
  dsimp only
  rw [if_pos hdecision, modBoard_one hqueue, settleGates_reject (by simpa using hredry) (by exact hdemand) rfl]
  rfl

/-! ## A board that leaves at a gate (R43, R46, R117) -/

theorem modCharge_of_none {f : ChargeRecord → ChargeRecord} (h : s.charge? n = none) : s.modCharge n f = s := by
  have hrecords : vmap (Option.map fun c => if c.number = n then f c else c) s.charges.records = s.charges.records := by
    apply Vector.ext
    intro i hi
    rw [vmap_getElem]
    cases hc : s.charges.records[i] with
    | none => rfl
    | some c =>
      have hnumber : c.number ≠ n := fun hn => by
        have hnone := List.findSome?_eq_none_iff.1 h (some c) (hc ▸ Vector.mem_toList_iff.2 (Vector.getElem_mem hi))
        simp [hn] at hnone
      exact congrArg some (if_neg hnumber)
  rw [State.modCharge, hrecords]

/-- The freeing test of a board that has left the queue. -/
def testFreed (charge : Option Nat) (s : State) : State := charge.elim s fun n => freeTest n s

theorem leaveAtGate_eq (i : Nat) (b : Board) (s : State) : leaveAtGate i b s =
    drainTest (testFreed b.charge (settleGates (countCharge b.charge ChargeRecord.landed
      (s.modLine fun l => { l with queue := l.queue.eraseIdx i })))) := by
  unfold leaveAtGate
  cases b.charge <;> rfl

theorem freeable_iff (c : ChargeRecord) : c.freeable = true ↔ c.state = .closed ∧ c.inFlight = 0 ∧ c.packRefs = 0 := by
  simp [ChargeRecord.freeable, and_assoc]

/-- The charge of a board that has left: one board less in flight, and freed where nothing holds it. -/
theorem testFreed_landed {charge : Option Nat} {freed : List Report} (h : w.landed charge v freed) :
    testFreed charge (countCharge charge ChargeRecord.landed w) = reporting freed v := by
  obtain ⟨hnone, hsome⟩ := h
  cases charge with
  | none =>
    obtain ⟨rfl, rfl⟩ := hnone rfl
    rfl
  | some n =>
    have hnumber (c : ChargeRecord) : c.landed.number = c.number := rfl
    show freeTest n (w.modCharge n ChargeRecord.landed) = _
    cases hc : w.charge? n with
    | none =>
      obtain ⟨rfl, rfl⟩ := hnone hc
      rw [modCharge_of_none hc, freeTest, hc]
      rfl
    | some c =>
      obtain ⟨hfrees, hkeeps⟩ := hsome n c rfl hc
      have hlanded : (w.modCharge n ChargeRecord.landed).charge? n = some c.landed := by
        rw [charge?_modCharge n _ hnumber, hc]
        rfl
      have hfreeable : c.landed.freeable = true ↔ c.state = .closed ∧ c.inFlight ≤ 1 ∧ c.packRefs = 0 :=
        (freeable_iff _).trans (and_congr_right fun _ => and_congr_left fun _ => Nat.sub_eq_zero_iff_le)
      have htest := freeTest_reporting (reports := []) hlanded
      rw [dropCharge_modCharge n hnumber] at htest
      refine htest.trans ?_
      by_cases hfree : c.state = .closed ∧ c.inFlight ≤ 1 ∧ c.packRefs = 0
      · obtain ⟨rfl, rfl⟩ := hfrees hfree
        exact if_pos (hfreeable.2 hfree)
      · obtain ⟨rfl, rfl⟩ := hkeeps hfree
        exact if_neg (mt hfreeable.1 hfree)

theorem leaveAtGate_landed {freed : List Report} (hqueue : u.line.queue = [b'])
    (hw : w = { u with
      line := { u.line with queue := [], redryDemand := false, rejectDemand := false }, terminals := Clearing.gatesReleased u })
    (h : w.landed b.charge v freed) : leaveAtGate 0 b u = drainTest (reporting freed v) := by
  have hempty : u.modLine (fun l => { l with queue := l.queue.eraseIdx 0 }) = { u with line := { u.line with queue := [] } } := by
    rw [State.modLine, hqueue]
    rfl
  have hgates (charge : Option Nat) :
      settleGates (countCharge charge ChargeRecord.landed { u with line := { u.line with queue := [] } }) =
        countCharge charge ChargeRecord.landed w := by
    cases charge with
    | none =>
      rw [countCharge, Clearing.settleGates_emptied rfl, hw]
      rfl
    | some n =>
      rw [countCharge, Clearing.settleGates_emptied rfl, hw]
      rfl
  rw [leaveAtGate_eq, hempty, hgates, testFreed_landed h]

theorem landed_line {charge : Option Nat} {freed : List Report} (h : w.landed charge v freed) :
    v.line = w.line ∧ v.packs = w.packs := by
  obtain ⟨hnone, hsome⟩ := h
  cases hc : charge.bind (fun n => w.charge? n) with
  | none =>
    obtain ⟨rfl, -⟩ := hnone hc
    exact ⟨rfl, rfl⟩
  | some c =>
    obtain ⟨n, hcharge, hrecord⟩ := Option.bind_eq_some_iff.1 hc
    obtain ⟨hfrees, hkeeps⟩ := hsome n c hcharge hrecord
    by_cases hfree : c.state = .closed ∧ c.inFlight ≤ 1 ∧ c.packRefs = 0
    · obtain ⟨rfl, -⟩ := hfrees hfree
      exact ⟨rfl, rfl⟩
    · obtain ⟨rfl, -⟩ := hkeeps hfree
      exact ⟨rfl, rfl⟩

/-- The pulse with which a board leaves at a gate, and the drain test of a line with nothing left (R117). -/
theorem exec_of_leaving {freed : List Report} (h : OneBoard s m b) (hu : u = s.pulsed m) (hnext : u.nextPoint b = some p)
    (hpoint : takePoint 0 b p u = leaveAtGate 0 b' (u.modBoard 0 fun _ => b')) (hcharge : b'.charge = b.charge)
    (hw : w = { u with
      line := { u.line with queue := [], redryDemand := false, rejectDemand := false }, terminals := Clearing.gatesReleased u })
    (hlanded : w.landed b.charge v freed) :
    (s.line.state ≠ .draining ∨ s.packs.held ≠ [] → exec .encoderPulse s = .next (v.after freed none)) ∧
    (s.line.state = .draining → s.packs.held = [] → exec .encoderPulse s =
      .next ((v.lineIn .stopped none).after (freed ++ [(v.lineIn .stopped none).lineReport .drained]) none)) := by
  have hqueue : u.line.queue = [b] := by rw [hu]; exact h.queue
  have hleaves : takePoint 0 b p u = drainTest (reporting freed v) := by
    rw [hpoint, modBoard_one hqueue]
    exact leaveAtGate_landed rfl hw (hcharge.symm ▸ hlanded)
  obtain ⟨hline, hpacks⟩ := landed_line hlanded
  obtain ⟨hempty, hstate, hheld⟩ : v.line.queue = [] ∧ v.line.state = s.line.state ∧ v.packs.held = s.packs.held := by
    rw [hline, hpacks, hw, hu]
    exact ⟨rfl, rfl, rfl⟩
  rw [BayClearing.drainTest_reporting, hempty, hstate, hheld] at hleaves
  refine ⟨fun hnot => exec_of_point h hu hnext (hleaves.trans (if_neg ?_)) (.inl hempty),
    fun hdraining hnone => exec_of_point h hu hnext (hleaves.trans (if_pos ⟨hdraining, rfl, hnone⟩)) (.inl hempty)⟩
  rintro ⟨hdraining, -, hnone⟩
  obtain hnot | hnot := hnot
  · exact hnot hdraining
  · exact hnot hnone

/-! ## The meter head (R123, R124) -/

theorem stateOnly_countDecision (b : Board) (s : State) : stateOnly s.line (countDecision b s).line := by
  cases hb : b.charge with
  | none =>
    rw [countDecision, hb]
    exact .refl _
  | some n =>
    cases hc : s.charge? n with
    | none =>
      rw [countDecision, hb]
      dsimp only
      rw [hc]
      exact .refl _
    | some c =>
      have hline := tallied_line b.decision c.species
        (s.modCharge n (ChargeRecord.decided b.decision ((b.figures.bind (·.moisture)).map (·.mean))))
      rw [countDecision_of_charge hb hc rfl rfl rfl]
      split
      · refine stateOnly.trans ?_ (stateOnly_raise ..)
        exact hline ▸ .refl _
      · exact hline ▸ .refl _

theorem stateOnly_askPlace (c : Fin 4) (s : State) : stateOnly s.line (askPlace c s).line := by
  unfold askPlace
  split
  · exact .refl _
  have hraise : stateOnly s.line (raisePacking .bayBlock none s).line := stateOnly_raise ..
  dsimp only
  split
  case h_1 => exact hraise.trans rfl
  case h_2 => exact hraise.trans rfl
  all_goals exact hraise

/-- A board judged stands in the queue with its decision (R124). -/
theorem judgeBoard_queue (hqueue : u.line.queue = [b']) :
    (judgeBoard 0 b u).line.queue = [b.judged u.line.config (u.boardEntry b)] := by
  have hjudged (x : Board) : (reportBoard x (countDecision x (u.modBoard 0 fun _ => x))).line.queue = [x] := by
    rw [modBoard_one hqueue]
    exact Stacking.stateOnly.queue (stateOnly_countDecision x { u with line := { u.line with queue := [x] } })
  unfold judgeBoard
  dsimp only
  split
  · exact (Stacking.stateOnly.queue (stateOnly_askPlace ..)).trans (hjudged _)
  · exact hjudged _

theorem testKnife_queue (b : Board) (s : State) : (testKnife b s).line.queue = s.line.queue := by
  unfold testKnife
  split
  · exact (Stacking.stateOnly.queue (stateOnly_raise ..)).trans rfl
  · rfl

/-- The board past the meter head: decided, and otherwise as it was (R124). -/
theorem passMeter_queue (hqueue : u.line.queue = [b]) : ∃ b', (passMeter 0 b u).line.queue = [b'] ∧ b'.pastMeter = true ∧
    b'.decision ≠ .pending ∧ b'.marks = b.marks ∧ b'.entry = b.entry ∧ b'.trailing = b.trailing := by
  have hpassed : (testKnife b ((u.modLine fun l =>
      { l with planedLength := min 4294967295 (l.planedLength + b.length.getD 0) }).modBoard 0
      fun b => { b with pastMeter := true })).line.queue = [{ b with pastMeter := true }] := by
    rw [testKnife_queue, modBoard_one (by exact hqueue)]
  unfold passMeter
  dsimp only
  split
  · exact ⟨_, judgeBoard_queue hpassed, rfl, Invariants.decideBoard_decided _ _ _ _, rfl, rfl, rfl⟩
  · exact ⟨_, hpassed, rfl, ‹_›, rfl, rfl, rfl⟩

theorem forceLate_queue (hqueue : u.line.queue = [b']) :
    (forceLate 0 b u).line.queue = [{ b with decision := .reject .late }] := by
  have hforced (x : Board) (kind : FaultKind) (y : FaultContext) :
      (countDecision x (raise kind .line y (u.modBoard 0 fun _ => x))).line.queue = [x] := by
    rw [Stacking.stateOnly.queue (stateOnly_countDecision ..), Stacking.stateOnly.queue (stateOnly_raise ..), modBoard_one hqueue]
  exact hforced ..

end Sys2Proof.Proofs.BoardPoints
end

section
/-!
The encoder pulse that brings the one board of a queue to a point (sections 7.6, 7.8, 7.9).
-/
namespace Sys2Proof.Proofs.EncoderPulses
open Sys2Proof.Machine Sys2Proof.Proofs.Answers Sys2Proof.Proofs.Reporting Sys2Proof.Proofs.Decisions Sys2Proof.Proofs.Eyes
set_option Elab.async false
open Sys2Proof.Proofs.Advances Sys2Proof.Proofs.BoardPoints

variable {s u v w : State} {b : Board} {m : Fin 16} {x : Nat}

/-! ## The terminals behind a pulse -/

theorem pulsed_holder (hm : s.holder .encoder = some m) (f : TermFn) : (s.pulsed m).holder f = s.holder f := by
  refine Starts.holder_congr (fun n => ?_) f
  by_cases hn : n = m
  · subst hn
    have hset : (s.pulsed n).terminals[n] =
        { s.terminals[n] with input := true, pinHigh := s.terminals[n].polarity.through true } := Vector.getElem_set_self n.isLt
    rw [hset]
  · exact congrArg Terminal.fn (Vector.getElem_set_ne m.isLt n.isLt fun h => hn (Fin.ext h.symm))

theorem pulsed_terminal {f : TermFn} {n : Fin 16} (hm : s.holder .encoder = some m) (hn : s.holder f = some n) (hf : f ≠ .encoder) :
    (s.pulsed m).terminals[n] = s.terminals[n] := by
  have hother : m ≠ n := by
    rintro rfl
    exact hf ((Invariants.holder_fn hn).symm.trans (Invariants.holder_fn hm))
  exact Vector.getElem_set_ne m.isLt n.isLt fun h => hother (Fin.ext h)

theorem pulsed_conversionOf {f : TermFn} (hm : s.holder .encoder = some m) (hf : f ≠ .encoder) :
    (s.pulsed m).conversionOf f = s.conversionOf f := by
  rw [State.conversionOf, pulsed_holder hm, State.conversionOf]
  cases hn : s.holder f with
  | none => rfl
  | some n => exact congrArg Terminal.conversion (pulsed_terminal hm hn hf)

theorem pulsed_meterFaultLevel (hm : s.holder .encoder = some m) : (s.pulsed m).meterFaultLevel = s.meterFaultLevel := by
  rw [State.meterFaultLevel, pulsed_holder hm, State.meterFaultLevel]
  cases hn : s.holder .meterFault with
  | none => rfl
  | some n => exact congrArg Terminal.input (pulsed_terminal hm hn (by decide))

/-! ## Gates (R126) -/

/-- A REDRY board opens the redry gate with its leading edge. -/
theorem exec_redryOpens (h : OneBoard s m b) (hu : u = s.pulsed m) (hdecision : b.decision = .redry) (hpast : b.pastMeter = true)
    (hreject : s.line.rejectDemand = b.spansReject) (hmarks : b.marks = ⟨false, false, false, false⟩)
    (hdemand : s.line.redryDemand = false) (hlead : u.line.config.redryGate ≤ u.leading b)
    (hbefore : u.leading b < u.line.config.rejectGate) (hbehind : behindGate u b u.line.config.redryGate) :
    exec .encoderPulse s = .next (({ u with
        terminals := vmap (fun r => if r.fn = .redryGate then r.driven true else r) u.terminals
        line := { u.line with
          queue := [{ b with marks := ⟨true, false, false, false⟩, spansRedry := true }], redryDemand := true } } :
        State).after [] none) := by
  have hbehind' : behindGate u b u.line.config.rejectGate := behindGate_mono hbehind (hlead.trans hbefore.le)
  have hnext : u.nextPoint b = some .leadingRedry := by
    refine nextPoint_of_only (reached_leadingRedry (by rw [hmarks]) hlead) fun q hq => ?_
    cases q with
    | leadingRedry => exact absurd rfl hq
    | sample => exact reached_sample_none (.inl (by rw [hdecision]; decide))
    | trailingMeter => exact reached_trailingMeter_none (.inl hpast)
    | trailingRedry => exact reached_trailingRedry_none (.inr hbehind)
    | leadingReject => exact reached_leadingReject_none (.inr hbefore)
    | trailingReject => exact reached_trailingReject_none (.inr hbehind')
  have hopens := reachRedry_opens (u := u) (by rw [hu]; exact h.queue) hdecision (by rw [hu]; exact hdemand) (by rw [hu]; exact hreject)
  rw [hmarks] at hopens
  exact exec_of_point (reports := []) h hu hnext hopens (.inr ⟨_, rfl, fun hpending => absurd (hdecision.symm.trans hpending) (by decide),
    .inl hpast, .inl rfl, .inr hbehind, .inr hbefore, .inr hbehind'⟩)

/-- A REJECT or UNMEASURED board opens the reject gate with its leading edge. -/
theorem exec_rejectOpens {past : Bool} (h : OneBoard s m b) (hu : u = s.pulsed m)
    (hdecision : b.decision = .unmeasured ∨ ∃ reason, b.decision = .reject reason)
    (hpast : b.pastMeter = true ∨ behindGate u b u.line.config.meterPosition) (hredry : s.line.redryDemand = b.spansRedry)
    (hmarks : b.marks = ⟨true, past, false, false⟩) (hdemand : s.line.rejectDemand = false)
    (hlead : u.line.config.rejectGate ≤ u.leading b) (hleft : past = true ∨ behindGate u b u.line.config.redryGate)
    (hbehind : behindGate u b u.line.config.rejectGate) :
    exec .encoderPulse s = .next (({ u with
        terminals := vmap (fun r => if r.fn = .rejectGate then r.driven true else r) u.terminals
        line := { u.line with
          queue := [{ b with marks := ⟨true, past, true, false⟩, spansReject := true }], rejectDemand := true } } :
        State).after [] none) := by
  obtain ⟨hrejected, hdecided⟩ : b.decision.rejected = true ∧ b.decision ≠ .pending := by
    obtain hd | ⟨reason, hd⟩ := hdecision <;> rw [hd] <;> exact ⟨rfl, nofun⟩
  have hnext : u.nextPoint b = some .leadingReject := by
    refine nextPoint_of_only (reached_leadingReject (by rw [hmarks]) hlead) fun q hq => ?_
    cases q with
    | leadingReject => exact absurd rfl hq
    | sample => exact reached_sample_none (.inl hdecided)
    | trailingMeter => exact reached_trailingMeter_none hpast
    | leadingRedry => exact reached_leadingRedry_none (.inl (by rw [hmarks]))
    | trailingRedry => exact reached_trailingRedry_none (by rw [hmarks]; exact hleft)
    | trailingReject => exact reached_trailingReject_none (.inr hbehind)
  have hopens := reachReject_opens (u := u) (by rw [hu]; exact h.queue) hrejected (by rw [hu]; exact hdemand) (by rw [hu]; exact hredry)
  rw [hmarks] at hopens
  exact exec_of_point (reports := []) h hu hnext hopens (.inr ⟨_, rfl, fun hpending => absurd hpending hdecided, hpast, .inl rfl, hleft,
    .inl rfl, .inr hbehind⟩)

/-- The trailing edge of a board that spans the redry gate, past that gate. -/
theorem exec_redryLeaves {freed : List Report} (h : OneBoard s m b) (hu : u = s.pulsed m) (hdecided : b.decision ≠ .pending)
    (hpast : b.pastMeter = true) (hx : b.trailing = some x) (hspans : b.spansRedry = true)
    (hmarks : b.marks = ⟨true, false, false, false⟩) (hdemand : s.line.redryDemand = true) (hreject : s.line.rejectDemand = false)
    (hbefore : u.leading b < u.line.config.rejectGate) (hgate : u.line.config.redryGate ≤ distanceMm x u.line.position)
    (horder : u.line.config.redryGate < u.line.config.rejectGate)
    (hw : w = { u with
      terminals := vmap (fun r => if r.fn = .redryGate then r.driven false else r) u.terminals
      line := { u.line with queue := [], redryDemand := false } })
    (hlanded : w.landed b.charge v freed) :
    (s.line.state ≠ .draining ∨ s.packs.held ≠ [] → exec .encoderPulse s = .next (v.after freed none)) ∧
    (s.line.state = .draining → s.packs.held = [] → exec .encoderPulse s =
      .next ((v.lineIn .stopped none).after (freed ++ [(v.lineIn .stopped none).lineReport .drained]) none)) := by
  obtain ⟨hdemand', hreject'⟩ : u.line.redryDemand = true ∧ u.line.rejectDemand = false := by
    rw [hu]
    exact ⟨hdemand, hreject⟩
  have hnext : u.nextPoint b = some .trailingRedry := by
    refine nextPoint_of_trailingRedry (reached_trailingRedry (by rw [hmarks]) hx hgate) (fun q hq hq' => ?_) fun y hy => ?_
    · cases q with
      | trailingRedry => exact absurd rfl hq
      | trailingReject => exact absurd rfl hq'
      | sample => exact reached_sample_none (.inl hdecided)
      | trailingMeter => exact reached_trailingMeter_none (.inl hpast)
      | leadingRedry => exact reached_leadingRedry_none (.inl (by rw [hmarks]))
      | leadingReject => exact reached_leadingReject_none (.inr hbefore)
    · rw [eq_of_reached_trailingReject hy]
      omega
  have hreleased : Clearing.gatesReleased u = vmap (fun r => if r.fn = .redryGate then r.driven false else r) u.terminals := by
    simp [Clearing.gatesReleased, hdemand', hreject']
  have hline : { u.line with queue := [], redryDemand := false, rejectDemand := false } =
      { u.line with queue := [], redryDemand := false } := by rw [← hreject']
  exact exec_of_leaving h hu hnext (b' := { b with marks := { b.marks with redryTrailing := true } }) (if_pos hspans) rfl
    (by rw [hreleased, hline, hw]) hlanded

/-- The trailing edge of a board that spans the reject gate, past that gate. -/
theorem exec_rejectLeaves {freed : List Report} (h : OneBoard s m b) (hu : u = s.pulsed m) (hdecided : b.decision ≠ .pending)
    (hpast : b.pastMeter = true) (hx : b.trailing = some x) (hspans : b.spansReject = true)
    (hmarks : b.marks = ⟨true, true, true, false⟩) (hdemand : s.line.rejectDemand = true) (hredry : s.line.redryDemand = false)
    (hgate : u.line.config.rejectGate ≤ distanceMm x u.line.position)
    (hw : w = { u with
      terminals := vmap (fun r => if r.fn = .rejectGate then r.driven false else r) u.terminals
      line := { u.line with queue := [], rejectDemand := false } })
    (hlanded : w.landed b.charge v freed) :
    (s.line.state ≠ .draining ∨ s.packs.held ≠ [] → exec .encoderPulse s = .next (v.after freed none)) ∧
    (s.line.state = .draining → s.packs.held = [] → exec .encoderPulse s =
      .next ((v.lineIn .stopped none).after (freed ++ [(v.lineIn .stopped none).lineReport .drained]) none)) := by
  obtain ⟨hdemand', hredry'⟩ : u.line.rejectDemand = true ∧ u.line.redryDemand = false := by
    rw [hu]
    exact ⟨hdemand, hredry⟩
  have hnext : u.nextPoint b = some .trailingReject := by
    refine nextPoint_of_only (reached_trailingReject (by rw [hmarks]) hx hgate) fun q hq => ?_
    cases q with
    | trailingReject => exact absurd rfl hq
    | sample => exact reached_sample_none (.inl hdecided)
    | trailingMeter => exact reached_trailingMeter_none (.inl hpast)
    | leadingRedry => exact reached_leadingRedry_none (.inl (by rw [hmarks]))
    | trailingRedry => exact reached_trailingRedry_none (.inl (by rw [hmarks]))
    | leadingReject => exact reached_leadingReject_none (.inl (by rw [hmarks]))
  have hreleased : Clearing.gatesReleased u = vmap (fun r => if r.fn = .rejectGate then r.driven false else r) u.terminals := by
    simp [Clearing.gatesReleased, hdemand', hredry']
  have hline : { u.line with queue := [], redryDemand := false, rejectDemand := false } =
      { u.line with queue := [], rejectDemand := false } := by rw [← hredry']
  exact exec_of_leaving h hu hnext (b' := { b with marks := { b.marks with rejectTrailing := true } }) (if_pos hspans) rfl
    (by rw [hreleased, hline, hw]) hlanded

/-! ## The meter head (R123, R124, R125) -/

/-- A PENDING board at its next sample point. -/
theorem exec_samples {t : State} {b' : Board} (h : OneBoard s m b) (hu : u = s.pulsed m) (hpending : b.decision = .pending)
    (htrailing : b.trailing = none)
    (hlead : u.line.config.meterPosition + b.nextSample * u.line.config.spacing ≤ u.leading b)
    (hbefore : u.leading b < u.line.config.meterPosition + (b.nextSample + 1) * u.line.config.spacing)
    (hredry : u.leading b < u.line.config.redryGate) (hreject : u.leading b < u.line.config.rejectGate)
    (ht : takeSample 0 b u = t) (hline : stateOnly { u.line with queue := [b'] } t.line)
    (hb' : b'.nextSample = b.nextSample + 1 ∧ b'.trailing = b.trailing ∧ b'.entry = b.entry) :
    exec .encoderPulse s = .next (t.after [] none) := by
  have hnext : u.nextPoint b = some .sample := by
    refine nextPoint_of_only (reached_sample hpending htrailing hlead) fun q hq => ?_
    cases q with
    | sample => exact absurd rfl hq
    | trailingMeter => exact reached_trailingMeter_none (.inr (behindGate_of_none htrailing _))
    | leadingRedry => exact reached_leadingRedry_none (.inr hredry)
    | trailingRedry => exact reached_trailingRedry_none (.inr (behindGate_of_none htrailing _))
    | leadingReject => exact reached_leadingReject_none (.inr hreject)
    | trailingReject => exact reached_trailingReject_none (.inr (behindGate_of_none htrailing _))
  obtain ⟨hnextSample, htrailing', hentry⟩ := hb'
  have hleading : u.leading b' = u.leading b := by rw [State.leading, hentry]; rfl
  have hnone (gate : Nat) : behindGate u b' gate := behindGate_of_none (htrailing'.trans htrailing) gate
  have hpoint : u.atNoPoint b' := ⟨fun _ => by rw [hleading, hnextSample]; exact hbefore, .inr (hnone _), .inr (by rw [hleading]; exact hredry),
    .inr (hnone _), .inr (by rw [hleading]; exact hreject), .inr (hnone _)⟩
  exact exec_of_point (reports := []) h hu hnext ht (.inr ⟨b', Stacking.stateOnly.queue hline,
    (atNoPoint_congr (by rw [hline]) (by rw [hline])).2 hpoint⟩)

/-- The trailing edge of a board at the meter head. -/
theorem exec_passesMeter {length : Nat} (h : OneBoard s m b) (hu : u = s.pulsed m)
    (hredry : u.leading b < u.line.config.redryGate) (hreject : u.leading b < u.line.config.rejectGate)
    (hpast : b.pastMeter = false) (hx : b.trailing = some x) (hlength : b.length = some length)
    (hgate : u.line.config.meterPosition ≤ distanceMm x u.line.position) (hbehind : behindGate u b u.line.config.redryGate)
    (hbehind' : behindGate u b u.line.config.rejectGate)
    (hsampled : b.decision = .pending → length ≤ b.nextSample * u.line.config.spacing) :
    exec .encoderPulse s = .next ((passMeter 0 b u).after [] none) := by
  have hsample : u.reached b .sample = none := by
    by_cases hpending : b.decision = .pending
    · have hback : ¬ b.nextSample * u.line.config.spacing < length := Nat.not_lt.2 (hsampled hpending)
      have hpassed : ¬ distanceMm x u.line.position < u.line.config.meterPosition := Nat.not_lt.2 hgate
      exact reached_sample_none (.inr (.inl (by simp [State.spansMeter, State.trailing, State.trailingBefore, hx, hlength, hback, hpassed])))
    · exact reached_sample_none (.inl hpending)
  have hnext : u.nextPoint b = some .trailingMeter := by
    refine nextPoint_of_only (reached_trailingMeter hpast hx hgate) fun q hq => ?_
    cases q with
    | trailingMeter => exact absurd rfl hq
    | sample => exact hsample
    | leadingRedry => exact reached_leadingRedry_none (.inr hredry)
    | trailingRedry => exact reached_trailingRedry_none (.inr hbehind)
    | leadingReject => exact reached_leadingReject_none (.inr hreject)
    | trailingReject => exact reached_trailingReject_none (.inr hbehind')
  obtain ⟨b', hqueue, hpast', hdecided, -, hentry, htrailing⟩ := passMeter_queue (u := u) (b := b) (by rw [hu]; exact h.queue)
  have hleading : u.leading b' = u.leading b := by rw [State.leading, hentry]; rfl
  have hbehind'' {gate : Nat} (h : behindGate u b gate) : behindGate u b' gate := fun y hy => h y (htrailing.symm.trans hy)
  have htracked := tracked_passMeter 0 b u
  have hpoint : u.atNoPoint b' := ⟨fun hpending => absurd hpending hdecided, .inl hpast', .inr (by rw [hleading]; exact hredry),
    .inr (hbehind'' hbehind), .inr (by rw [hleading]; exact hreject), .inr (hbehind'' hbehind')⟩
  exact exec_of_point (reports := []) h hu hnext rfl (.inr ⟨b', hqueue,
    (atNoPoint_congr htracked.position htracked.config).2 hpoint⟩)

/-- A board that reaches the redry gate PENDING. -/
theorem exec_forcesLate (h : OneBoard s m b) (hu : u = s.pulsed m) (hpending : b.decision = .pending)
    (hmarks : b.marks = ⟨false, false, false, false⟩) (htrailing : b.trailing = none)
    (hlead : u.line.config.redryGate ≤ u.leading b) (hbefore : u.leading b < u.line.config.rejectGate)
    (hsample : u.leading b < u.line.config.meterPosition + b.nextSample * u.line.config.spacing) :
    exec .encoderPulse s = .next ((forceLate 0 { b with marks := ⟨true, false, false, false⟩ } u).after [] none) := by
  have hbehind (gate : Nat) : behindGate u b gate := behindGate_of_none htrailing gate
  have hnext : u.nextPoint b = some .leadingRedry := by
    refine nextPoint_of_only (reached_leadingRedry (by rw [hmarks]) hlead) fun q hq => ?_
    cases q with
    | leadingRedry => exact absurd rfl hq
    | sample => exact reached_sample_none (.inr (.inr hsample))
    | trailingMeter => exact reached_trailingMeter_none (.inr (hbehind _))
    | trailingRedry => exact reached_trailingRedry_none (.inr (hbehind _))
    | leadingReject => exact reached_leadingReject_none (.inr hbefore)
    | trailingReject => exact reached_trailingReject_none (.inr (hbehind _))
  have hforced : takePoint 0 b .leadingRedry u = forceLate 0 { b with marks := ⟨true, false, false, false⟩ } u := by
    show reachRedry 0 b u = _
    unfold reachRedry
    dsimp only
    rw [if_pos hpending, hmarks]
  have htracked := tracked_forceLate 0 { b with marks := ⟨true, false, false, false⟩ } u
  have hpoint : u.atNoPoint { b with marks := ⟨true, false, false, false⟩, decision := .reject .late } :=
    ⟨nofun, .inr (hbehind _), .inl rfl, .inr (hbehind _), .inr hbefore, .inr (hbehind _)⟩
  exact exec_of_point (reports := []) h hu hnext hforced (.inr ⟨_, forceLate_queue (by rw [hu]; exact h.queue),
    (atNoPoint_congr htracked.position htracked.config).2 hpoint⟩)

/-- What a sample point makes of the board, by the METER_FAULT level (R105, R123). -/
theorem takeSample_eq (hqueue : u.line.queue = [b]) :
    (∀ v temp, u.meterFaultLevel = false → u.conversionOf .meterIn = some v → u.conversionOf .tempIn = temp → b.pairs.length < 32 →
      takeSample 0 b u =
        { u with line := { u.line with queue := [{ b with pairs := b.pairs ++ [⟨v, temp⟩], nextSample := b.nextSample + 1 }] } }) ∧
    (u.meterFaultLevel = true → b.meterFault = true →
      takeSample 0 b u = { u with line := { u.line with queue := [{ b with nextSample := b.nextSample + 1 }] } }) ∧
    (u.meterFaultLevel = true → b.meterFault = false →
      takeSample 0 b u = raise .meterFault .line (.line (some b.number) b.charge (u.leading b))
        { u with line := { u.line with queue := [{ b with meterFault := true, nextSample := b.nextSample + 1 }] } }) := by
  unfold takeSample
  dsimp only
  simp only [modBoard_one hqueue]
  refine ⟨fun v temp hlevel hmeter htemp hroom => ?_, fun hlevel hfault => ?_, fun hlevel hfault => ?_⟩
  · rw [if_neg (by simp [hlevel]), hmeter, htemp, Board.withPair, if_pos hroom]
  · rw [if_pos hlevel, if_pos hfault, ← hfault]
  · rw [if_pos hlevel, if_neg (by simp [hfault])]
    rfl

/-- Settles O34. -/
theorem encoderPulseMovesTheBoards : Obligations.EncoderPulseMovesTheBoards := by
  refine ⟨encoderPulse_completes, fun s ho => ⟨encoderPulse_of_no_holder ho, fun n u hn hu hpoints hfilters => ?_⟩,
    fun s u n b cfg behind ho hn hqueue hin hout hu hcfg horder hbehind => ?_⟩
  · rw [hu] at hpoints hfilters ⊢
    exact encoderPulse_moves ho hn hpoints hfilters
  have h : OneBoard s n b := ⟨ho, hn, hqueue, hin, hout⟩
  have hgate (gate : Nat) (hg : behind gate) : behindGate u b gate := (hbehind gate).1 hg
  obtain rfl : u.line.config = cfg := by
    rw [hu, hcfg]
    rfl
  refine ⟨fun hdecision hpast hreject hspans hmarks hredry hlead hbefore hb => ?_,
    fun past hdecision hpast hredry hspans hmarks hreject hlead hleft hb => ?_,
    fun x w v freed hdecided hpast hx hcase hlanded => ?_, fun hmarks hredry => ⟨fun put hpending htrailing hlead hbefore hput => ?_,
    fun x length hpast hx hlength hmeter hb hsampled => ?_⟩, fun hpending hmarks htrailing hlead hbefore hsample => ?_⟩
  · exact exec_redryOpens h hu hdecision hpast (hreject.trans hspans.symm) hmarks hredry hlead hbefore (hgate _ hb)
  · exact exec_rejectOpens h hu hdecision (hpast.imp_right (hgate _)) (hredry.trans hspans.symm) hmarks hreject hlead
      (hleft.imp_right (hgate _)) (hgate _ hb)
  · obtain ⟨hspans, hmarks, hredry, hreject, hbefore, hpassed, hw⟩ | ⟨hspans, hmarks, hreject, hredry, hpassed, hw⟩ := hcase
    · exact exec_redryLeaves h hu hdecided hpast hx hspans hmarks hredry hreject hbefore hpassed horder hw hlanded
    · exact exec_rejectLeaves h hu hdecided hpast hx hspans hmarks hreject hredry hpassed hw hlanded
  · obtain ⟨hpair, hfaulty, hfault⟩ := takeSample_eq (u := u) (b := b) (by rw [hu]; exact hqueue)
    have hlevel : u.meterFaultLevel = s.meterFaultLevel := by rw [hu, pulsed_meterFaultLevel hn]
    have hsamples {t : State} {b' : Board} := exec_samples (t := t) (b' := b') h hu hpending htrailing hlead hbefore hredry
      (hredry.trans horder)
    refine ⟨fun m v temp hnofault hm hv htemp hroom => ?_, fun f hf hinput => ?_⟩
    · have hclear : u.meterFaultLevel = false := by
        rw [hlevel, State.meterFaultLevel]
        cases hf : s.holder .meterFault with
        | none => rfl
        | some f => exact hnofault f hf
      have hmeter : u.conversionOf .meterIn = some v := by
        rw [hu, pulsed_conversionOf hn (by decide), State.conversionOf, hm]
        exact hv
      have htemp' : u.conversionOf .tempIn = temp := by
        rw [hu, pulsed_conversionOf hn (by decide), State.conversionOf, htemp]
        cases s.holder .tempIn <;> rfl
      rw [hput]
      exact hsamples (hpair v temp hclear hmeter htemp' hroom) (.refl _) ⟨rfl, rfl, rfl⟩
    · have hset : u.meterFaultLevel = true := by
        rw [hlevel, State.meterFaultLevel, hf]
        exact hinput
      rw [hput, hput]
      exact ⟨fun hboard => hsamples (hfaulty hset hboard) (.refl _) ⟨rfl, rfl, rfl⟩,
        fun hboard => hsamples (hfault hset hboard) (stateOnly_raise ..) ⟨rfl, rfl, rfl⟩⟩
  · exact exec_passesMeter h hu hredry (hredry.trans horder) hpast hx hlength hmeter (hgate _ hb)
      (behindGate_mono (hgate _ hb) horder.le) hsampled
  · exact exec_forcesLate h hu hpending hmarks htrailing hlead hbefore hsample

end Sys2Proof.Proofs.EncoderPulses
end
